-- ==== Sys2Proof/Word.lean ====
section
/-!
DEFINITION. The word types of the Ahnoux block and the identifiers of its units (spec/02).
-/
namespace Sys2Proof

abbrev Byte := BitVec 8
abbrev W16 := BitVec 16
abbrev W32 := BitVec 32
abbrev W64 := BitVec 64

/-- A unit handle or group handle (R22, R26). -/
abbrev Handle := BitVec 32

/-- Weight die k stands for Wk (R5). -/
abbrev DieId := Fin 16
/-- Tile number 16 × die + tile: the holder code of the tile in R255. -/
abbrev TileId := Fin 256
/-- Engine number 16 × tile + engine. -/
abbrev EngineId := Fin 4096
/-- An object dictionary address: index and subindex. -/
structure ObjAddr where
  index : W16
  sub : Byte
  deriving DecidableEq, Repr

/-- The key under which an object's value is kept: 256 × index + subindex. -/
def ObjAddr.key (a : ObjAddr) : Nat := a.index.toNat * 256 + a.sub.toNat

end Sys2Proof
end

