-- ==== Sys2Proof/Syntax.lean ====
section
/-!
DEFINITION. The commands of the block: one constructor of Instr per row of spec/opcode_table.json, and the
structures their operands carry. A structure that the host stages (image, container, plan set, ENI) is an operand
with the fields of its layout; the verdict of a cryptographic check and every physical reading are operands too.
-/
namespace Sys2Proof

/-- What a routine word says about the issue of its fields: the predicate of R222, whether this field is the last of its
word, after which the sequencer has taken the word's cycle (R213), whether SECDED found the word uncorrectable (R193), and the
number of errors that SECDED corrected in the word and in what this field reads (R194). -/
structure WordTag where
  pen : Bool
  pneg : Bool
  platch : Fin 4
  last : Bool
  bad : Bool
  fixed : Nat := 0
  deriving DecidableEq, Repr

/-- Vector formats of R108, in the order of VFMT. -/
inductive VFmt | int8 | int16 | int32 | fp16 | bf16 | fp32
  deriving DecidableEq, Repr

/-- SCOPE and GSEL of the SYN field (R239, R284). -/
inductive SynScope
  | own
  | group (slot : Fin 16)
  | global
  deriving DecidableEq, Repr

/-- XOP of a movement descriptor (R238). -/
inductive XKind | move | load | store | hload | hstore | ticket
  deriving DecidableEq, Repr

/-- Where a done add goes (R238): `group n` names the group slot. -/
inductive DoneScope
  | own | group (slot : Fin 16) | global | none
  deriving DecidableEq, Repr

/-- Movement descriptor (spec/08). -/
structure MoveDesc where
  kind : XKind
  compress : Bool
  count : Nat
  target : Handle
  remote : Nat
  strides : List Int
  doneScope : DoneScope
  doneTs : Byte
  doneValue : Nat
  deriving DecidableEq, Repr

/-- Format entry of a container (spec/08). -/
structure FormatEntry where
  width : Nat
  signed : Bool
  perToken : Bool
  window : Bool
  zp : Int
  sA : W32
  clip : W32
  invS : W32
  deriving DecidableEq, Repr

/-- Placement entry of a container. -/
structure Placement where
  handle : Handle
  code : Nat
  length : Nat
  entry : Nat
  constFirst : Nat
  constRows : Nat
  workFirst : Nat
  workRows : Nat
  comb : List Nat
  deriving DecidableEq, Repr

/-- A rule of a variant group: 48-bit mask and value, and the path chosen (R221). -/
structure VariantRule where
  mask : BitVec 48
  value : BitVec 48
  path : Nat
  deriving DecidableEq, Repr

/-- Variant group record: paths as (start, length), and its rules. -/
structure VariantGroup where
  paths : List (Nat × Nat)
  rules : List VariantRule
  deriving DecidableEq, Repr

/-- A group descriptor (R27). -/
structure GroupDesc where
  number : Nat
  face : Nat
  throttle : Bool
  locked : Bool
  generation : W32
  members : List Handle
  deriving DecidableEq, Repr

/-- Statistics setup entry (section 0x0C). -/
structure StatSetup where
  handle : Handle
  reg : Fin 16
  ctl : W32
  clip : W32
  deriving DecidableEq, Repr

/-- Data rows of the constant region (section 0x0B): rows of 256 bytes as 2,048-bit values. -/
structure DataRows where
  handle : Handle
  first : Nat
  rows : List (BitVec 2048)
  deriving DecidableEq, Repr

/-- Declared band of a block (section 0x0A, R118). -/
structure DeclaredBand where
  engine : Handle
  block : Nat
  band : Nat
  deriving DecidableEq, Repr

/-- A routine container (R240, R241). The code section is kept as its 256-bit words. `shapeOk`: header, directory and the
reserved fields and codes of every entry agree with the tables of R240 and R241 (R215). -/
structure Container where
  magic : W32
  major : Nat
  minor : Nat
  continuity : Bool
  copyIndex : Nat
  programmeId : W32
  modelDigest : BitVec 384
  digest : BitVec 384
  frameTs : Byte
  flipTs : Byte
  commitTs : Byte
  placements : List Placement
  code : List (BitVec 256)
  formats : List FormatEntry
  strides : List (List Int)
  descs : List MoveDesc
  variants : List VariantGroup
  groupSlots : List Handle
  groups : List GroupDesc
  throttle : List Handle
  bands : List DeclaredBand
  dataRows : List DataRows
  stats : List StatSetup
  shapeOk : Bool
  deriving DecidableEq, Repr

/-- Verdict of the island on a signature trailer (R450, R451). `anchorOk`: the key id names an accepted anchor. -/
structure Trailer where
  purpose : Nat
  svn : Nat
  ecdsaOk : Bool
  mldsaOk : Bool
  anchorOk : Bool
  deriving DecidableEq, Repr

/-- Level set of a bank (SET of R146). -/
inductive LevelSet | bell | uniform4 | pair8 | binary
  deriving DecidableEq, Repr

/-- A safety-net entry (R129). -/
structure NetEntry where
  kind : Nat
  row : Fin 128
  string : Fin 256
  neg : Bool
  value : Int
  deriving DecidableEq, Repr

/-- Block record plaintext (spec/06). Codes are listed string by string, 128 codes each; `step` and `scales` are FP32
bit patterns; `gs` is the GS code. -/
structure BlockRecord where
  engine : Handle
  block : Nat
  set : LevelSet
  gs : Nat
  calset : Option Nat
  codes : List (List Nat)
  tempo : List (List Nat)
  exponent : List Nat
  fine : List Nat
  step : List W32
  scales : List (List W32)
  list : List NetEntry
  tagOk : Bool
  /-- Vectors of the calibration set that calset names, as the device keeps them beside the record (R165, R169). -/
  vectors : List (List Int) := []
  deriving DecidableEq, Repr

/-- A weight image as staged (R162 to R165). `extentsOk`: every extent lies before the trailer (R163). -/
structure Image where
  magic : W32
  major : Nat
  minor : Nat
  modelDigest : BitVec 384
  keyId : BitVec 128
  blocks : List BlockRecord
  sets : List (List (List Int))
  setTagsOk : Bool
  extentsOk : Bool
  length : Nat
  deriving DecidableEq, Repr

/-- One entry of a remap plan. -/
structure PlanEntry where
  srcEngine : Handle
  srcBlock : Nat
  target : Handle
  targetBlock : Nat
  deriving DecidableEq, Repr

/-- A remap plan (R174). -/
structure Plan where
  lostDie : Handle
  outMask : W16
  programme : BitVec 384
  continuity : BitVec 384
  modelDigest : BitVec 384
  entries : List PlanEntry
  deriving DecidableEq, Repr

/-- One output variable of an ENI (R470). -/
structure EniOutput where
  offset : Nat
  length : Nat
  default : List Byte
  deriving DecidableEq, Repr, Inhabited

/-- A network configuration after XML reading (R469). `features`: none is marked "no". -/
structure Eni where
  featuresOk : Bool
  cycleUs : Nat
  subdevices : Nat
  vars : Nat
  imageBytes : Nat
  dcCapable : Bool
  outputs : List EniOutput
  deriving DecidableEq, Repr, Inhabited

/-- What the TDCs of an engine capture in one slot (R61). -/
structure TdcCapture where
  cmin : BitVec 12
  cmax : BitVec 12
  codes : List (BitVec 12)
  deriving DecidableEq, Repr, Inhabited

/-- The calliope's view of a frame start (R294, R295): its distance from its edge, the correction the next frame needs,
whether distributed-clock time is available, and system time in ns. `badEntries`: tiles whose entry word SECDED finds
uncorrectable (R193); `free`: what the TDCs of free engines capture in slot 0 (R58). -/
structure EdgeInput where
  late : Int
  needed : Int
  dcAvailable : Bool
  sysTime : Nat
  badEntries : List TileId := []
  free : List (EngineId × TdcCapture) := []
  deriving DecidableEq, Repr

/-- Channel of a dictionary access (R12). -/
inductive Channel | p3 | mailbox
  deriving DecidableEq, Repr

/-- Origin of an HD or recall command: a list, or a host command (R347, R351). -/
inductive HdOrigin
  | list (n : Fin 16)
  | host
  deriving DecidableEq, Repr

/-- Width code W of an HD command: 2,048, 4,096 or 8,192 bits (R341). -/
inductive HdWidth | w2048 | w4096 | w8192
  deriving DecidableEq, Repr

/-- Integer formats of SIGN. -/
inductive SignFmt | int8 | int16 | int32
  deriving DecidableEq, Repr

/-- Tamper sensors (spec/16). -/
inductive TamperSensor
  | voltage | clock | glitch | temperature | light | mesh | lid
  deriving DecidableEq, Repr

/-- Roles of the security island (R445). -/
inductive Role | officer | user
  deriving DecidableEq, Repr

/-- A CSI-2 packet as a port receives it (R537). `headerOk`: the header was used, as sent or corrected. -/
structure CsiPacket where
  headerOk : Bool
  vc : Fin 16
  dataType : Byte
  crcOk : Bool
  payload : List Byte
  deriving DecidableEq, Repr

/-- A returned cyclic frame (R472): the returned input image, whether every working counter equals the ENI's value, the
AL status the BRD collected (true: every SubDevice in OP) and the station address of one outside OP. -/
structure CyclicReturn where
  wkcOk : Bool
  inputs : List Byte
  allInOp : Bool
  station : Nat
  delayUs : Nat
  dcOk : Bool
  deriving DecidableEq, Repr

/-- What the version offers of a Goine link lead to (R438, R439): a version in common, the device's minimum version, or none. -/
inductive GoineLink | agreed (version : Nat) | fallback | none
  deriving DecidableEq, Repr

/-- The findings of the start-up steps that measurement decides (R554, R555). -/
structure StartFindings where
  selfTestOk : Bool
  slotAOk : Bool
  slotBOk : Bool
  /-- By die: its modules G0 to G3 that trained within 28 cc, and its link. -/
  modules : List (List Bool)
  links : List GoineLink
  /-- By die: the quick self-test of step 6. -/
  tilesOk : List Bool
  /-- Engines with more than 16 misses of V0 to V7, and dies whose misses persist. -/
  strongmanFails : List EngineId
  strongmanOut : List DieId
  manifestsOk : Bool
  /-- Banks that fail the sampled strongman. -/
  sampledFails : List Nat
  /-- Array parts, by bank, and engine parts whose check fails (R116). -/
  failedBanks : List Nat
  failedEngines : List EngineId
  /-- The signatures of the boot set's structures verify (R557). -/
  bootSetOk : Bool
  timeMs : Nat
  csiMode : Byte
  deriving DecidableEq, Repr

/-- A firmware image offered to a slot. -/
structure Firmware where
  trailer : Trailer
  version : Nat
  digest : BitVec 384
  deriving DecidableEq, Repr

/-- The activity of one estimator interval for one channel: counts of k0 to k14 (R391). -/
structure Activity where
  channel : Fin 18
  counts : List Nat
  deriving DecidableEq, Repr

/-- A regulator report for one channel: voltage in mV and current in mA, or no valid sample (R392, R395). -/
structure RegReport where
  channel : Fin 18
  valid : Bool
  milliVolts : Nat
  milliAmps : Nat
  deriving DecidableEq, Repr

/-- States of an EtherCAT SubDevice or segment (R468). -/
inductive AlState | init | preOp | safeOp | op | boot
  deriving DecidableEq, Repr

/-- Operation of an SDO access: upload reads, download writes. -/
inductive SdoOp
  | upload
  | download (data : List Byte)
  /-- Complete access: every subindex of the object. -/
  | uploadAll
  | downloadAll (data : List Byte)
  deriving DecidableEq, Repr

/-- Anchors of the key store (0x2702). -/
inductive AnchorSlot
  | officer | user | owner (k : Fin 4)
  deriving DecidableEq, Repr

/-- An enrolment token's content (R466). -/
structure Token where
  trailer : Trailer
  generation : Nat
  officerAnchor : Nat
  deriving DecidableEq, Repr

/-- A cell that failed verify after 16 pulses: row, string, and its measured excess at f = 1 in 1/256 LSB (R135, R150). -/
structure FailedCell where
  row : Fin 128
  string : Fin 256
  excess : Int
  deriving DecidableEq, Repr

/-- The commands: one constructor per row of spec/opcode_table.json. -/
inductive Instr
  -- Routine words (spec/08, spec/10): the tile that issues, its word, and the field's operands.
  | loop (t : TileId) (w : WordTag) (last : BitVec 13) (trips : BitVec 11)
  | var (t : TileId) (w : WordTag) (group : Fin 16)
  | pend (t : TileId) (w : WordTag)
  | win (t : TileId) (w : WordTag) (latch : Fin 4) (reg : Fin 16)
  | hint (t : TileId) (w : WordTag) (phase : Byte)
  | fend (t : TileId) (w : WordTag)
  | nopWord (t : TileId) (bad : Bool)
  | arrive (t : TileId) (w : WordTag) (sc : SynScope) (n : Byte)
  | synAdd (t : TileId) (w : WordTag) (sc : SynScope) (n : Byte) (value : BitVec 14)
  | wait (t : TileId) (w : WordTag) (sc : SynScope) (n : Byte) (rel : Bool) (value : BitVec 14)
  | reset (t : TileId) (w : WordTag) (sc : SynScope) (n : Byte) (value : BitVec 14)
  | poison (t : TileId) (w : WordTag) (sc : SynScope) (n : Byte)
  | move (t : TileId) (w : WordTag) (desc : BitVec 12) (row : BitVec 13) (str : BitVec 6) (upset : List (Nat × BitVec 32))
  | load (t : TileId) (w : WordTag) (desc : BitVec 12) (row : BitVec 13) (str : BitVec 6)
  | store (t : TileId) (w : WordTag) (desc : BitVec 12) (row : BitVec 13) (str : BitVec 6)
  | hload (t : TileId) (w : WordTag) (desc : BitVec 12) (row : BitVec 13) (str : BitVec 6)
  | hstore (t : TileId) (w : WordTag) (desc : BitVec 12) (row : BitVec 13) (str : BitVec 6)
  | ticket (t : TileId) (w : WordTag) (desc : BitVec 12) (row : BitVec 13) (str : BitVec 6)
  | rd (t : TileId) (w : WordTag) (row : BitVec 13) (str : BitVec 6) (vreg : Fin 32) (upset : BitVec 32)
  | wr (t : TileId) (w : WordTag) (row : BitVec 13) (str : BitVec 6) (vreg : Fin 32) (st : Bool) (tag : Byte)
      (fmt : VFmt) (rs re : Bool)
  | feed (t : TileId) (w : WordTag) (row : BitVec 13) (str : BitVec 6) (emask : BitVec 16) (part : Fin 16) (fidx : Byte)
      (upset : BitVec 32)
  | fill (t : TileId) (w : WordTag) (row : BitVec 13) (str : BitVec 6) (vreg : Fin 32) (countM1 : BitVec 13)
  | memCopy (t : TileId) (w : WordTag) (row : BitVec 13) (str : BitVec 6) (dst : BitVec 13) (countM1 : BitVec 13)
      (upset : List (Nat × BitVec 32))
  | eval (t : TileId) (w : WordTag) (emask : BitVec 16) (block : BitVec 11) (pw : Fin 4) (matchSense clr bipolar : Bool)
      (str : BitVec 6) (badEntries : BitVec 16)
  | engAdd (t : TileId) (w : WordTag) (emask : BitVec 16) (toRows : Bool) (addr : BitVec 13) (str : BitVec 6)
  | clear (t : TileId) (w : WordTag) (emask : BitVec 16)
  | vecAdd (t : TileId) (w : WordTag) (f : VFmt) (vd va vb : Fin 32)
  | sub (t : TileId) (w : WordTag) (f : VFmt) (vd va vb : Fin 32)
  | mul (t : TileId) (w : WordTag) (f : VFmt) (vd va vb : Fin 32)
  | fma (t : TileId) (w : WordTag) (f : VFmt) (vd va vb vc : Fin 32)
  | max (t : TileId) (w : WordTag) (f : VFmt) (vd va vb : Fin 32)
  | min (t : TileId) (w : WordTag) (f : VFmt) (vd va vb : Fin 32)
  | abs (t : TileId) (w : WordTag) (f : VFmt) (vd va : Fin 32)
  | neg (t : TileId) (w : WordTag) (f : VFmt) (vd va : Fin 32)
  | wadd (t : TileId) (w : WordTag) (f : VFmt) (vd va vb : Fin 32)
  | cmpeq (t : TileId) (w : WordTag) (f : VFmt) (vd va vb : Fin 32)
  | cmplt (t : TileId) (w : WordTag) (f : VFmt) (vd va vb : Fin 32)
  | cmple (t : TileId) (w : WordTag) (f : VFmt) (vd va vb : Fin 32)
  | sel (t : TileId) (w : WordTag) (f : VFmt) (vd va vb vc : Fin 32)
  | and (t : TileId) (w : WordTag) (f : VFmt) (vd va vb : Fin 32)
  | or (t : TileId) (w : WordTag) (f : VFmt) (vd va vb : Fin 32)
  | xor (t : TileId) (w : WordTag) (f : VFmt) (vd va vb : Fin 32)
  | shl (t : TileId) (w : WordTag) (f : VFmt) (vd va : Fin 32) (imm : Byte)
  | shra (t : TileId) (w : WordTag) (f : VFmt) (vd va : Fin 32) (imm : Byte)
  | cvt (t : TileId) (w : WordTag) (f : VFmt) (vd va : Fin 32) (dst : VFmt) (part : Fin 4)
  | qnt (t : TileId) (w : WordTag) (f : VFmt) (vd va vb vc : Fin 32) (tag : Byte) (imm : Byte) (rs re : Bool)
  | pack (t : TileId) (w : WordTag) (vd va vb : Fin 32) (nibbles : Bool)
  | dq (t : TileId) (w : WordTag) (vd va vb vc : Fin 32)
  | dqt (t : TileId) (w : WordTag) (vd va vb vc : Fin 32) (entry : Fin 32)
  | vecRot (t : TileId) (w : WordTag) (f : VFmt) (vd va : Fin 32) (imm : Byte)
  | macw (t : TileId) (w : WordTag) (f : VFmt) (vd va vb : Fin 32) (part : Fin 4)
  | rsum (t : TileId) (w : WordTag) (f : VFmt) (vd va : Fin 32)
  | rmax (t : TileId) (w : WordTag) (f : VFmt) (vd va : Fin 32)
  | rcp (t : TileId) (w : WordTag) (f : VFmt) (vd va : Fin 32)
  | rsqrt (t : TileId) (w : WordTag) (f : VFmt) (vd va : Fin 32)
  | exp (t : TileId) (w : WordTag) (f : VFmt) (vd va : Fin 32)
  | stclr (t : TileId) (w : WordTag) (reg : Fin 16)
  | strd (t : TileId) (w : WordTag) (vd : Fin 32) (reg : Fin 16)
  | stwr (t : TileId) (w : WordTag) (va : Fin 32) (reg : Fin 16)
  | flrd (t : TileId) (w : WordTag) (vd : Fin 32)
  | flclr (t : TileId) (w : WordTag)
  | wscl (t : TileId) (w : WordTag) (vd : Fin 32) (latch : Fin 4)
  | bcast (t : TileId) (w : WordTag) (f : VFmt) (vd va : Fin 32) (imm : Byte)
  -- Events of the tiles, engines and slots.
  | resultLanding (t : TileId)
  | arraySlot (e : EngineId) (c : TdcCapture)
  | laneUpdate (e : EngineId) (badEntries : List Nat)
  | slotStart (d : DieId) (free : List (EngineId × TdcCapture)) (badWords : List TileId)
  | droopSample (channel : Fin 17) (milliVolts : Nat)
  | droopLimitRise (d : DieId)
  | frameStart (edge : EdgeInput)
  | commitDeadline
  | commitRecordsComplete (set : Fin 4)
  | globalUpdateArrival
  | shadowUpdate (d : DieId)
  | moveRowLanding (t : TileId)
  | narrowRowWrite (t : TileId) (transfer : Option Nat)
  | ticketRequestReceived (t : TileId)
  | ticketGrant (t : TileId)
  | transferDone (t : TileId) (k : Nat) (upset fixed : List Nat)
  | goineFlitDelivery (d : DieId) (m : Fin 4) (toHub late : Bool) (flit : BitVec 320)
  | kvSpill
  | kvGather
  | processDataForward (seg : Fin 3)
  | outputCollect (entry : Fin 256)
  -- The HD engine (spec/12).
  | hdNop (o : HdOrigin)
  | gen (o : HdOrigin) (w : HdWidth) (d : Fin 32) (id : W32) (slot : Fin 4)
  | bind (o : HdOrigin) (w : HdWidth) (d a b : Fin 32)
  | not (o : HdOrigin) (w : HdWidth) (d a : Fin 32)
  | hdCopy (o : HdOrigin) (w : HdWidth) (d a : Fin 32)
  | hdRot (o : HdOrigin) (w : HdWidth) (d a : Fin 32) (k : BitVec 13)
  | car (o : HdOrigin) (w : HdWidth) (d a : Fin 32) (c : Fin 8) (inverse : Bool)
  | bclr (o : HdOrigin) (acc : Fin 4)
  | badd (o : HdOrigin) (w : HdWidth) (acc : Fin 4) (a : Fin 32) (weight : Byte) (subtract : Bool)
  | baddx (o : HdOrigin) (w : HdWidth) (acc : Fin 4) (a b : Fin 32) (weight : Byte) (subtract : Bool)
  | bthr (o : HdOrigin) (w : HdWidth) (d : Fin 32) (acc : Fin 4)
  | level (o : HdOrigin) (w : HdWidth) (d : Fin 32) (slot : Fin 16) (hbo : W32)
  | record (o : HdOrigin) (w : HdWidth) (d : Fin 32) (acc : Fin 4) (hbo : W32)
  | seq (o : HdOrigin) (w : HdWidth) (d a : Fin 32) (acc : Fin 4) (mM1 : Fin 16) (r : BitVec 13) (bundle : Bool)
  | loadv (o : HdOrigin) (w : HdWidth) (d : Fin 32) (hbo : W32)
  | storev (o : HdOrigin) (w : HdWidth) (a : Fin 32) (hbo : W32)
  | sign (o : HdOrigin) (w : HdWidth) (d : Fin 32) (fmt : SignFmt) (hbo : W32)
  | outv (o : HdOrigin) (w : HdWidth) (a : Fin 32) (tile : Handle) (row : BitVec 13) (ts : Byte) (value : BitVec 14)
  | outvWrite
  | addg (o : HdOrigin) (ts : Byte) (value : BitVec 14)
  | waitg (o : HdOrigin) (ts : Byte)
  | listTrigger (n : Fin 16)
  | listEnd (n : Fin 16)
  -- The recall store (spec/13).
  | srch (o : HdOrigin) (w : HdWidth) (a d : Fin 32) (mask : W16) (cursor : Fin 16) (fill : Bool) (enables : BitVec 4)
      (bestKey : Bool) (dmin dmax : BitVec 14) (hbo : W32)
  | cstep (o : HdOrigin) (cursor : Fin 16) (append : Bool) (kM1 : Byte) (hbo : W32)
  | glist (o : HdOrigin)
  | cfree (o : HdOrigin) (cursor : Fin 16)
  | ins (o : HdOrigin) (w : HdWidth) (a : Fin 32) (bank : Fin 16) (hbo : W32)
  | del (o : HdOrigin) (bank : Fin 16) (first : BitVec 14) (countM1 : BitVec 14)
  | upd (o : HdOrigin) (w : HdWidth) (a : Fin 32) (bank : Fin 16) (withKey : Bool) (pos : BitVec 14) (hbo : W32)
  | rde (o : HdOrigin) (w : HdWidth) (bank : Fin 16) (pos : BitVec 14) (hbo : W32)
  | dcoll (o : HdOrigin) (cursor : Fin 16) (fill : Bool) (enables : BitVec 4) (dmin dmax : BitVec 14) (hbo : W32)
  | recallSlot (badWords : List (Fin 16 × Nat))
  | searchComplete
  | parityScanWord (bank : Fin 16) (bad : Bool)
  | carouselRebuildComplete (item : Fin 24)
  -- Cameras (spec/11, spec/19).
  | csi2Packet (port : Fin 8) (p : CsiPacket) (overflow : Bool)
  | cameraFrameEnd (context : Fin 16)
  | ingressDelivery
  -- EtherCAT (spec/17).
  | cyclicFrameReturn (seg : Fin 3) (r : CyclicReturn)
  | frameReturnTimeout (seg : Fin 3)
  | portLinkLoss (seg : Fin 3)
  | portLinkReturn (seg : Fin 3)
  | subdeviceOpRetry (seg : Fin 3)
  | acyclicFrame (seg : Fin 3)
  | dcReferenceLost
  | sdoAccess (c : Channel) (a : ObjAddr) (op : SdoOp)
  | foeWrite (c : Channel) (nameOk : Bool) (isRead : Bool) (image : Firmware)
  | p3LinkLoss
  | rxpdoReceive (variant : Byte) (useVariant : Bool) (heartbeat : W16)
  | emergencySend
  -- Power and heat (spec/14).
  | estimatorTick (acts : List Activity)
  | currentLimitRise
  | measurementSample (reports : List RegReport)
  | energyBin
  | measurementFail (channel : Fin 18)
  | measurementRestore (channel : Fin 18)
  | coefficientSave
  | phaseLimitCompute (d : DieId) (phase : Byte)
  | sensorSample (channel : Fin 17) (readings : List Int)
  | thermalTrip (channel : Fin 17)
  -- Maintenance (spec/05, spec/06).
  | driftScan (bank : Fin 8388608)
  | driftRefresh (bank : Fin 8388608)
  | periodicRecalibration (e : EngineId)
  | calibrationComplete (e : EngineId)
  | strongmanMissLimit (e : EngineId)
  | bankWriteComplete (bank : Fin 8388608) (failed : List FailedCell)
  -- Service (spec/15).
  | dieMarkOut (d : DieId) (cause : Nat)
  | ringmasterRestart
  | hubFailure (cause : Nat)
  | firmwareTrialTimeout
  | bootSetPeriodicWrite
  | tamperExcursion (sensor : TamperSensor) (time : Nat)
  | authTimeout (c : Channel)
  | authLockoutEnd (c : Channel)
  | periodicSelfTest (ok : Bool)
  | selfTestRetry (ok : Bool)
  | goineRetrain (d : DieId) (m : Fin 4) (ok : Bool)
  | scrub (word : Nat) (uncorrectable : Bool)
  -- Dictionary commands (spec/18).
  | requestRun (c : Channel)
  | requestIdle (c : Channel)
  | requestDoze (c : Channel)
  | framePeriodWrite (c : Channel) (t : W32)
  | firmwareImageWrite (c : Channel) (image : Firmware)
  | firmwareSwitch (c : Channel)
  | firmwareRevert (c : Channel)
  | firmwareConfirm (c : Channel) (value : Byte)
  | markOutDie (c : Channel) (dieField : Byte)
  | clearOutMark (c : Channel) (dieField : Byte)
  | groupDescriptorWrite (c : Channel) (desc : Option GroupDesc)
  | loadImage (c : Channel) (image : Image) (trailer : Trailer)
  | loadImageHold (c : Channel) (image : Image) (trailer : Trailer)
  | armHeldSet (c : Channel) (container : Option (BitVec 384))
  | loadPlanSet (c : Channel) (plans : List Plan) (trailer : Trailer)
  | cancelFlipSet (c : Channel) (set : Fin 4)
  | selectPlan (c : Channel) (dieField : Byte)
  | stuckMapRead (c : Channel)
  | queueRecalibration (c : Channel) (h : Handle)
  | startConsolidation (c : Channel) (bank : Byte) (first count group : W16)
  | requestRespread (c : Channel) (bank : Byte)
  | listTableWrite (c : Channel) (n : Fin 16) (entry : List Byte)
  | listWrite (c : Channel) (data : List Byte)
  | deepGroupWrite (c : Channel) (entry : List Byte)
  | loadContainer (c : Channel) (k : Container) (trailer : Trailer)
  | switchStaged (c : Channel)
  | switchRetained (c : Channel)
  | authChallenge (c : Channel)
  | authenticate (c : Channel) (role : Role) (ok : Bool)
  | logout (c : Channel) (value : Byte)
  | sessionOpen (c : Channel)
  | sessionCiphertext (c : Channel) (ciphertext : List Byte)
  | imageKeyImport (c : Channel) (keyId : BitVec 128) (tagOk : Bool)
  | imageKeyDelete (c : Channel) (keyId : BitVec 128)
  | attestation (c : Channel) (nonce : BitVec 256)
  | selfTest (c : Channel) (ok : Bool)
  | clearLock (c : Channel)
  | zeroise (c : Channel)
  | raiseVersionFloor (c : Channel)
  | enrolment (c : Channel) (token : Token)
  | anchorWrite (c : Channel) (slot : AnchorSlot) (key : Option Nat)
  | revisionOffer (c : Channel) (rev : Byte)
  | loadEni (c : Channel) (seg : Fin 3) (eni : Eni)
  | segmentStart (seg : Fin 3)
  | loopbackStart (c : Channel)
  | loopbackStop (c : Channel)
  | loopbackLockTimeout
  | strongmanRun (c : Channel) (h : Handle)
  | eventEntryRead (c : Channel)
  | eventAcknowledge (c : Channel) (sequence : W32)
  | counterClear (c : Channel) (a : ObjAddr) (value : W32)
  | windowSelectorWrite (c : Channel) (window : Fin 16) (h : Handle)
  | statRegisterWrite (c : Channel) (window : Fin 16) (sub : Byte) (ctl clip : W32)
  -- PCIe (spec/19).
  | pcieEnable (offer : List Byte)
  | pcieReset
  | functionLevelReset
  | mailboxDoorbell (tail : W32)
  | hdDoorbell (tail : W32)
  | hintDoorbell (tail : W32)
  | eventDoorbell (head : W32)
  | eventQueueCopy
  | bar2Access (write : Bool) (addr : Nat) (data : List Byte)
  | bar0WindowWrite (offset : Nat) (data : List Byte)
  | perstNAssert
  | pcieLinkLoss (downgrade : Bool)
  -- Start-up, power states, pins (spec/20 to spec/22).
  | porstNAssert
  | coldStart (f : StartFindings)
  | bootSetRestore
  | vinUndervoltage
  | wakeNEdge
  | dozeWake
  | extest (testEn : Bool)
  | idcode
  | samplePreload (testEn : Bool)
  | clamp (testEn : Bool)
  | highz (testEn : Bool)
  | wsel (testEn : Bool) (dieField : Byte) (answers : Bool)
  | mbist (testEn : Bool) (mask : BitVec 17)
  | mbistComplete (failBits : Nat)
  | bypass
  | ringmasterRestartComplete
  | perstNRelease
  | pcieLinkUp (rate width : Nat)
  | goineModuleLoss (d : DieId) (m : Fin 4)
  | p3StateTransition (request : AlState)
  | completionQueueDoorbell (hd : Bool) (head : W32)
  | vinApply
  | excursionLasting100Ms (sensor : TamperSensor)
  deriving DecidableEq, Repr

end Sys2Proof
end

