-- ==== Sys2Proof/Decode.lean ====
section
/-!
DEFINITION. The command that a table word spells. spec/opcode_table.json gives none of its 251 rows any bits: the commands
are events and accesses with structured operands, not words of one instruction stream. No word therefore spells a command.
-/
namespace Sys2Proof

/-- The rows of the table that give bits: there are none, so every word answers none. -/
def decodeTableWord (_nbits _w : Nat) : Option Instr := none

end Sys2Proof
end

