-- ==== Sys2Proof/Config.lean ====
section
/-!
DEFINITION. What a part or an open value fixes: opaque constants without a body, so that nothing can be proved of a value
that spec/ leaves open. Each is named in the assumption log.
-/
namespace Sys2Proof

/-- R236: RCP, RSQRT and EXP in FP32 lie within 1 ulp; which value a part delivers is open. Operation and operand bits give
a choice among the allowed values. -/
opaque Config.ulpChoice : Nat → Nat → Nat

/-- R192: arithmetic values on poisoned data are not guaranteed. Counter and element index give the value. -/
opaque Config.poisonedValue : Nat → Nat → Nat

/-- R234: vector register contents are undefined to a new programme. Counter and tile × 32 + register give the contents. -/
opaque Config.undefinedVReg : Nat → Nat → BitVec 2048

/-- R180 and R582: the fused voltage table of a channel, in mV. -/
opaque Config.voltageTable : Nat → Nat → Nat

/-- R393: factory coefficients of a channel and activity class, and its factory leakage. -/
opaque Config.factoryCoeff : Nat → Nat → Rat
opaque Config.factoryLeak : Nat → Rat

/-- R391: the leakage factor 2^((Tj − 25 °C) / 20 °C) as the estimator forms it, by Tj in 1/4 °C. -/
opaque Config.leakFactor : Int → Rat

/-- R115: the fixed Z of a reference array, by engine and reference number, in 1/256 LSB. -/
opaque Config.refZ : Nat → Nat → Nat

/-- R449: the DRBG's n-th draw of 256 bits. -/
opaque Config.drbg : Nat → BitVec 256

/-- R457: the n-th 32-bit draw of the cloak stream of a die key for a label (handle, block, segment). -/
opaque Config.cloakDraw : Nat → Handle → Nat → Nat → Nat → W32

/-- R456: the die key derived from cloak root, die number and cloak generation. -/
opaque Config.dieKey : Nat → Nat → Nat → Nat

/-- R453: encapsulation key for a draw, and the session key for a ciphertext and a draw. -/
opaque Config.encapsulationKey : Nat → List Byte
opaque Config.sessionKey : List Byte → Nat → BitVec 256

/-- R459: the two signatures of an attestation report, by generation and report bytes. -/
opaque Config.attestSignature : Nat → List Byte → List Byte

/-- R448: the identity certificate of a generation. -/
opaque Config.identityCert : Nat → List Byte

/-- R556, R562: a byte that no rule gives (contents of an object whose layout the source leaves to firmware). -/
opaque Config.unstatedByte : Nat → Nat → Byte

/-- Reason codes of events whose values the source does not state (0x4050, 0x5025, 0x5026, 0x7027, 0x8010 and the reverts of
0x8022): event code and cause, counted in the order of the rule that names the causes, give the code. -/
opaque Config.reasonCode : Nat → Nat → Nat

/-- R571: whether the pattern of a training loop-back has locked at a frame boundary, and the errors that a running one counts
between two boundaries, by counter. -/
opaque Config.loopLocks : Nat → Bool
opaque Config.loopErrors : Nat → Nat

/-- R532: GiB that the device region takes for a resident copy of so many records. -/
opaque Config.residentGiB : Nat → Nat

/-- R501: the version string of a firmware version. -/
opaque Config.versionString : Nat → List Byte

/-- SHA-384 of a byte string (R4, R162, R427); what it gives for a structure is not computed here. -/
opaque Config.sha384 : List Byte → BitVec 384

/-- R450: verdict on a signature of a trailer, 0 ECDSA P-384 and 1 ML-DSA-65: message and trailer. -/
opaque Config.signatureOk : Nat → List Byte → List Byte → Bool

/-- R451: key id of public keys, and the key id that the fused hash of the vendor anchor accepts. -/
opaque Config.keyId : Nat → Nat
opaque Config.vendorKeyId : Nat

/-- R163: AES-256-GCM under the image key of an id: header and nonce prefix, nonce index, ciphertext with tag; none where the tag
fails. -/
opaque Config.openRecord : Nat → List Byte → Nat → List Byte → Option (List Byte)

/-- R469: a network configuration read from its XML file. -/
opaque Config.readEni : List Byte → Eni

/-- R423, R466: version of a firmware image; generation and Crypto Officer anchor of an enrolment token. -/
opaque Config.firmwareVersion : List Byte → Nat
opaque Config.tokenGeneration : List Byte → Nat
opaque Config.tokenAnchor : List Byte → Nat

/-- R445: verdict on a credential: its bytes, the nonce and the device serial. R453: verdict on the tag of an import record under
a session key. -/
opaque Config.credentialOk : List Byte → BitVec 256 → BitVec 128 → Bool
opaque Config.importTagOk : BitVec 256 → List Byte → Bool

/-- R460: outcome of a self-test, by counter. -/
opaque Config.selfTestPasses : Nat → Bool

/-- R535: rate and width that a downgrade leaves, by counter. -/
opaque Config.retrained : Nat → Nat × Nat

/-- R577: what the boundary register samples at the balls, by counter. -/
opaque Config.boundarySample : Nat → Nat

/-- 0x1018:04 and 0x2000:0E: the serial number that the fuses hold. -/
opaque Config.serialNumber : BitVec 128

end Sys2Proof
end

