-- ==== Sys2Proof/Machine/SMap.lean ====
section
/-!
DEFINITION. Sparse maps: the one canonical form in which every memory, register file and table of the block is held. A map
is a list of (address, value) pairs with strictly rising addresses that lists no value equal to the default `d`, which is
what an unlisted address reads as. Equal maps are therefore equal data.
-/
namespace Sys2Proof.Machine

abbrev SMap (α : Type) := List (Nat × α)

/-- Read: the listed value, or the default. -/
def mget {α : Type} (d : α) : SMap α → Nat → α
  | [], _ => d
  | (k, v) :: m, a => if a = k then v else mget d m a

/-- Insert or replace, keeping the addresses rising. -/
def mput {α : Type} : SMap α → Nat → α → SMap α
  | [], a, v => [(a, v)]
  | (k, x) :: m, a, v =>
    if a < k then (a, v) :: (k, x) :: m
    else if a = k then (a, v) :: m
    else (k, x) :: mput m a v

/-- Remove an address. -/
def mdel {α : Type} : SMap α → Nat → SMap α
  | [], _ => []
  | (k, x) :: m, a => if a = k then mdel m a else (k, x) :: mdel m a

/-- Write: a value equal to the default removes the entry, so that the form stays canonical. -/
def mset {α : Type} [DecidableEq α] (d : α) (m : SMap α) (a : Nat) (v : α) : SMap α :=
  if v = d then mdel m a else mput m a v

/-- Write a list of values at rising addresses. -/
def msetMany {α : Type} [DecidableEq α] (d : α) (m : SMap α) (a : Nat) : List α → SMap α
  | [] => m
  | v :: vs => msetMany d (mset d m a v) (a + 1) vs

/-- Read `n` values from rising addresses. -/
def mgetMany {α : Type} (d : α) (m : SMap α) (a : Nat) : Nat → List α
  | 0 => []
  | n + 1 => mget d m a :: mgetMany d m (a + 1) n

/-- Change one value. -/
def mmod {α : Type} [DecidableEq α] (d : α) (m : SMap α) (a : Nat) (f : α → α) : SMap α :=
  mset d m a (f (mget d m a))

/-- Every address of the map lies above `lo`, in rising order, and no value is the default. -/
def SMap.wfFrom {α : Type} [DecidableEq α] (d : α) : Option Nat → SMap α → Bool
  | _, [] => true
  | lo, (k, v) :: m =>
    (match lo with
      | none => true
      | some l => decide (l < k)) && decide (v ≠ d) && SMap.wfFrom d (some k) m

/-- The canonical form. -/
def SMap.wf {α : Type} [DecidableEq α] (d : α) (m : SMap α) : Bool := SMap.wfFrom d none m

end Sys2Proof.Machine
end

