-- ==== Sys2Proof/Machine/State.lean ====
section
/-!
DEFINITION. The state of the block as plain data: every register, store, queue, counter, mode and pin that spec/ gives the
Ahnoux, the queue of waiting commands, and State.reset. The structures follow the chapters of spec/.
-/
namespace Sys2Proof.Machine

/-- Why a command stops with a fault. No meaning of this model raises one. -/
inductive Fault
  /-- Reserved for a machine that cannot go on; no command raises it (safe). -/
  | stopped
  deriving DecidableEq, Repr

/-- Why a command is refused. -/
inductive Refusal
  /-- Raised by an arm of exec whose command has no meaning yet (safe). -/
  | notModelled (mnemonic : String)
  deriving DecidableEq, Repr

/-! ### Tiles (spec/08, spec/09, spec/10) -/

/-- A scratchpad row: 2,048 bits, and one poison bit per 64-bit word (R191, R248). -/
structure Row where
  data : BitVec 2048
  poison : BitVec 32
  deriving DecidableEq, Repr

/-- A row of zeros without poison. -/
def Row.zero : Row := ⟨0, 0⟩

/-- A vector register, with poison per 16-bit lane (R191, R234). -/
structure VReg where
  data : BitVec 2048
  poison : BitVec 128
  deriving DecidableEq, Repr

/-- A vector register of zeros. -/
def VReg.zero : VReg := ⟨0, 0⟩

/-- Turnstile state (R280). -/
structure Ts where
  pois : Bool
  done : Bool
  target : BitVec 14
  count : BitVec 16
  deriving DecidableEq, Repr

/-- A turnstile with TARGET 0 and COUNT 0. -/
def Ts.zero : Ts := ⟨false, false, 0, 0⟩

/-- What an update does to a turnstile (R283). -/
inductive TsOp
  | add (v : Nat)
  | reset (target : BitVec 14)
  | poison
  deriving DecidableEq, Repr

/-- A tile-turnstile update that wait samples do not see yet: from absolute cycle `visible` on they do (R182, R286). -/
structure TsRecent where
  visible : Nat
  number : Nat
  op : TsOp
  poison : Bool
  deriving DecidableEq, Repr

/-- Where a done add goes, resolved at issue (R238). -/
inductive DoneTo
  | tile (t : TileId) (n : Byte) (value : Nat)
  | tiles (h : Handle) (n : Byte) (value : Nat)
  | global (n : Byte) (value : Nat)
  | none
  deriving DecidableEq, Repr

/-- An open loop (R217). -/
structure LoopFrame where
  first : Nat
  last : Nat
  trips : Nat
  done : Nat
  deriving DecidableEq, Repr

/-- A window latch: MISS, STAT_VAL and the window scales (R222). -/
structure Latch where
  miss : Bool
  statVal : W32
  s16 : W32
  inv : W32
  deriving DecidableEq, Repr

def Latch.zero : Latch := ⟨false, 0, 0, 0⟩

/-- A statistics register (R98). -/
structure Stat where
  ctl : W32
  val : W32
  clip : W32
  cnt : W32
  deriving DecidableEq, Repr

/-- Reset values of R98: STAT_CLIP is +inf. -/
def Stat.reset : Stat := ⟨0, 0, 0x7F800000, 0⟩

/-- Where a statistics register stands in the row that it observes: elements seen since the last row start, and whether
all of them were flat (R99). -/
structure StatRow where
  pos : Nat
  flat : Bool
  deriving DecidableEq, Repr

def StatRow.start : StatRow := ⟨0, true⟩

/-- An observed element: its FP32 magnitude when it is a number (R100). -/
inductive ObsElem
  | num (mag : W32) (zero : Bool)
  | nan
  | poisoned
  deriving DecidableEq, Repr

/-- What one operation shows a register (R99). `codesFlat` says, for a QNT, whether every code of the issue equals the zero
point. -/
structure Observation where
  tag : Nat
  elems : List ObsElem
  rowStart : Bool
  rowEnd : Bool
  codesFlat : Option Bool
  deriving DecidableEq, Repr

/-- The four sticky tile flags (R111). -/
structure TileFlags where
  nan : Bool
  sat : Bool
  ovf : Bool
  inv : Bool
  deriving DecidableEq, Repr

def TileFlags.zero : TileFlags := ⟨false, false, false, false⟩

/-- An entry of the row-scale file (R237). -/
structure RowScale where
  scale : W32
  flat : Bool
  deriving DecidableEq, Repr

def RowScale.zero : RowScale := ⟨0, false⟩

/-- An input stage: 128 elements c − zp, their width, and poison per lane (R191, R226, R232). -/
structure Stage where
  width : Nat
  elems : List Int
  poison : List Bool
  deriving DecidableEq, Repr

def Stage.zero : Stage := ⟨0, [], []⟩

/-- What a fixed-latency result does when it lands (R213). -/
inductive LandEffect
  | vreg (r : Fin 32) (v : VReg) (flags : TileFlags)
  /-- `taint`: the row takes the frame poison of the cycle in which it lands (R193). -/
  | row (n : Nat) (v : Row) (flags : TileFlags) (taint : Bool)
  | stage (e : EngineId) (st : Stage)
  | statClear (reg : Fin 16)
  | statWrite (reg : Fin 16) (ctl clip : W32) (poisoned : Bool)
  | flagClear
  deriving DecidableEq, Repr

/-- A pending result: it lands at programme cycle `due` of its tile. -/
structure Landing where
  due : Nat
  what : LandEffect
  deriving DecidableEq, Repr

/-- A FILL under way (R252). -/
structure FillOp where
  row : Nat
  count : Nat
  k : Nat
  pattern : VReg
  deriving DecidableEq, Repr

/-- A COPY under way: rows read but not yet written wait in `pipe` with the cycle of their write (R252). `upset` names by row
the words that SECDED will find uncorrectable when they are read (R192). -/
structure CopyOp where
  src : Nat
  dst : Nat
  count : Nat
  k : Nat
  pipe : List (Nat × Nat × Row)
  upset : List (Nat × BitVec 32)
  deriving DecidableEq, Repr

/-- A MOVE that is still sending (R262): `age` counts the cycles since its issue, `k` the rows read. A compressed one keeps how
far its stream has come, in bytes, and whether the last carried word was poisoned (R270). -/
structure MoveOp where
  id : Nat
  age : Nat
  row : Nat
  count : Nat
  k : Nat
  compress : Bool
  target : TileId
  remote : Nat
  upset : List (Nat × BitVec 32)
  sent : Nat
  tail : Bool
  done : DoneTo
  deriving DecidableEq, Repr

/-- An outstanding asynchronous transfer (R266 to R268). `tag` numbers it; `landed` counts rows already moved. -/
structure Transfer where
  tag : Nat
  kind : XKind
  row : Nat
  remote : Nat
  count : Nat
  compress : Bool
  landed : Nat
  poison : Bool
  /-- Issued under frame poison: every word it writes is poisoned (R193). -/
  taint : Bool
  /-- Beats that Goine delivered poisoned: row and beat (R545). -/
  beats : List (Nat × Nat) := []
  done : DoneTo
  deriving DecidableEq, Repr

/-- State of a scratchpad row in the ticket booth (R255). -/
inductive Booth
  | closed | opened | held (holder : Nat)
  deriving DecidableEq, Repr

/-- A ticket request (R256, R257). `agent` names the hub write that waits for it, if any. -/
structure TicketReq where
  holder : Nat
  first : Nat
  count : Nat
  done : DoneTo
  agent : Option Nat
  transfer : Option (TileId × Nat)
  deriving DecidableEq, Repr

/-- A row that waits at a narrow port (R250): its writer's holder code, or none where R254 asks no ticket. -/
structure NarrowRow where
  row : Nat
  data : Row
  writer : Option Nat
  done : DoneTo
  deriving DecidableEq, Repr

/-- The regions that the running programme declares on a tile. -/
structure Regions where
  constFirst : Nat
  constRows : Nat
  workFirst : Nat
  workRows : Nat
  deriving DecidableEq, Repr

/-- One tile. -/
structure Tile where
  /-- The sequencer runs a routine and has not reached FEND. -/
  running : Bool
  pc : Nat
  entry : Nat
  /-- Programme cycle since programme start, and cycles since the last slot start. -/
  pcyc : Nat
  phase : Nat
  loops : List LoopFrame
  varReturn : Option Nat
  /-- Where VAR or PEND sends the sequencer after the present word; the present word holds a FEND. -/
  jump : Option Nat
  ending : Bool
  /-- Path chosen per variant group (R221). -/
  paths : List Nat
  latches : SMap Latch
  framePoison : Bool
  hintPhase : Option Byte
  hintStart : Nat
  vregs : SMap VReg
  rows : SMap Row
  /-- Statistics registers as updated, as reads see them, and observations on their way (R102). -/
  stats : SMap Stat
  statSeen : SMap Stat
  statQ : List (Nat × Nat × Stat)
  /-- The last observation: its cycle, and where the registers stood in their rows before it (R101). -/
  lastObs : Option (Nat × Observation × SMap StatRow)
  statRows : SMap StatRow
  /-- Registers whose set MISS bit a WIN tested in this frame (R107). -/
  winTested : BitVec 16
  statSnap : SMap Stat
  statPend : List (Fin 16 × W32 × W32)
  /-- MISS bits at the end of the previous frame (R107). -/
  missBits : BitVec 16
  flags : TileFlags
  flagSnap : TileFlags
  rowScales : SMap RowScale
  /-- Turnstiles as updated, as wait samples see them, and the updates between the two. -/
  turnstiles : SMap Ts
  tsSeen : SMap Ts
  tsQ : List TsRecent
  booth : SMap Booth
  requests : List TicketReq
  landings : List Landing
  fillOp : Option FillOp
  copyOp : Option CopyOp
  moves : List MoveOp
  transfers : List Transfer
  narrowIn : List NarrowRow
  /-- Narrow writes of the present cycle, and rows that the wide port accesses in it (R251). -/
  narrowQ : List (Nat × Row)
  wideRows : List Nat
  /-- Round-robin pointer of the narrow write port, by holder code (R195). -/
  narrowPtr : Nat
  /-- Routine words that SECDED cannot correct until they are rewritten (R193). -/
  badWords : List Nat
  regions : Regions
  /-- Safety-net pool entries (R129), as the 32-bit words of the table. -/
  pool : SMap W32
  badPool : List Nat
  corrected : W32
  longest : Nat
  /-- Hold slots asked for by conflicts (R196, R263). -/
  holdDebt : Nat
  deriving DecidableEq, Repr

/-- A tile after core power is applied. -/
def Tile.init : Tile where
  running := false
  pc := 0
  entry := 0
  pcyc := 0
  phase := 0
  loops := []
  varReturn := none
  jump := none
  ending := false
  paths := []
  latches := []
  framePoison := false
  hintPhase := none
  hintStart := 0
  vregs := []
  rows := []
  stats := []
  statSeen := []
  statQ := []
  lastObs := none
  statRows := []
  winTested := 0
  statSnap := []
  statPend := []
  missBits := 0
  flags := TileFlags.zero
  flagSnap := TileFlags.zero
  rowScales := []
  turnstiles := []
  tsSeen := []
  tsQ := []
  booth := []
  requests := []
  landings := []
  fillOp := none
  copyOp := none
  moves := []
  transfers := []
  narrowIn := []
  narrowQ := []
  wideRows := []
  narrowPtr := 0
  badWords := []
  regions := ⟨0, 0, 0, 0⟩
  pool := []
  badPool := []
  corrected := 0
  longest := 0
  holdDebt := 0

/-! ### Engines and banks (spec/03 to spec/06) -/

/-- An accumulator lane (R68). -/
structure Lane where
  val : W32
  range : Bool
  sat : Bool
  poison : Bool
  deriving DecidableEq, Repr

def Lane.zero : Lane := ⟨0, false, false, false⟩

/-- The 256 sums of one slot with their poison and range marks (R61, R62). -/
structure PlaneSums where
  sums : List Int
  poison : Bool
  clamped : List Nat
  deriving DecidableEq, Repr

/-- An array operation in progress (R65, R226). -/
structure ArrayOp where
  bank : Option Nat
  set : LevelSet
  p : Nat
  matchSense : Bool
  clr : Bool
  bipolar : Bool
  /-- Elements by physical row, after the cloak (R173). -/
  inputs : List Int
  poison : Bool
  planes : List PlaneSums
  issued : Nat
  deriving DecidableEq, Repr

/-- Translation table entry (R146). -/
structure XEntry where
  v : Bool
  pend : Bool
  set : LevelSet
  gs : Nat
  fset : Fin 4
  nv : Bool
  narray : Fin 1024
  nbank : Bool
  array : Fin 1024
  bank : Bool
  deriving DecidableEq, Repr

def XEntry.zero : XEntry := ⟨false, false, .bell, 0, 0, false, 0, false, 0, false⟩

/-- Engine part of a calibration record (R114). -/
structure EnginePart where
  valid : Bool
  tj : Int
  time : Nat
  generation : W32
  gains : List Nat
  offsets : List Int
  deriving DecidableEq, Repr

def EnginePart.nominal : EnginePart := ⟨false, 0, 0, 0, [], []⟩

/-- Accuracy counters of R127; `largest` is in 1/16 LSB. -/
structure AccCounters where
  run : W32
  misses : W32
  clamped : W32
  largest : W32
  deriving DecidableEq, Repr

/-- Maintenance tasks (R124, R125): absorption and drift refresh of a bank by rewrite, and the calibrations of a bank in class B,
of a rewritten bank, of the four engine parts, and of a bank in use. -/
inductive Task
  | absorb (bank : Nat)
  | classB (bank : Nat)
  | refresh (bank : Nat)
  | fresh (bank : Nat)
  | recalEngine
  | recalBank (bank : Nat)
  deriving DecidableEq, Repr

/-- Running sums of a least-squares fit: samples, Σx, Σy, Σx² and Σxy. -/
structure FitSum where
  n : Nat
  sx : Rat
  sy : Rat
  sxx : Rat
  sxy : Rat
  deriving DecidableEq, Repr

def FitSum.zero : FitSum := ⟨0, 0, 0, 0, 0⟩

/-- A calibration under way (R121, R122): its task, the engine part or bank that it measures, its target band, the measurements
taken in that band, and the sums of its fit: one per TDC for an engine part, one in all for an array part. -/
structure Calib where
  task : Task
  bank : Option Nat
  band : Nat
  taken : Nat
  fits : List FitSum
  deriving DecidableEq, Repr

/-- A drift scan under way (R135, R141, R142): its bank, the measurements taken, the sums of V8 by row and string over 16
repeats, and the rows measured again with their sums over 64 repeats. -/
structure Scan where
  bank : Nat
  taken : Nat
  sums : List (List Int)
  again : List Nat
  sums64 : List (List Int)
  deriving DecidableEq, Repr

/-- A strongman run under way (R574): its next vector, the vectors passed, and the largest |S − E|. -/
structure StrongRun where
  next : Nat
  passed : Nat
  largest : Nat
  deriving DecidableEq, Repr

/-- One engine. -/
structure Engine where
  stage : Stage
  /-- Array operations under way, oldest first. -/
  ops : List ArrayOp
  lanes : SMap Lane
  /-- The lanes hold the result of a pair operation (R73, R173). -/
  pairLanes : Bool
  /-- The check accumulator, in physical order (R58, R173). -/
  check : SMap W32
  xlat : SMap XEntry
  badX : List Nat
  /-- Active engine parts by band, and parts written but not yet active (R123). -/
  parts : SMap EnginePart
  nextParts : SMap EnginePart
  acc : AccCounters
  lifeRun : Nat
  lifeMiss : Nat
  /-- Times in cc of the strongman misses of the last second, the newest 17 of them (R128). -/
  misses : List Nat
  /-- A re-calibration for R128 waits or runs; those completed while the misses persist, and when the last one was. -/
  missRecal : Bool
  recalRuns : Nat
  recalAt : Nat
  /-- Tasks in the order of R125, and the rewrites among them that have begun. -/
  tasks : List Task
  begun : List Task
  /-- The calibration, the drift scan and the strongman run under way (R122). -/
  cal : Option Calib
  scan : Option Scan
  run : Option StrongRun
  /-- One more than the slot start of its last evaluation, and of the last one in an earlier slot; 0 for none (R117). -/
  lastIssue : Nat
  priorIssue : Nat
  blockSel : Nat
  deriving DecidableEq, Repr

def Engine.init : Engine where
  stage := Stage.zero
  ops := []
  lanes := []
  pairLanes := false
  check := []
  xlat := []
  badX := []
  parts := []
  nextParts := []
  acc := ⟨0, 0, 0, 0⟩
  lifeRun := 0
  lifeMiss := 0
  misses := []
  missRecal := false
  recalRuns := 0
  recalAt := 0
  tasks := []
  begun := []
  cal := none
  scan := none
  run := none
  lastIssue := 0
  priorIssue := 0
  blockSel := 0

/-- Bank states (spec/06). -/
inductive BankState | free | writing | ready | pending | live | retained
  deriving DecidableEq, Repr

/-- Array part (R114). -/
structure ArrayPart where
  z : Nat
  band : Nat
  valid : Bool
  tj : Int
  time : Nat
  deriving DecidableEq, Repr

def ArrayPart.nominal : ArrayPart := ⟨4096, 0, false, 0, 0⟩

/-- The physical contents of a bank that the digital stages use: tempo codes, exponents and fine codes by physical string,
and the level set. -/
structure Contents where
  set : LevelSet
  gs : Nat
  engine : Nat
  block : Nat
  codes : List (List Nat)
  tempo : List (List Nat)
  exponent : List Nat
  fine : List Nat
  deriving DecidableEq, Repr

def Contents.blank : Contents := ⟨.bell, 0, 0, 0, [], [], [], []⟩

/-- One bank: its manifest entry (spec/06), its contents, its array part and its safety-net list header. -/
structure Bank where
  state : BankState
  reserved : Bool
  worn : Bool
  block : Nat
  writes : Nat
  image : W64
  digest : BitVec 128
  contents : Contents
  part : ArrayPart
  nextPart : Option ArrayPart
  netBase : Nat
  netCount : Nat
  /-- A list written to free pool entries, switched to at the next boundary (R133). -/
  nextNet : Option (Nat × Nat)
  /-- A write lane writes the bank: since when, in cc, and the write slots it has had (R152). -/
  lane : Bool
  laneFrom : Nat
  laneSlots : Nat
  /-- One more than the serial number of the resident record it was written from; 0 for none (R170). -/
  source : Nat
  classB : Bool
  driftB : Bool
  /-- An adjusted group kept more than 1% error (R140); a rewrite was blocked by a worn bank (R154). -/
  adjusted : Bool
  blocked : Bool
  writtenMinute : Nat
  refreshQueued : Bool
  fset : Option (Fin 4)
  deriving DecidableEq, Repr

def Bank.init : Bank where
  state := .free
  reserved := false
  worn := false
  block := 0
  writes := 0
  image := 0
  digest := 0
  contents := Contents.blank
  part := ArrayPart.nominal
  nextPart := none
  netBase := 0
  netCount := 0
  nextNet := none
  lane := false
  laneFrom := 0
  laneSlots := 0
  source := 0
  classB := false
  driftB := false
  adjusted := false
  blocked := false
  writtenMinute := 0
  refreshQueued := false
  fset := none

/-- Stuck map entry (R136). -/
structure StuckEntry where
  bank : Nat
  row : Fin 128
  string : Fin 256
  excess : Int
  found : Nat
  state : Nat
  time : Nat
  deriving DecidableEq, Repr

/-! ### Weight dies, frames and turnstiles -/

/-- One weight die. -/
structure Die where
  out : Bool
  /-- Out of service, and still in its throttle group until the next frame boundary (R38). -/
  leaving : Bool
  /-- The mark of R433, which outlives Off; clearing it leaves the die out of service until a cold start checks it. -/
  outMark : Bool
  outCause : Nat
  outMinute : Nat
  /-- Absolute cc of the mark-out, from which the remap is timed. -/
  outAt : Nat
  remapMinute : Nat
  remapMs : Nat
  /-- The remapped programme of its plan runs (R176). -/
  remapped : Bool
  powered : Bool
  /-- Absolute cc of the present slot start, and the number of slots started in this frame (R404). -/
  clock : Nat
  slot : Nat
  held : Bool
  waitSlot : Bool
  /-- Limits of R403. -/
  nFt : Nat
  nTh : Nat
  nCur : Nat
  nDr : Nat
  /-- Limits that take effect at the next slot index that is a multiple of 16 (R402, R405, R407, R414). -/
  nextFt : Option Nat
  nextTh : Option Nat
  nextDr : Option Nat
  droopHold : Nat
  droopDead : Nat
  droopActive : Bool
  droopNext : Bool
  /-- Times in cc of the droop events that started since the last lowering (R407). -/
  droopStarts : List Nat
  floorMilliW : Nat
  /-- Limits computed per phase, 0 for none (R400); slots started, and those that were neither hold nor wait slots (R399). -/
  limits : SMap Nat
  slotsAll : Nat
  slotsFree : Nat
  sidePtr : Nat
  /-- Goine: modules up, version, retrain pending at a boundary, corrected errors, bad flits (R545 to R549). -/
  modulesUp : List Bool
  goineVersion : Option Nat
  rejoin : List Nat
  fecCorrected : W32
  fecBad : Nat
  tempBand : Nat
  ageStep : Nat
  stuck : List StuckEntry
  stuckFull : Bool
  classBMinutes : Nat
  /-- Times in cc of class 3 events of the last second (R432). -/
  class3 : List Nat
  thStood : Nat
  /-- Global turnstiles as the die's shadow shows them (R287), and changes on their way. -/
  shadow : SMap Ts
  shadowQ : List (Nat × Nat × Ts)
  deriving DecidableEq, Repr

def Die.init : Die where
  out := false
  leaving := false
  outMark := false
  outCause := 0
  outMinute := 0
  outAt := 0
  remapMinute := 0
  remapMs := 0
  remapped := false
  powered := false
  clock := 0
  slot := 0
  held := false
  waitSlot := false
  nFt := 16
  nTh := 16
  nCur := 16
  nDr := 16
  nextFt := none
  nextTh := none
  nextDr := none
  droopHold := 0
  droopDead := 0
  droopActive := false
  droopNext := false
  droopStarts := []
  floorMilliW := 0
  limits := []
  slotsAll := 0
  slotsFree := 0
  sidePtr := 0
  modulesUp := []
  goineVersion := none
  rejoin := []
  fecCorrected := 0
  fecBad := 0
  tempBand := 0
  ageStep := 0
  stuck := []
  stuckFull := false
  classBMinutes := 0
  class3 := []
  thStood := 0
  shadow := []
  shadowQ := []

/-- An update on its way to a global turnstile (R182, R288). -/
structure GlobalUpdate where
  due : Nat
  number : Byte
  op : TsOp
  poison : Bool
  src : TileId
  deriving DecidableEq, Repr

/-- A MOVE row on its way (R262): programme cycle of its landing, and the absolute cycle for a landing in another throttle group.
`half` says of a compressed row whether its header starts in the second half of a stream word, and `lost` that its header
cannot be trusted (R270). -/
structure FabricRow where
  due : Nat
  arrive : Nat
  src : TileId
  op : Nat
  dst : TileId
  row : Nat
  data : Row
  last : Bool
  /-- It lost its cycle to another landing and lands in the hold slot that follows (R196). -/
  late : Bool
  half : Option Bool
  lost : Bool
  done : DoneTo
  deriving DecidableEq, Repr

/-- Movement between units: rows in flight, ticket requests on their way, and writes that hub agents hold until they are
granted. -/
structure Fabric where
  rows : List FabricRow
  /-- MOVEs of which a row was discarded or poisoned: their done add carries poison (R259). -/
  tainted : List (TileId × Nat)
  /-- Compressed MOVEs of which a row header could not be trusted: their later rows land poisoned (R270). -/
  untrusted : List (TileId × Nat)
  wire : List (TileId × TicketReq)
  globals : List GlobalUpdate
  nextTag : Nat
  deriving DecidableEq, Repr

/-- A write that a hub agent makes once its tickets are granted (R256). -/
structure AgentWrite where
  tag : Nat
  holder : Nat
  tile : TileId
  first : Nat
  rows : List Row
  done : DoneTo
  granted : Bool
  /-- Segment, context or HD list the write belongs to. -/
  unit : Nat
  deriving DecidableEq, Repr

/-- Byte memory with poison per 64-bit word: hub buffer and LPDDR5X. -/
structure ByteMem where
  cells : List Host.Cell
  poison : SMap Bool
  deriving DecidableEq, Repr

/-- The calliope and the frame (spec/07, spec/10). -/
structure Frame where
  number : Nat
  start : Nat
  /-- Frame period in µs in force, and one written but not yet in force (R296). -/
  period : Nat
  /-- A period or phase written, with the frame of the write (R296, R475). -/
  nextPeriod : Option (Nat × Nat)
  nextPhase : Option (Nat × Nat)
  phase : Nat
  lastCorr : Int
  locked : Bool
  holdover : Bool
  /-- P0's reference clock is lost until a clock datagram of P0 is good again (R477); needs beyond the bound took the lock, and
  the need has not come back within it (R295). -/
  dcLost : Bool
  overBound : Bool
  lockRun : Nat
  needRun : Nat
  sysTime : Nat
  /-- A frame programme started in this frame; the deadline of this frame has passed. -/
  started : Bool
  deadlinePassed : Bool
  slip : Bool
  miss : Bool
  pois : Bool
  slipPrev : Bool
  missPrev : Bool
  startedPrev : Bool
  throttledPrev : Bool
  /-- Frame number of the programme that tiles still run, if any; the earliest frame that may start one (R210). -/
  programmeFrame : Option Nat
  notBefore : Nat
  seqCarried : Nat
  run : Nat
  throttled : Bool
  /-- FRAME_OUT pulse width in cc made at the last frame start (R596). -/
  frameOut : Nat
  flipPoint : Bool
  missedStarts : Nat
  /-- A die was marked out in this frame: every wait completes (R297). -/
  dieLost : Bool
  deriving DecidableEq, Repr

/-- The 256 global turnstiles of the hub (R280). -/
structure Globals where
  ts : SMap Ts
  /-- Turnstiles and the tiles whose adds have reached them since they were last rearmed (R297). -/
  arrived : List (Nat × TileId)
  deriving DecidableEq, Repr

/-! ### Programmes and weights -/

/-- Status of the load at 0x2300:04 and of its flip set. -/
structure FlipSet where
  used : Bool
  armed : Bool
  held : Bool
  armedBeforeDeadline : Bool
  /-- Blocks: engine, block, bank, and whether the binding binds. -/
  bindings : List (EngineId × Nat × Nat × Bool)
  image : BitVec 384
  container : Option (BitVec 384)
  /-- Dies whose commit record is still to be written (R161). -/
  committing : Bool
  remapOf : Option DieId
  consolidation : Bool
  /-- A drift refresh or an absorption by rewrite: its old banks become free (R138, R143). -/
  refresh : Bool
  deriving DecidableEq, Repr

def FlipSet.none : FlipSet := ⟨false, false, false, false, [], 0, .none, false, .none, false, false⟩

/-- Resident record with the vectors of its calibration set beside it (R169), under a serial number of the model's own. -/
structure Resident where
  engine : Nat
  record : BlockRecord
  serial : Nat
  deriving DecidableEq, Repr

/-- Weight images, plans and flips (spec/06). -/
structure Weights where
  status : Nat
  blocksWritten : Nat
  liveDigest : BitVec 384
  loadDigest : BitVec 384
  loadSet : Option (Fin 4)
  holdRequested : Bool
  sets : SMap FlipSet
  residents : List Resident
  nextSerial : Nat
  residentPresent : Bool
  plans : List Plan
  plansStale : Bool
  selected : Option DieId
  waitingWrites : List (Nat × BlockRecord)
  remapRunning : Bool
  lastCommitted : List (EngineId × Nat × Nat)
  deriving DecidableEq, Repr

/-- Programmes (spec/08, spec/15). -/
structure Programmes where
  running : Option Container
  staged : Option Container
  retained : Option Container
  continuity : List Container
  /-- Remapped containers held for plans. -/
  remapped : List Container
  contRuns : Bool
  /-- A die was marked out in Run: the continuity programme takes over at the next programme start (R175). -/
  contDue : Bool
  status : Nat
  /-- Switch requested: to the staged (true) or the retained (false) programme, and whether before the deadline. -/
  switchReq : Option Bool
  switchReady : Bool
  firstStart : Bool
  /-- The next programme start is the first after a wake (R566). -/
  wakeStart : Bool
  rxVariant : Byte
  useRx : Bool
  heartbeat : W16
  tokenCounter : Nat
  groups : SMap (Option GroupDesc)
  throttle : List Handle
  areaBase : Nat
  areaSize : Nat
  gatherMap : Nat
  deriving DecidableEq, Repr

/-! ### HD engine and recall store -/

/-- A hypervector register (R324). -/
structure HReg where
  bits : BitVec 8192
  poison : Bool
  deriving DecidableEq, Repr

def HReg.zero : HReg := ⟨0, false⟩

/-- A bundle accumulator: 8,192 signed counters (R324). -/
structure HAcc where
  counters : SMap Int
  poison : Bool
  deriving DecidableEq, Repr

def HAcc.zero : HAcc := ⟨[], false⟩

/-- Encoder slot (R333). -/
structure Encoder where
  seed : Nat
  format : Nat
  top : Nat
  base : W32
  lo : W32
  kq : W32
  deriving DecidableEq, Repr

def Encoder.zero : Encoder := ⟨0, 0, 0, 0, 0, 0⟩

/-- HD list entry (R347). -/
structure HdList where
  offset : Nat
  count : Nat
  trigger : Byte
  doneTs : Byte
  doneValue : Nat
  enabled : Bool
  programme : W32
  deriving DecidableEq, Repr

def HdList.zero : HdList := ⟨0, 0, 0, 0, 0, false, 0⟩

/-- Settings of the HD engine that a list keeps from its trigger to its end (R352). -/
structure HdSettings where
  seeds : List W64
  tie : W64
  carousel : List W64
  encoders : SMap Encoder
  deriving DecidableEq, Repr

/-- The HD engine (spec/12). -/
structure Hd where
  regs : SMap HReg
  accs : SMap HAcc
  settings : HdSettings
  /-- Settings written and not yet in force; carousel keys and encoder slots that need a rebuild (R352). -/
  written : HdSettings
  rebuilding : List Nat
  rebuilt : List Nat
  listSettings : HdSettings
  lists : SMap HdList
  nextLists : Option (SMap HdList)
  running : Option (Fin 16)
  /-- The entry of the running list as it stood at its start, and how many of its words have issued (R344). -/
  listEntry : HdList
  listPos : Nat
  /-- Lists that wait, each with the settings in force when it was triggered (R352). -/
  queue : List (Fin 16 × HdSettings)
  /-- Lists triggered and not yet taken by LIST_TRIGGER, each with the cycle of its trigger: in rising cycle, and in one cycle in
  rising number (R349). -/
  triggered : List (Nat × Fin 16)
  again : List (Fin 16)
  listPoison : Bool
  /-- A result of the host command in progress was poisoned (R525). -/
  hostPoison : Bool
  waiting : Option (HdOrigin × Byte)
  /-- Tag of a host command that has started and whose completion is still to be posted (R528). -/
  hostTag : Option W32
  outvs : List Nat
  deriving DecidableEq, Repr

/-- An entry of the recall store: key and descriptor words 0 to 2 (R356). -/
structure Entry where
  key : BitVec 8192
  w0 : W64
  w1 : W64
  aux : W32
  state : BitVec 2
  deriving DecidableEq, Repr

/-- A hole. -/
def Entry.hole : Entry := ⟨0, 0, 0, 0, 0⟩

/-- An update that waits for its slots (R372). -/
inductive Update
  | ins (bank : Fin 16) (e : Entry)
  | del (bank : Fin 16) (first last : Nat)
  | upd (bank : Fin 16) (pos : Nat) (key : Option (BitVec 8192)) (e : Entry)
  deriving DecidableEq, Repr

/-- An insert in progress: moves still to make as (from, to), and where the entry goes (R373, R374). -/
structure InsertPlan where
  moves : List (Nat × Nat)
  pos : Nat
  entry : Entry
  deriving DecidableEq, Repr

/-- A recall bank (R354, R357). -/
structure RBank where
  width : Nat
  pitch : Nat
  enable : Bool
  entries : SMap Entry
  /-- Re-spread: targets still to reach as (from, to), waiting updates (R375). -/
  respread : Option (List (Nat × Nat))
  respreadQ : List Update
  scan : Nat
  rewritten : Nat
  deriving DecidableEq, Repr

def RBank.init : RBank := ⟨2, 8, true, [], none, [], 0, 0⟩

/-- A queued search or read (R366). -/
inductive Query
  | search (list : Bool) (o : HdOrigin) (key : HReg) (w : HdWidth) (d : Fin 32) (mask : W16) (cursor : Fin 16) (fill : Bool)
      (enables : BitVec 4) (bestKey : Bool) (dmin dmax : Nat) (hbo : Nat)
  | read (list : Bool) (w : HdWidth) (bank : Fin 16) (pos : Nat) (hbo : Nat)
  deriving DecidableEq, Repr

/-- A cursor (R367): marked store positions or deep entry numbers in rising order, how many of them were stepped, poison;
deep cursors keep (entry, distance, marginal). -/
structure Cursor where
  marks : List Nat
  next : Nat
  deep : Bool
  dist : List (Nat × Nat × Bool)
  poison : Bool
  filling : Bool
  deriving DecidableEq, Repr

def Cursor.empty : Cursor := ⟨[], 0, false, [], false, false⟩

/-- A search or read that a slot served and whose result is not visible yet (R363): bytes for the hub buffer, a register
with its value, and the cursor it filled. -/
structure SearchResult where
  fromList : Bool
  place : Nat
  bytes : List Byte
  poison : Bool
  reg : Option (Fin 32 × HReg)
  cursor : Option (Fin 16)
  deriving DecidableEq, Repr

/-- Deep group table entry (R383). -/
structure DeepGroup where
  engine : Handle
  b0 : Nat
  deriving DecidableEq, Repr

/-- The recall store (spec/13). -/
structure Recall where
  banks : SMap RBank
  cursors : SMap Cursor
  gather : List (W32 × Bool)
  gatherSkipped : Nat
  glistDone : Bool
  handed : Option (List (W32 × Bool))
  updates : List Update
  inserting : Option (Fin 16 × InsertPlan)
  queries : List Query
  results : List SearchResult
  slot : Nat
  throttle : Nat
  deep : SMap DeepGroup
  deepNext : List (Nat × DeepGroup)
  deepActive : Bool
  deepValid : Bool
  consolidation : Nat
  consBank : Nat
  consRange : Nat × Nat
  deriving DecidableEq, Repr

/-- The KV engine (R275 to R278). -/
structure Kv where
  spillDue : Bool
  gatherDue : Bool
  /-- The list of the gather under way, and the next map entry of it. -/
  list : Option (List (W32 × Bool))
  entry : Nat
  deriving DecidableEq, Repr

/-! ### Cameras -/

/-- An image context's settings (R313). -/
structure ImgSettings where
  enable : Bool
  port : Nat
  vc : Nat
  dtype : Nat
  bayer : Nat
  cropX : Nat
  cropY : Nat
  cropW : Nat
  cropH : Nat
  outW : Nat
  outH : Nat
  planes : Nat
  matrix : List Int
  pad : Nat
  ring : Nat
  ringBase : Nat
  takeTs : Byte
  mapOffset : Nat
  deriving DecidableEq, Repr

/-- A context without settings: the defaults of the table *Image context*, BT.709 full range and pad code 128 (R313). -/
def ImgSettings.unset : ImgSettings :=
  ⟨false, 0, 0, 0, 0, 0, 0, 0, 0, 0, 0, 0, [4096, 0, 6450, 4096, -767, -1917, 4096, 7601, 0], 128, 0, 0, 0, 0⟩

/-- An image context (R316 to R321). -/
structure ImgContext where
  settings : ImgSettings
  next : Option ImgSettings
  /-- The frame in progress: its buffer, its lines, and whether it can still complete. -/
  inFrame : Bool
  lines : List (List Byte)
  good : Bool
  ended : Bool
  buffer : Nat
  newest : Option Nat
  latched : Option (Option Nat)
  relatch : Bool
  /-- Stripe entries still to deliver. -/
  entry : Nat
  sequence : Nat
  deliveredSeq : Nat
  superseded : Nat
  supersededAtTake : Nat
  taken : Bool
  endTime : Nat
  deriving DecidableEq, Repr

def ImgContext.init : ImgContext :=
  ⟨ImgSettings.unset, none, false, [], true, false, 0, none, none, false, 0, 0, 0, 0, 0, true, 0⟩

/-- The ingress pre-processor and its ports. -/
structure Ingress where
  contexts : SMap ImgContext
  csiMode : Byte
  dropped : SMap Nat
  deriving DecidableEq, Repr

/-! ### EtherCAT -/

/-- An output entry (R205, R470). -/
structure OutEntry where
  offset : Nat
  length : Nat
  default : List Byte
  heldRun : Nat
  lastGood : List Byte
  inSafe : Bool
  poisoned : Bool
  deriving DecidableEq, Repr

/-- A segment P0 to P2. -/
structure Segment where
  state : AlState
  fault : Bool
  linkUp : Bool
  eni : Option Eni
  /-- An ENI loaded outside Idle, which takes effect in Idle (R470). -/
  nextEni : Option Eni
  /-- Bad frames in a row, bad clock datagrams in a row, frames since the safe state began. -/
  badRun : Nat
  dcBad : Nat
  entries : List OutEntry
  /-- The committed image with its poisoned bytes, and what frames carry of it: fallback values stand in `carried` alone (R203,
  R206). -/
  committed : List Byte
  committedPoison : List Nat
  carried : List Byte
  pending : List Byte
  pendingPoison : List Nat
  awaiting : Bool
  sent : List Byte
  sentCount : Nat
  acyclicWaits : Bool
  opRetry : Bool
  reported : List Nat
  held : Bool
  driftFrames : Nat
  /-- SYNC0 runs, with the shift read at the last segment start (R476). -/
  sync0 : Bool
  shift : Nat
  lateCollections : Nat
  deriving DecidableEq, Repr

def Segment.init : Segment where
  state := .init
  fault := false
  linkUp := true
  eni := none
  nextEni := none
  badRun := 0
  dcBad := 0
  entries := []
  committed := []
  committedPoison := []
  carried := []
  pending := []
  pendingPoison := []
  awaiting := false
  sent := []
  sentCount := 0
  acyclicWaits := false
  opRetry := false
  reported := []
  held := false
  driftFrames := 0
  sync0 := false
  shift := 0
  lateCollections := 0

/-- EtherCAT on P0 to P3 (spec/17). -/
structure Ecat where
  segs : SMap Segment
  p3 : AlState
  p3Link : Bool
  offered : Byte
  offerMade : Bool
  chosenP3 : Byte
  chosenMb : Byte
  /-- Output map entries whose ready turnstile completed, waiting for the collector; true: it completed after the commit
  deadline of its frame (R481). -/
  due : List (Nat × Bool)
  /-- Sample streams: write index, gap count, time of the last append (R486). -/
  streams : SMap (Nat × Nat × Nat)
  /-- The last emergency message sent on P3 (R437). -/
  emergencySent : List Byte
  /-- Beats of output entries that reached the hub poisoned: die, row and beat (R545). -/
  badBeats : List (Nat × Nat × Nat)
  stopped : Bool
  /-- ETH_PHYRST_N is asserted (R595). -/
  phyReset : Bool
  deriving DecidableEq, Repr

/-! ### Power (spec/14) -/

/-- A regulator channel. -/
structure Chan where
  /-- Coefficients per band, of k0 to k14, and leakage, in mW per count and mW; fitted bands. -/
  coeff : SMap (List Rat)
  leak : Option Rat
  fitted : List Nat
  fitRuns : SMap (Nat × List Rat)
  estimate : Rat
  measured : Rat
  /-- Energy of the present bin in µJ, estimated and measured. -/
  eEst : Rat
  eMeas : Rat
  disagree : Bool
  badBins : Nat
  goodBins : Nat
  factor : Rat
  failed : Bool
  lastBin : Rat
  tj : Int
  sensors : List Int
  sensorsValid : Nat
  /-- Since the last 10 µs interval began: activity counts, 1 µs intervals, and intervals per band. -/
  lastCounts : List Nat
  ticks : Nat
  bandTicks : List Nat
  deriving DecidableEq, Repr

def Chan.init : Chan where
  coeff := []
  leak := none
  fitted := []
  fitRuns := []
  estimate := 0
  measured := 0
  eEst := 0
  eMeas := 0
  disagree := false
  badBins := 0
  goodBins := 0
  factor := 1
  failed := false
  lastBin := 0
  tj := 100
  sensors := []
  sensorsValid := 2
  lastCounts := []
  ticks := 0
  bandTicks := []

/-- Phase entry (R398). -/
structure Phase where
  valid : Bool
  learned : Bool
  frozen : Bool
  host : Bool
  seen : Nat
  band : Nat
  start : Nat
  length : Nat
  limit : Nat
  mean : List Nat
  peak : List Nat
  deriving DecidableEq, Repr

def Phase.zero : Phase := ⟨false, false, false, false, 0, 0, 0, 0, 0, [], []⟩

/-- The occurrence of a phase on a tile: 1 µs intervals seen, the sum and the largest of each channel's power in them, the die's
slot counts at its HINT, and the highest load band. -/
structure Occ where
  ticks : Nat
  sums : List Rat
  peaks : List Rat
  all0 : Nat
  free0 : Nat
  band : Nat
  deriving DecidableEq, Repr

def Occ.zero : Occ := ⟨0, [], [], 0, 0, 0⟩

/-- Power, current and heat. -/
structure Power where
  chans : SMap Chan
  phases : SMap Phase
  phaseWrites : List (Nat × Phase)
  /-- Occurrences under way, by tile. -/
  occ : SMap Occ
  /-- Host queue hints: phase, start in ns, length in µs (R529). -/
  hints : List (Nat × Nat × Nat)
  /-- Bins of the last 10 s in µJ, newest first; bins from before PORST_N release count as the caps (R396). -/
  bins : List Rat
  target : Rat
  /-- N_cur as lowered or risen; dies take it at their next slot index that is a multiple of 16. Whether its event was raised
  in this frame, and the voltage band and age step of the hub (R405, R411). -/
  nCur : Nat
  nCurEvent : Bool
  /-- The lowest limit before the estimate of the present interval lowered N_cur. -/
  curBase : Option Nat
  hubBand : Nat
  hubAge : Nat
  energy : Nat
  energyEst : Nat
  energyLog : List (Nat × Nat)
  vinMv : Nat
  thermTrip : Bool
  tripDie : Option Nat
  trips : List (Nat × Nat)
  thermalMinutes : SMap Nat
  deriving DecidableEq, Repr

/-! ### Service and security -/

/-- Power states of R19. -/
inductive PState | run | idle | doze | off
  deriving DecidableEq, Repr

/-- An event log entry (R434). `code` and `handle` name it; `frameRaised` decides when it is readable. -/
structure LogEntry where
  code : W16
  repeats : Nat
  handle : Handle
  sequence : Nat
  frame : Nat
  time : Nat
  param : W32
  aux : W16
  pers : Bool
  gap : Bool
  deriving DecidableEq, Repr

/-- A firmware slot. -/
structure Slot where
  valid : Bool
  version : Nat
  digest : BitVec 384
  deriving DecidableEq, Repr

/-- What the boot set holds (R556). -/
structure BootSet where
  present : Bool
  container : Option Container
  continuity : List Container
  plans : List Plan
  enis : List (Option Eni)
  requested : Nat
  settings : SMap Nat
  octets : SMap (List Byte)
  phases : SMap Phase
  /-- The group descriptors of 0x2201. -/
  groups : SMap (Option GroupDesc)
  deriving DecidableEq, Repr

def BootSet.none : BootSet := ⟨false, .none, [], [], [], 2, [], [], [], []⟩

/-- The ringmaster: firmware, logs, records (spec/15). -/
structure Service where
  restarting : Bool
  /-- Times in cc of its restarts (R421). -/
  restarts : List Nat
  slotA : Slot
  slotB : Slot
  activeB : Bool
  trial : Bool
  confirm : Nat
  switchReq : Bool
  revertReq : Option Nat
  log : List LogEntry
  nextSeq : Nat
  /-- Newest sequence number that is readable, once there is one (R435). -/
  readable : Option Nat
  acked : Option Nat
  gapNext : Bool
  lost : Nat
  persistent : List LogEntry
  /-- The emergency queue: event code and sequence number (R437). -/
  emergency : List (Nat × Nat)
  counters : SMap Nat
  minutes : Nat
  /-- Milliseconds of the minute under way. -/
  millis : Nat
  minutesIn : List Nat
  history : List (Nat × Nat × Nat × W64)
  boot : BootSet
  settingsChanged : Bool
  supervisorFailed : Bool
  waitMarkOut : List (DieId × Nat)
  savedCoeff : SMap Chan
  /-- A check of step 7 found the resident weights invalid (R555, R558). -/
  weightsInvalid : Bool
  /-- The first frame start after the boot set is restored decides on Run (R558). -/
  bootRun : Bool
  /-- Calibrations of parts that failed their check at start-up, each with its engine; Run waits for them (R116). -/
  startCal : List (EngineId × Task)
  /-- A cold start waits for its boot set: the verdict on the signatures, and the milliseconds from PORST_N release to Idle. -/
  restoreDue : Option (Bool × Nat)
  deriving DecidableEq, Repr

/-- Module states of R444. -/
inductive MState | unprovisioned | operational | locked | error | zeroised
  deriving DecidableEq, Repr

/-- A channel's authentication and session (R445, R446, R453). -/
structure Auth where
  role : Option Role
  nonce : Option (BitVec 256)
  failures : Nat
  locked : Bool
  sessionOpen : Bool
  sessionKey : Option (BitVec 256)
  report : List Byte
  /-- DRBG draw of the session's key pair (R453). -/
  draw : Nat
  deriving DecidableEq, Repr

def Auth.init : Auth := ⟨none, none, 0, false, false, none, [], 0⟩

/-- The security island (spec/16). -/
structure Security where
  state : MState
  before : MState
  alarm : Nat
  alarmEver : Nat
  generation : Nat
  disabled : List Nat
  p3 : Auth
  mailbox : Auth
  imageKeys : List (BitVec 128)
  officer : Option Nat
  user : Option Nat
  owners : List (Option Nat)
  cloakRoot : Option Nat
  storageKey : Option Nat
  cloakGen : Nat
  /-- Die cloak keys, present while the cloak tables can be used (R456, R458). -/
  dieKeys : List (Option Nat)
  drbg : Nat
  floor : Nat
  /-- Excursions that no level-2 alarm has consumed, the 1 µs intervals with a glitch, and the last excursion, by their times
  in cc (R462). -/
  excursions : List (TamperSensor × Nat)
  glitches : List Nat
  lastExcursion : Option Nat
  testFailures : Nat
  testsStopped : Bool
  alarmLog : List (Nat × Nat × Nat)
  /-- Cause of a level-3 trigger whose response a start-up still has to complete (R465). -/
  levelThreeLatched : Option Nat
  /-- A power-up self-test failed: event 0x6016 is due at the next start that passes (R460). -/
  testReport : Bool
  safeN : Bool
  alarmN : Bool
  serial : BitVec 128
  deriving DecidableEq, Repr

/-! ### Host link, dictionary, test -/

/-- The MSI-X table of a restarted endpoint: every vector masked (PRESUMED, log 83: the PCI Express default). -/
def msixReset : List Byte := (List.range 128).map fun k => if k % 16 = 12 then 1 else 0

/-- The PCIe endpoint (spec/19). Indices: host and device index per queue. -/
structure Pcie where
  link : Bool
  rate : Nat
  width : Nat
  /-- Highest common rate and width, to which a narrowed link returns (R533). -/
  fullRate : Nat
  fullWidth : Nat
  perst : Bool
  enable : Bool
  ready : Bool
  failed : Bool
  hpver : W16
  offer : List Byte
  hostIdx : List Nat
  devIdx : List Nat
  phases : List Bool
  drop : W32
  devbase : Nat
  /-- MSI-X vectors signalled and not yet taken by the host. -/
  msix : List Nat
  /-- MSI-X table, 16 bytes for each of the 8 vectors, and the vectors whose pending bit is set in the PBA (R520, R531). -/
  msixTable : List Byte
  msixPending : List Nat
  /-- Sequence of the next log entry to copy to the event queue, and the sequence held in each slot. -/
  nextCopy : Nat
  slotSeq : SMap Nat
  /-- Data that the last BAR2 read returned, empty where it completed with Unsupported Request, and its poisoned-TLP bit. -/
  readData : List Byte
  readPoison : Bool
  deriving DecidableEq, Repr

/-- The parts of the state that records and unit windows read as they stood at the last frame boundary (R495). -/
structure View where
  tiles : SMap Tile
  engines : SMap Engine
  banks : SMap Bank
  dies : SMap Die
  pwr : Power
  svc : Service
  sec : Security
  deriving DecidableEq, Repr

/-- The dictionary's stored values: what the last accepted write left, and what is in force (R495). -/
structure Dict where
  accepted : SMap Nat
  inForce : SMap Nat
  octets : SMap (List Byte)
  octetsInForce : SMap (List Byte)
  windows : List Handle
  /-- Run-time objects as they stood at the last frame boundary (R495). -/
  snapshot : SMap (List Byte)
  view : Option View
  /-- Result of the last access on each channel: abort code (0 for none) and data. -/
  p3Abort : W32
  p3Data : List Byte
  mbAbort : W32
  mbData : List Byte
  deriving DecidableEq, Repr

/-- Test access (spec/21). -/
structure Test where
  loopIface : Option Nat
  loopDepth : Nat
  loopState : Nat
  loopErrors : Nat
  strongPassed : Nat
  strongLargest : Nat
  ir : Byte
  dataReg : BitVec 64
  wrapper : Option Nat
  mbistMask : Option (BitVec 17)
  mbistResult : Nat
  testMode : Bool
  pinsFloat : Bool
  boundary : Nat
  deriving DecidableEq, Repr

/-- The whole block. -/
structure State where
  /-- The commands that wait, first in first out. -/
  pending : List Instr
  /-- Absolute time in cc since the first release of PORST_N. -/
  now : Nat
  power : PState
  /-- The power state that a transition under way leads to (R562). -/
  toward : Option PState
  vin : Bool
  porst : Bool
  tiles : SMap Tile
  engines : SMap Engine
  banks : SMap Bank
  dies : SMap Die
  globals : Globals
  fabric : Fabric
  agents : List AgentWrite
  hub : ByteMem
  lpddr : ByteMem
  /-- Corrected errors of the LPDDR5X channels M0 to M15 (R194, R540). -/
  lpddrFixed : SMap Nat
  frame : Frame
  weights : Weights
  prog : Programmes
  hd : Hd
  rcl : Recall
  kv : Kv
  ingress : Ingress
  ecat : Ecat
  pwr : Power
  svc : Service
  sec : Security
  pcie : Pcie
  dict : Dict
  test : Test
  /-- The model's own counter: the free values used so far. -/
  free : Nat
  deriving DecidableEq, Repr

/-- The system groups of R30: g1, g2 and g32 to g47. -/
def systemGroups : SMap (Option GroupDesc) :=
  (1, some ⟨1, 2, false, true, 0, (List.range 16).map fun k => BitVec.ofNat 32 (0x02000000 + (k + 1) * 0x80000)⟩) ::
  (2, some ⟨2, 3, false, true, 0,
    (List.range 256).map fun k => BitVec.ofNat 32 (0x03000000 + (k / 16 + 1) * 0x80000 + (k % 16) * 0x8000)⟩) ::
  (List.range 16).map fun k =>
    (32 + k, some ⟨32 + k, 2, true, true, 0, [BitVec.ofNat 32 (0x02000000 + (k + 1) * 0x80000)]⟩)

/-- Settings of the HD engine after reset: all seeds are 0 (R327). -/
def HdSettings.reset : HdSettings := ⟨[0, 0, 0, 0], 0, List.replicate 8 0, []⟩

/-- The state right after reset: VIN present, PORST_N asserted, no core power, SAFE_N asserted (R551, R594). -/
def State.reset : State where
  pending := []
  now := 0
  power := .off
  toward := none
  vin := true
  porst := true
  tiles := []
  engines := []
  banks := []
  dies := []
  globals := ⟨[], []⟩
  fabric := ⟨[], [], [], [], [], 0⟩
  agents := []
  hub := ⟨[], []⟩
  lpddr := ⟨[], []⟩
  lpddrFixed := []
  frame := {
    number := 0, start := 0, period := 1000, nextPeriod := none, nextPhase := none, phase := 0, lastCorr := 0
    locked := false, holdover := false, dcLost := false, overBound := false, lockRun := 0, needRun := 0, sysTime := 0, started := false
    deadlinePassed := false, slip := false, miss := false, pois := false, slipPrev := false, missPrev := false
    startedPrev := false, throttledPrev := false
    programmeFrame := none, notBefore := 0, seqCarried := 0, run := 0, throttled := false, frameOut := 0
    flipPoint := false, missedStarts := 0, dieLost := false }
  weights := {
    status := 0, blocksWritten := 0, liveDigest := 0, loadDigest := 0, loadSet := none, holdRequested := false
    sets := [], residents := [], nextSerial := 0, residentPresent := false, plans := [], plansStale := true, selected := none
    waitingWrites := [], remapRunning := false, lastCommitted := [] }
  prog := {
    running := none, staged := none, retained := none, continuity := [], remapped := [], contRuns := false, contDue := false, status := 0
    switchReq := none, switchReady := false, firstStart := true, wakeStart := false, rxVariant := 0, useRx := false
    heartbeat := 0, tokenCounter := 0, groups := systemGroups
    throttle := (List.range 16).map fun k => BitVec.ofNat 32 (0x82000000 + 32 + k)
    areaBase := 0, areaSize := 0, gatherMap := 0 }
  hd := {
    regs := [], accs := [], settings := HdSettings.reset, written := HdSettings.reset, rebuilding := [], rebuilt := []
    listSettings := HdSettings.reset, lists := [], nextLists := none, running := none, listEntry := HdList.zero, listPos := 0, queue := [], triggered := []
    again := [], listPoison := false, hostPoison := false, waiting := none, hostTag := none, outvs := [] }
  rcl := {
    banks := [], cursors := [], gather := [], gatherSkipped := 0, glistDone := false, handed := none, updates := []
    inserting := none, queries := [], results := [], slot := 0, throttle := 1, deep := [], deepNext := []
    deepActive := false, deepValid := false, consolidation := 0, consBank := 0, consRange := (0, 0) }
  kv := ⟨false, false, none, 0⟩
  ingress := ⟨[], 0, []⟩
  ecat := {
    segs := [], p3 := .init, p3Link := false, offered := 5, offerMade := false, chosenP3 := 5, chosenMb := 5, due := []
    streams := [], emergencySent := [], badBeats := [], stopped := false, phyReset := true }
  pwr := {
    chans := [], phases := [], phaseWrites := [], occ := [], hints := [], bins := [], target := 0, nCur := 16
    nCurEvent := false, curBase := none, hubBand := 0, hubAge := 0, energy := 0
    energyEst := 0, energyLog := [], vinMv := 1800, thermTrip := false, tripDie := none, trips := []
    thermalMinutes := [] }
  svc := {
    restarting := false, restarts := [], slotA := ⟨true, 0, 0⟩, slotB := ⟨false, 0, 0⟩, activeB := false, trial := false
    confirm := 0, switchReq := false, revertReq := none, log := [], nextSeq := 0, readable := none, acked := none
    gapNext := false, lost := 0, persistent := [], emergency := [], counters := [], minutes := 0, millis := 0
    minutesIn := [0, 0, 0], history := [], boot := BootSet.none, settingsChanged := false, supervisorFailed := false
    waitMarkOut := [], savedCoeff := [], weightsInvalid := false, bootRun := false, startCal := [], restoreDue := none }
  sec := {
    state := .unprovisioned, before := .unprovisioned, alarm := 0, alarmEver := 0, generation := 0, disabled := []
    p3 := Auth.init, mailbox := Auth.init, imageKeys := [], officer := none, user := none
    owners := [none, none, none, none], cloakRoot := none, storageKey := none, cloakGen := 0
    dieKeys := List.replicate 16 none, drbg := 0, floor := 0, excursions := [], glitches := []
    lastExcursion := none, testFailures := 0, testsStopped := false, alarmLog := [], levelThreeLatched := none, testReport := false
    safeN := true, alarmN := false, serial := 0 }
  pcie := {
    link := false, rate := 0, width := 0, fullRate := 0, fullWidth := 0, perst := true, enable := false, ready := false, failed := false, hpver := 0
    offer := [], hostIdx := List.replicate 6 0, devIdx := List.replicate 6 0, phases := [true, true, true], drop := 0
    devbase := 0x1000000000, msix := [], msixTable := msixReset, msixPending := [], nextCopy := 0, slotSeq := []
    readData := [], readPoison := false }
  dict := {
    accepted := [], inForce := [], octets := [], octetsInForce := [], windows := List.replicate 16 0x01000000
    snapshot := []
    view := none, p3Abort := 0, p3Data := [], mbAbort := 0, mbData := [] }
  test := {
    loopIface := none, loopDepth := 0, loopState := 0, loopErrors := 0, strongPassed := 0, strongLargest := 0
    ir := 0xFF, dataReg := 0, wrapper := none, mbistMask := none, mbistResult := 0, testMode := false
    pinsFloat := false, boundary := 0 }
  free := 0

end Sys2Proof.Machine
end

