-- ==== Sys2Proof/Machine/Float.lean ====
section
/-!
DEFINITION. Arithmetic of the number formats (spec/04, spec/08): rounding to nearest in its two forms, binary floating point
as exact rationals that are rounded once (R109), and the integer formats with saturation (R110).
-/
namespace Sys2Proof.Machine

/-- Division rounded to nearest, ties away from zero (R61). -/
def rdiv (a b : Int) : Int :=
  let q := (2 * a.natAbs + b.natAbs) / (2 * b.natAbs)
  if (a < 0) = (b < 0) then (q : Int) else -(q : Int)

/-- Right shift rounded to nearest, ties away from zero (R61). -/
def rshift (a : Int) (n : Nat) : Int := rdiv a ((2 ^ n : Nat) : Int)

/-- num / den rounded to the nearest integer, ties to even. -/
def rneNat (num den : Nat) : Nat :=
  let q := num / den
  let r := num % den
  if 2 * r > den ∨ (2 * r = den ∧ q % 2 = 1) then q + 1 else q

/-- Clamp an integer. -/
def clampInt (lo hi x : Int) : Int := if x < lo then lo else if hi < x then hi else x

/-- The 32-bit accumulator bounds of R68. -/
def sat32 (x : Int) : Int := clampInt (-2147483648) 2147483647 x

/-- A binary floating-point format: exponent and fraction bits. -/
structure FpFmt where
  eb : Nat
  mb : Nat
  deriving DecidableEq, Repr

def fp16 : FpFmt := ⟨5, 10⟩
def bf16 : FpFmt := ⟨8, 7⟩
def fp32 : FpFmt := ⟨8, 23⟩
def fp64 : FpFmt := ⟨11, 52⟩

def FpFmt.width (f : FpFmt) : Nat := 1 + f.eb + f.mb
def FpFmt.bias (f : FpFmt) : Nat := 2 ^ (f.eb - 1) - 1
/-- Bits of +infinity. -/
def FpFmt.infBits (f : FpFmt) : Nat := (2 ^ f.eb - 1) * 2 ^ f.mb
def FpFmt.signBit (f : FpFmt) : Nat := 2 ^ (f.eb + f.mb)
/-- The canonical quiet NaN (R109). -/
def FpFmt.nanBits (f : FpFmt) : Nat := f.infBits + 2 ^ (f.mb - 1)

/-- A floating-point value: NaN, an infinity, or ±m × 2^e. -/
inductive FVal
  | nan
  | inf (neg : Bool)
  | fin (neg : Bool) (m : Nat) (e : Int)
  deriving DecidableEq, Repr

/-- The value of a bit pattern; subnormals are kept (R109). -/
def FpFmt.decode (f : FpFmt) (bits : Nat) : FVal :=
  let neg := bits / f.signBit % 2 = 1
  let x := bits / 2 ^ f.mb % 2 ^ f.eb
  let m := bits % 2 ^ f.mb
  if x = 2 ^ f.eb - 1 then (if m = 0 then .inf neg else .nan)
  else if x = 0 then .fin neg m (1 - (f.bias : Int) - f.mb)
  else .fin neg (m + 2 ^ f.mb) ((x : Int) - f.bias - f.mb)

/-- A signalling NaN raises INV when an operation consumes it (IEEE 754). -/
def FpFmt.isSnan (f : FpFmt) (bits : Nat) : Bool :=
  f.decode bits = .nan && bits / 2 ^ (f.mb - 1) % 2 = 0

/-- A result: its bit pattern and the flags it sets (R111). -/
structure FRes where
  bits : Nat
  flags : TileFlags
  deriving DecidableEq, Repr

def FRes.clean (bits : Nat) : FRes := ⟨bits, TileFlags.zero⟩

/-- The canonical NaN with NAN set, and INV when the operation was invalid. -/
def FpFmt.nanRes (f : FpFmt) (inv : Bool) : FRes := ⟨f.nanBits, ⟨true, false, false, inv⟩⟩

/-- Significand and exponent of num / den before rounding: the quotient lies in [2^mb, 2^(mb+1)), or below it at the
smallest exponent. -/
def FpFmt.scale (f : FpFmt) (num den : Nat) : Int :=
  let emin : Int := 1 - (f.bias : Int) - f.mb
  let lg : Int := (Nat.log2 num : Int) - Nat.log2 den
  let e0 : Int := lg - f.mb
  -- num / den lies in (2^(lg-1), 2^(lg+1)): take the lower exponent when the quotient is short
  let short := if e0 ≥ 0 then num < den * 2 ^ (e0.toNat + f.mb) else num * 2 ^ (-e0).toNat < den * 2 ^ f.mb
  let e := if short then e0 - 1 else e0
  if e < emin then emin else e

/-- Scaled numerator and denominator at exponent e. -/
def scaled (num den : Nat) (e : Int) : Nat × Nat :=
  if e ≥ 0 then (num, den * 2 ^ e.toNat) else (num * 2 ^ (-e).toNat, den)

/-- The pattern of q × 2^e for a significand q. -/
def FpFmt.compose (f : FpFmt) (q : Nat) (e : Int) : Nat :=
  let emin : Int := 1 - (f.bias : Int) - f.mb
  if q < 2 ^ f.mb then q else ((e - emin).toNat + 1) * 2 ^ f.mb + (q - 2 ^ f.mb)

/-- ±num / den rounded to nearest, ties to even; overflow gives infinity and OVF. -/
def FpFmt.round (f : FpFmt) (neg : Bool) (num den : Nat) : FRes :=
  let sb := if neg then f.signBit else 0
  if num = 0 then .clean sb else
  let e := f.scale num den
  let (n, d) := scaled num den e
  let b := f.compose (rneNat n d) e
  if b ≥ f.infBits then ⟨sb + f.infBits, ⟨false, false, true, false⟩⟩ else .clean (sb + b)

/-- num / den rounded toward zero, and whether that is exact. -/
def FpFmt.trunc (f : FpFmt) (num den : Nat) : Nat × Bool :=
  if num = 0 then (0, true) else
  let e := f.scale num den
  let (n, d) := scaled num den e
  (f.compose (n / d) e, n % d = 0)

/-- An exact ±m × 2^e, rounded. -/
def FpFmt.roundDyadic (f : FpFmt) (v : Int) (e : Int) (zeroNeg : Bool) : FRes :=
  if v = 0 then .clean (if zeroNeg then f.signBit else 0)
  else if e ≥ 0 then f.round (v < 0) (v.natAbs * 2 ^ e.toNat) 1
  else f.round (v < 0) v.natAbs (2 ^ (-e).toNat)

/-- Signed significand. -/
def signed (neg : Bool) (m : Nat) : Int := if neg then -(m : Int) else m

/-- Sum of two exact terms ±m × 2^e as one term at the lower exponent. -/
def addExact (n1 : Bool) (m1 : Nat) (e1 : Int) (n2 : Bool) (m2 : Nat) (e2 : Int) : Int × Int :=
  let e := if e1 ≤ e2 then e1 else e2
  (signed n1 (m1 * 2 ^ (e1 - e).toNat) + signed n2 (m2 * 2 ^ (e2 - e).toNat), e)

/-- Sum of two values: the core of ADD, SUB and FMA. -/
def FpFmt.addVal (f : FpFmt) (snan : Bool) : FVal → FVal → FRes
  | .nan, _ => f.nanRes snan
  | _, .nan => f.nanRes snan
  | .inf a, .inf b => if a = b then .clean (f.infBits + if a then f.signBit else 0) else f.nanRes true
  | .inf a, _ => .clean (f.infBits + if a then f.signBit else 0)
  | _, .inf b => .clean (f.infBits + if b then f.signBit else 0)
  | .fin n1 m1 e1, .fin n2 m2 e2 =>
    let (v, e) := addExact n1 m1 e1 n2 m2 e2
    f.roundDyadic v e (n1 && n2)

/-- The negated value. -/
def FVal.neg : FVal → FVal
  | .nan => .nan
  | .inf n => .inf (!n)
  | .fin n m e => .fin (!n) m e

/-- Exact product; none stands for an invalid product (infinity × 0). -/
def FVal.mul : FVal → FVal → Option FVal
  | .nan, _ => some .nan
  | _, .nan => some .nan
  | .inf a, .inf b => some (.inf (a ^^ b))
  | .inf a, .fin n m _ => if m = 0 then none else some (.inf (a ^^ n))
  | .fin n m _, .inf b => if m = 0 then none else some (.inf (n ^^ b))
  | .fin n1 m1 e1, .fin n2 m2 e2 => some (.fin (n1 ^^ n2) (m1 * m2) (e1 + e2))

/-- A value rounded to a format. -/
def FpFmt.encode (f : FpFmt) (inv : Bool) : FVal → FRes
  | .nan => f.nanRes inv
  | .inf n => .clean (f.infBits + if n then f.signBit else 0)
  | .fin n m e => f.roundDyadic (signed n m) e n

def FpFmt.add (f : FpFmt) (a b : Nat) : FRes :=
  f.addVal (f.isSnan a || f.isSnan b) (f.decode a) (f.decode b)

def FpFmt.sub (f : FpFmt) (a b : Nat) : FRes :=
  f.addVal (f.isSnan a || f.isSnan b) (f.decode a) (f.decode b).neg

def FpFmt.mul (f : FpFmt) (a b : Nat) : FRes :=
  match (f.decode a).mul (f.decode b) with
  | none => f.nanRes true
  | some v => f.encode (f.isSnan a || f.isSnan b) v

/-- a × b + c with one rounding. -/
def FpFmt.fma (f : FpFmt) (a b c : Nat) : FRes :=
  match (f.decode a).mul (f.decode b) with
  | none => f.nanRes true
  | some v => f.addVal (f.isSnan a || f.isSnan b || f.isSnan c) v (f.decode c)

/-- a / b, correctly rounded (R96, R105). -/
def FpFmt.div (f : FpFmt) (a b : Nat) : FRes :=
  match f.decode a, f.decode b with
  | .nan, _ => f.nanRes (f.isSnan a || f.isSnan b)
  | _, .nan => f.nanRes (f.isSnan a || f.isSnan b)
  | .inf _, .inf _ => f.nanRes true
  | .inf n, .fin n' _ _ => .clean (f.infBits + if n ^^ n' then f.signBit else 0)
  | .fin n _ _, .inf n' => .clean (if n ^^ n' then f.signBit else 0)
  | .fin n m e, .fin n' m' e' =>
    if m' = 0 then (if m = 0 then f.nanRes true else .clean (f.infBits + if n ^^ n' then f.signBit else 0))
    else
      let d := e - e'
      if d ≥ 0 then f.round (n ^^ n') (m * 2 ^ d.toNat) m' else f.round (n ^^ n') m (m' * 2 ^ (-d).toNat)

/-- Order of two values that are not NaN: the sign of a − b. -/
def FVal.cmp : FVal → FVal → Int
  | .inf a, .inf b => if a = b then 0 else if a then -1 else 1
  | .inf a, _ => if a then -1 else 1
  | _, .inf b => if b then 1 else -1
  | .fin n1 m1 e1, .fin n2 m2 e2 => (addExact n1 m1 e1 (!n2) m2 e2).1.sign
  | _, _ => 0

/-- Comparison flags: a NaN consumed sets NAN, a signalling one INV as well. -/
def FpFmt.cmpFlags (f : FpFmt) (a b : Nat) : TileFlags :=
  ⟨f.decode a = .nan || f.decode b = .nan, false, false, f.isSnan a || f.isSnan b⟩

def FpFmt.eq (f : FpFmt) (a b : Nat) : Bool :=
  f.decode a ≠ .nan && f.decode b ≠ .nan && (f.decode a).cmp (f.decode b) = 0
def FpFmt.lt (f : FpFmt) (a b : Nat) : Bool :=
  f.decode a ≠ .nan && f.decode b ≠ .nan && (f.decode a).cmp (f.decode b) < 0
def FpFmt.le (f : FpFmt) (a b : Nat) : Bool :=
  f.decode a ≠ .nan && f.decode b ≠ .nan && (f.decode a).cmp (f.decode b) ≤ 0

/-- Maximum of IEEE 754-2019: NaN gives the canonical NaN, −0 counts as less than +0 (R236). -/
def FpFmt.maximum (f : FpFmt) (a b : Nat) : FRes :=
  if f.decode a = .nan ∨ f.decode b = .nan then f.nanRes (f.isSnan a || f.isSnan b)
  else if (f.decode a).cmp (f.decode b) = 0 then .clean (if a < f.signBit then a else b)
  else if f.lt a b then .clean b else .clean a

def FpFmt.minimum (f : FpFmt) (a b : Nat) : FRes :=
  if f.decode a = .nan ∨ f.decode b = .nan then f.nanRes (f.isSnan a || f.isSnan b)
  else if (f.decode a).cmp (f.decode b) = 0 then .clean (if a < f.signBit then b else a)
  else if f.lt a b then .clean a else .clean b

def FpFmt.absolute (f : FpFmt) (a : Nat) : FRes :=
  if f.decode a = .nan then f.nanRes (f.isSnan a) else .clean (a % f.signBit)

def FpFmt.negate (f : FpFmt) (a : Nat) : FRes :=
  if f.decode a = .nan then f.nanRes (f.isSnan a)
  else .clean (if a < f.signBit then a + f.signBit else a - f.signBit)

/-- Nearest integer, ties to even, of a finite value. -/
def rneVal (neg : Bool) (m : Nat) (e : Int) : Int :=
  signed neg (if e ≥ 0 then m * 2 ^ e.toNat else rneNat m (2 ^ (-e).toNat))

/-- The two's-complement value of a w-bit pattern. -/
def sint (w : Nat) (x : Nat) : Int := if x % 2 ^ w < 2 ^ (w - 1) then ((x % 2 ^ w : Nat) : Int) else ((x % 2 ^ w : Nat) : Int) - (2 ^ w : Nat)

/-- The w-bit pattern of an integer. -/
def uint (w : Nat) (x : Int) : Nat := (x % (2 ^ w : Nat)).toNat

/-- Saturation to w bits; SAT when it acts (R110). -/
def satRes (w : Nat) (x : Int) : FRes :=
  let lo : Int := -(2 ^ (w - 1) : Nat)
  let hi : Int := (2 ^ (w - 1) : Nat) - 1
  let y := clampInt lo hi x
  ⟨uint w y, ⟨false, decide (y ≠ x), false, false⟩⟩

/-- Floating point to a w-bit integer (R110). -/
def FpFmt.toInt (f : FpFmt) (w : Nat) (a : Nat) : FRes :=
  match f.decode a with
  | .nan => ⟨0, ⟨true, false, false, true⟩⟩
  | .inf neg => ⟨uint w (if neg then -(2 ^ (w - 1) : Nat) else (2 ^ (w - 1) : Nat) - 1), ⟨false, true, false, false⟩⟩
  | .fin neg m e => satRes w (rneVal neg m e)

/-- Integer to floating point. -/
def FpFmt.ofInt (f : FpFmt) (x : Int) : FRes := f.roundDyadic x 0 false

/-- Between floating-point formats. -/
def FpFmt.convert (src dst : FpFmt) (a : Nat) : FRes := dst.encode (src.isSnan a) (src.decode a)

/-- Integer square root by bits: the largest r with r² ≤ n, for n below 4^k. -/
def isqrt (n : Nat) : Nat → Nat
  | 0 => 0
  | k + 1 =>
    let r := isqrt (n / 4) k * 2
    if (r + 1) * (r + 1) ≤ n then r + 1 else r

/-- The allowed results of a special function whose exact value is num / den: correctly rounded in FP16 and bfloat16; in
FP32 any value within 1 ulp, which the open choice of the part decides (R236); infinity past the largest finite number (R109). -/
def FpFmt.special (f : FpFmt) (op a : Nat) (neg : Bool) (num den : Nat) (inexact : Bool) : FRes :=
  let r := f.round neg num den
  if f ≠ fp32 then r else
  let (lo, exact) := f.trunc num den
  let c := Config.ulpChoice op a % 3
  let mag :=
    if f.infBits ≤ lo then f.infBits
    else if exact && !inexact then (if c = 1 then lo + 1 else if c = 2 then lo - 1 else lo)
    else (if c = 0 then lo else if c = 1 then lo + 1 else r.bits % f.signBit)
  ⟨mag + (if neg then f.signBit else 0), if mag ≥ f.infBits then ⟨false, false, true, false⟩ else TileFlags.zero⟩

/-- 1 / a. -/
def FpFmt.recip (f : FpFmt) (a : Nat) : FRes :=
  match f.decode a with
  | .nan => f.nanRes (f.isSnan a)
  | .inf n => .clean (if n then f.signBit else 0)
  | .fin n m e =>
    if m = 0 then .clean (f.infBits + if n then f.signBit else 0)
    else if e ≥ 0 then f.special 0 a n 1 (m * 2 ^ e.toNat) false
    else f.special 0 a n (2 ^ (-e).toNat) m false

/-- 1 / √a, from 200 bits of the root. -/
def FpFmt.rsqrt (f : FpFmt) (a : Nat) : FRes :=
  match f.decode a with
  | .nan => f.nanRes (f.isSnan a)
  | .inf n => if n then f.nanRes true else .clean 0
  | .fin n m e =>
    if m = 0 then .clean (f.infBits + if n then f.signBit else 0)
    else if n then f.nanRes true
    else
      -- a = m × 2^e with e made even: 1/√a = 2^(-e/2) / √m
      let odd := e % 2 = 1
      let m' := if odd then 2 * m else m
      let h : Int := (if odd then e - 1 else e) / 2
      let r := isqrt (2 ^ 400 / m') 210
      let exact := r * r * m' = 2 ^ 400
      let (num, den) := if h ≥ 0 then (r, 2 ^ 200 * 2 ^ h.toNat) else (r * 2 ^ (-h).toNat, 2 ^ 200)
      f.special 1 a false num den (!exact)

/-- ln 2 in units of 2^−256. -/
def ln2Fix : Nat := 0xb17217f7d1cf79abc9e3b39803f2f6af40f343267298b62d8a0d175b8baafa2b

/-- Σ r^n / n! for r in units of 2^−256, from term n on. -/
def expSeries (r : Nat) : Nat → Nat → Nat → Nat
  | 0, _, _ => 0
  | k + 1, n, term => term + expSeries r k (n + 1) (term * r / 2 ^ 256 / (n + 1))

/-- e^x for x = v × 2^-256, as numerator and denominator. -/
def expFix (v : Int) : Nat × Nat :=
  let k := v / (ln2Fix : Int)
  let r := (v % (ln2Fix : Int)).toNat
  let t := expSeries r 64 0 (2 ^ 256)
  if k ≥ 0 then (t * 2 ^ k.toNat, 2 ^ 256) else (t, 2 ^ 256 * 2 ^ (-k).toNat)

/-- e^a. -/
def FpFmt.exp (f : FpFmt) (a : Nat) : FRes :=
  match f.decode a with
  | .nan => f.nanRes (f.isSnan a)
  | .inf n => .clean (if n then 0 else f.infBits)
  | .fin n m e =>
    if m = 0 then f.special 2 a false 1 1 false
    else
      let x := if e ≥ 0 then signed n (m * 2 ^ (min e 64).toNat * 2 ^ 256)
        else signed n (m * 2 ^ 256 / 2 ^ (-e).toNat)
      let c := clampInt (-(256 * 2 ^ 256 : Nat)) (256 * 2 ^ 256 : Nat) x
      let (num, den) := expFix c
      if c < -(200 * 2 ^ 256 : Nat) then .clean 0 else f.special 2 a false num den true

/-- The tempo table: ftab[t] = round(16,384 × 0.5 × 2^(t/32)) (R72). -/
def ftab : List Nat := [
  8192, 8371, 8555, 8742, 8933, 9129, 9329, 9533, 9742, 9955, 10173, 10396, 10624, 10856, 11094,
  11337, 11585, 11839, 12098, 12363, 12634, 12910, 13193, 13482, 13777, 14079, 14387, 14702, 15024,
  15353, 15689, 16033, 16384, 16743, 17109, 17484, 17867, 18258, 18658, 19066, 19484, 19911, 20347,
  20792, 21247, 21713, 22188, 22674, 23170, 23678, 24196, 24726, 25268, 25821, 26386, 26964, 27554,
  28158, 28774, 29405, 30048, 30706, 31379, 32066]

/-- The fine table: ftq[q] = round(16,384 × 2^(q/8,192)) (R89). -/
def ftq : List Nat := [
  16384, 16385, 16387, 16388, 16390, 16391, 16392, 16394, 16395, 16396, 16398, 16399, 16401, 16402,
  16403, 16405, 16406, 16408, 16409, 16410, 16412, 16413, 16415, 16416, 16417, 16419, 16420, 16421,
  16423, 16424, 16426, 16427, 16428, 16430, 16431, 16433, 16434, 16435, 16437, 16438, 16440, 16441,
  16442, 16444, 16445, 16447, 16448, 16449, 16451, 16452, 16453, 16455, 16456, 16458, 16459, 16460,
  16462, 16463, 16465, 16466, 16467, 16469, 16470, 16472, 16473, 16474, 16476, 16477, 16479, 16480,
  16481, 16483, 16484, 16486, 16487, 16488, 16490, 16491, 16492, 16494, 16495, 16497, 16498, 16499,
  16501, 16502, 16504, 16505, 16506, 16508, 16509, 16511, 16512, 16513, 16515, 16516, 16518, 16519,
  16520, 16522, 16523, 16525, 16526, 16527, 16529, 16530, 16532, 16533, 16534, 16536, 16537, 16539,
  16540, 16541, 16543, 16544, 16546, 16547, 16548, 16550, 16551, 16553, 16554, 16555, 16557, 16558,
  16560, 16561] ++ [
  16562, 16564, 16565, 16567, 16568, 16569, 16571, 16572, 16574, 16575, 16576, 16578, 16579, 16581,
  16582, 16583, 16585, 16586, 16588, 16589, 16590, 16592, 16593, 16595, 16596, 16597, 16599, 16600,
  16602, 16603, 16605, 16606, 16607, 16609, 16610, 16612, 16613, 16614, 16616, 16617, 16619, 16620,
  16621, 16623, 16624, 16626, 16627, 16628, 16630, 16631, 16633, 16634, 16635, 16637, 16638, 16640,
  16641, 16642, 16644, 16645, 16647, 16648, 16650, 16651, 16652, 16654, 16655, 16657, 16658, 16659,
  16661, 16662, 16664, 16665, 16666, 16668, 16669, 16671, 16672, 16673, 16675, 16676, 16678, 16679,
  16681, 16682, 16683, 16685, 16686, 16688, 16689, 16690, 16692, 16693, 16695, 16696, 16697, 16699,
  16700, 16702, 16703, 16705, 16706, 16707, 16709, 16710, 16712, 16713, 16714, 16716, 16717, 16719,
  16720, 16722, 16723, 16724, 16726, 16727, 16729, 16730, 16731, 16733, 16734, 16736, 16737, 16739,
  16740, 16741]

/-- Entry t of the tempo table. -/
def ftabAt (t : Nat) : Nat := ftab.getD t 0
def ftqAt (q : Nat) : Nat := ftq.getD q 0

/-- The bell code table in thousandths of the group scale (R81); the escape code reads 0 (R82). -/
def bellTable : List Int := [-1000, -748, -556, -401, -268, -152, -61, 0, 61, 152, 268, 401, 556, 748, 1000, 0]

/-- 2^(n/d) in units of 2^−64, from the exponential series. -/
def exp2Fix (n : Int) (d : Nat) : Nat :=
  let (a, b) := expFix ((n * (ln2Fix : Int)) / (d : Int))
  a * 2 ^ 64 / b

end Sys2Proof.Machine
end

