-- ==== Sys2Proof/Machine/Operands.lean ====
section
/-!
DEFINITION. Operand forms: handles and groups (spec/02), address formation of routine operands (R219), and the packing of
elements in rows and vector registers (R108, R232).
-/
namespace Sys2Proof.Machine

/-! ### Handles (R22 to R29) -/

/-- Bits lo to lo + w − 1 of a number. -/
def bitsOf (x lo w : Nat) : Nat := x / 2 ^ lo % 2 ^ w

def Handle.isGroup (h : Handle) : Bool := bitsOf h.toNat 31 1 = 1
def Handle.kind (h : Handle) : Nat := bitsOf h.toNat 24 7
def Handle.dieField (h : Handle) : Nat := bitsOf h.toNat 19 5
def Handle.tileField (h : Handle) : Nat := bitsOf h.toNat 15 4
def Handle.engineField (h : Handle) : Nat := bitsOf h.toNat 11 4
def Handle.arrayField (h : Handle) : Nat := bitsOf h.toNat 1 10
def Handle.bankField (h : Handle) : Nat := bitsOf h.toNat 0 1
/-- Descriptor number of a group handle, bits [23:0] (R26). -/
def Handle.number (h : Handle) : Nat := bitsOf h.toNat 0 24

/-- The device handle and the hub die handle. -/
def deviceHandle : Handle := 0x01000000
def hubHandle : Handle := 0x02000000

/-- Position bits that a kind does not use are zero (R23, R24). -/
def Handle.unusedZero (h : Handle) : Bool :=
  match Handle.kind h with
  | 0 => bitsOf h.toNat 0 24 = 0
  | 1 => bitsOf h.toNat 0 24 = 0
  | 2 => bitsOf h.toNat 0 19 = 0
  | 3 => bitsOf h.toNat 0 15 = 0
  | 4 => bitsOf h.toNat 0 11 = 0
  | 5 => bitsOf h.toNat 0 1 = 0
  | 6 => true
  | 7 => bitsOf h.toNat 0 1 = 0 && bitsOf h.toNat 3 8 = 0
  | _ => false

/-- A valid physical handle (R24); the null handle is accepted by this test. -/
def Handle.physValid (h : Handle) : Bool :=
  !Handle.isGroup h && decide (Handle.kind h ≤ 7) && Handle.unusedZero h && decide (Handle.dieField h ≤ 16) &&
    (decide (Handle.kind h < 3) || decide (1 ≤ Handle.dieField h))

/-- Group table: descriptor number to descriptor. -/
abbrev GroupTable := SMap (Option GroupDesc)

def GroupTable.find (g : GroupTable) (n : Nat) : Option GroupDesc := mget none g n

/-- A valid group handle (R26). -/
def Handle.groupValid (g : GroupTable) (h : Handle) : Bool :=
  Handle.isGroup h && decide (1 ≤ Handle.number h) && decide (Handle.number h ≤ 4095) &&
    (match GroupTable.find g (Handle.number h) with
      | none => false
      | some d => decide (d.face = Handle.kind h))

/-- A valid handle other than null. -/
def Handle.valid (g : GroupTable) (h : Handle) : Bool :=
  if Handle.isGroup h then Handle.groupValid g h else Handle.physValid h && decide (h ≠ 0)

/-- Handle of weight die k. -/
def dieHandle (d : DieId) : Handle := BitVec.ofNat 32 (0x02000000 + (d.val + 1) * 0x80000)
/-- Handle of a tile by number. -/
def tileHandle (t : TileId) : Handle :=
  BitVec.ofNat 32 (0x03000000 + (t.val / 16 + 1) * 0x80000 + (t.val % 16) * 0x8000)
/-- Handle of an engine by number. -/
def engineHandle (e : EngineId) : Handle :=
  BitVec.ofNat 32 (0x04000000 + (e.val / 256 + 1) * 0x80000 + (e.val / 16 % 16) * 0x8000 + (e.val % 16) * 0x800)
/-- Handle of an array of an engine. -/
def arrayHandle (e : EngineId) (a : Nat) : Handle :=
  BitVec.ofNat 32 (0x05000000 + (engineHandle e).toNat % 0x1000000 + a % 1024 * 2)
/-- Handle of a bank by number: 2048 × engine + 2 × array + bank. -/
def bankHandle (b : Nat) : Handle :=
  BitVec.ofNat 32 (0x06000000 + (engineHandle (Fin.ofNat 4096 (b / 2048))).toNat % 0x1000000 + b % 2048)

/-- The die of a handle that names one. -/
def Handle.die? (h : Handle) : Option DieId :=
  if hk : 1 ≤ Handle.dieField h ∧ Handle.dieField h ≤ 16 then some ⟨Handle.dieField h - 1, by omega⟩ else none

/-- The tile, engine or bank number of a physical handle. -/
def Handle.tile? (h : Handle) : Option TileId :=
  if Handle.kind h = 3 ∧ !Handle.isGroup h then
    (Handle.die? h).map fun d => Fin.ofNat 256 (16 * d.val + Handle.tileField h)
  else none
def Handle.engine? (h : Handle) : Option EngineId :=
  if Handle.kind h = 4 ∧ !Handle.isGroup h then
    (Handle.die? h).map fun d => Fin.ofNat 4096 (256 * d.val + 16 * Handle.tileField h + Handle.engineField h)
  else none
/-- The engine that a handle of an engine, array, bank or reference array lies in. -/
def Handle.inEngine? (h : Handle) : Option EngineId :=
  if 4 ≤ Handle.kind h ∧ Handle.kind h ≤ 7 ∧ !Handle.isGroup h then
    (Handle.die? h).map fun d => Fin.ofNat 4096 (256 * d.val + 16 * Handle.tileField h + Handle.engineField h)
  else none
def Handle.bank? (h : Handle) : Option Nat :=
  if Handle.kind h = 6 ∧ !Handle.isGroup h then
    (Handle.inEngine? h).map fun e => e.val * 2048 + Handle.arrayField h * 2 + Handle.bankField h
  else none

/-- Depth-first expansion in member order; none when the expansion reaches a group on the path again, or a handle that names
no descriptor of the face (R29). `fuel` bounds list positions along one path: 256 members at each of 4,095 descriptors. -/
def expandWith (g : GroupTable) (face : Nat) : Nat → List Nat → List Handle → Option (List Handle)
  | 0, _, _ => none
  | _ + 1, _, [] => some []
  | fuel + 1, path, h :: rest =>
    let here : Option (List Handle) :=
      if Handle.isGroup h then
        if path.contains (Handle.number h) || decide (Handle.kind h ≠ face) then none
        else
          match GroupTable.find g (Handle.number h) with
          | none => none
          | some d => if d.face = face then expandWith g face fuel (Handle.number h :: path) d.members else none
      else if Handle.kind h = face ∧ Handle.physValid h then some [h] else none
    match here, expandWith g face fuel path rest with
    | some a, some b => some (a ++ b)
    | _, _ => none

/-- No element appears twice. -/
def noRepeats {α : Type} [DecidableEq α] : List α → Bool
  | [] => true
  | h :: hs => !hs.contains h && noRepeats hs

/-- The flattened set of a handle: itself for a physical one (R29). -/
def flattened (g : GroupTable) (h : Handle) : List Handle :=
  if Handle.isGroup h then (expandWith g (Handle.kind h) 1048576 [] [h]).getD [] else [h]

def tileInHandle (g : GroupTable) (h : Handle) (t : TileId) : Bool := (flattened g h).contains (tileHandle t)

/-- The placement of a tile (R39, R242). -/
def placementOf (g : GroupTable) (c : Container) (t : TileId) : Option Placement :=
  c.placements.find? fun p => tileInHandle g p.handle t

/-- A group descriptor that R27 to R29 and R36 allow, given the table it would join. -/
def GroupDesc.ok (g : GroupTable) (d : GroupDesc) : Bool :=
  decide (1 ≤ d.number) && decide (d.number ≤ 4095) && decide (2 ≤ d.face) && decide (d.face ≤ 6) &&
    decide (1 ≤ d.members.length) && decide (d.members.length ≤ 256) &&
    (!d.throttle || decide (d.face = 2)) &&
    d.members.all (fun h => Handle.valid g h && decide (Handle.kind h = d.face) &&
      (decide (d.face ≠ 2) || Handle.isGroup h || decide (1 ≤ Handle.dieField h))) &&
    (match expandWith (mput g d.number (some d)) d.face 1048576 [d.number] d.members with
      | none => false
      | some fs => noRepeats fs)

/-! ### Operands of routine words -/

/-- Sum of stride × loop index over the open loops, outermost first (R219). -/
def strideSum : List Int → List LoopFrame → Int
  | s :: ss, l :: ls => s * l.done + strideSum ss ls
  | _, _ => 0

/-- operand = base + Σ stride_k × i_k, in a field of `limit` values. The load checks keep every formed operand in range;
outside it the field wraps. -/
def formOperand (limit : Nat) (base : Nat) (strides : List Int) (loops : List LoopFrame) : Nat :=
  (((base : Int) + strideSum strides loops.reverse) % (limit : Int)).toNat

/-! ### Packing of elements -/

/-- Element k of w bits. -/
def elemAt (w : Nat) (x : Nat) (k : Nat) : Nat := bitsOf x (w * k) w

/-- The first n elements of w bits. -/
def unpackNat (w : Nat) (x : Nat) (n : Nat) : List Nat := (List.range n).map (elemAt w x)

/-- Elements of w bits put together, the first lowest. -/
def packNat (w : Nat) : List Nat → Nat
  | [] => 0
  | e :: es => e % 2 ^ w + 2 ^ w * packNat w es

def VFmt.bits : VFmt → Nat
  | .int8 => 8
  | .int16 => 16
  | .int32 => 32
  | .fp16 => 16
  | .bf16 => 16
  | .fp32 => 32

/-- Elements per row (R108). -/
def VFmt.count (f : VFmt) : Nat := 2048 / VFmt.bits f

def VFmt.isInt : VFmt → Bool
  | .int8 => true
  | .int16 => true
  | .int32 => true
  | _ => false

/-- The floating-point format; FP32 for the integer formats, which no caller asks. -/
def VFmt.fp : VFmt → FpFmt
  | .fp16 => fp16
  | .bf16 => bf16
  | _ => fp32

/-- Element k of a vector register. -/
def VReg.elem (v : VReg) (f : VFmt) (k : Nat) : Nat := elemAt (VFmt.bits f) v.data.toNat k

/-- A poisoned lane touches element k (R191). -/
def poisonedElem (poison : BitVec 128) (w k : Nat) : Bool :=
  if w = 32 then poison.getLsbD (2 * k) || poison.getLsbD (2 * k + 1)
  else if w = 8 then poison.getLsbD (k / 2)
  else poison.getLsbD k

def VReg.elemPoison (v : VReg) (f : VFmt) (k : Nat) : Bool := poisonedElem v.poison (VFmt.bits f) k

/-- Lane poison from element poison: a lane is poisoned when an element that lies in it is. -/
def lanePoison (w : Nat) (ps : List Bool) : BitVec 128 :=
  BitVec.ofNat 128 (packNat 1 ((List.range 128).map fun l =>
    let p := if w = 32 then ps.getD (l / 2) false
      else if w = 8 then ps.getD (2 * l) false || ps.getD (2 * l + 1) false
      else ps.getD l false
    if p then 1 else 0))

/-- A vector register from its elements and their poison. -/
def VReg.ofElems (w : Nat) (es : List Nat) (ps : List Bool) : VReg :=
  ⟨BitVec.ofNat 2048 (packNat w es), lanePoison w ps⟩

/-- The row a register is written to: a word is poisoned when one of its four lanes is (R191). -/
def VReg.toRow (v : VReg) : Row :=
  ⟨v.data, BitVec.ofNat 32 (packNat 1 ((List.range 32).map fun w =>
    if bitsOf v.poison.toNat (4 * w) 4 = 0 then 0 else 1))⟩

/-- The register a row is read into: a lane read from a poisoned word is poisoned. -/
def Row.toVReg (r : Row) : VReg :=
  ⟨r.data, BitVec.ofNat 128 (packNat 4 ((List.range 32).map fun w => if r.poison.getLsbD w then 15 else 0))⟩

/-- A row with every word poisoned. -/
def Row.allPoison (r : Row) : Row := { r with poison := BitVec.allOnes 32 }

def Row.anyPoison (r : Row) : Bool := r.poison ≠ 0

/-- Byte b of a row (R248). -/
def Row.byte (r : Row) (b : Nat) : Byte := BitVec.ofNat 8 (elemAt 8 r.data.toNat b)

/-- A row from 256 bytes and word poison. -/
def Row.ofBytes (bs : List Byte) (poison : BitVec 32) : Row :=
  ⟨BitVec.ofNat 2048 (packNat 8 (bs.map BitVec.toNat)), poison⟩

def Row.bytes (r : Row) : List Byte := (List.range 256).map (Row.byte r)

/-- Little-endian number of a list of bytes (R4). -/
def leNat (bs : List Byte) : Nat := packNat 8 (bs.map BitVec.toNat)

/-- The n low bytes of a number, little-endian. -/
def leBytes (n x : Nat) : List Byte := (unpackNat 8 x n).map (BitVec.ofNat 8)

/-- Bytes from offset `o`, `n` of them, zeros past the end. -/
def sliceBytes (bs : List Byte) (o n : Nat) : List Byte :=
  (List.range n).map fun k => bs.getD (o + k) 0

/-- SET of a translation table entry (R146). -/
def setCode : LevelSet → Nat
  | .bell => 0
  | .uniform4 => 1
  | .pair8 => 2
  | .binary => 3

/-- Field of n bytes at offset o of a structure. -/
def fieldAt (bs : List Byte) (o n : Nat) : Nat := leNat (sliceBytes bs o n)

/-- The 128 patterns that PART selects from a row for width w, and the poison of each: that of its word (R191, R232). -/
def feedPart (w part : Nat) (r : Row) : List Nat × List Bool :=
  let lo := w * 128 * part
  (unpackNat w (r.data.toNat / 2 ^ lo) 128, (List.range 128).map fun k => r.poison.getLsbD ((lo + w * k) / 64))

end Sys2Proof.Machine
end

