-- ==== Sys2Proof/Machine/Flags.lean ====
section
/-!
DEFINITION. Flag and statistics computations: the tile flags (R111), the fields of STAT_CTL and the observation rules of the
statistics registers (R98 to R101).
-/
namespace Sys2Proof.Machine

/-- Sticky union of flags. -/
def TileFlags.or (a b : TileFlags) : TileFlags :=
  ⟨a.nan || b.nan, a.sat || b.sat, a.ovf || b.ovf, a.inv || b.inv⟩

/-- Union over a list. -/
def TileFlags.orAll : List TileFlags → TileFlags
  | [] => TileFlags.zero
  | f :: fs => TileFlags.or f (TileFlags.orAll fs)

/-- Bits [3:0]: NAN, SAT, OVF, INV, as FLRD delivers them and the dictionary shows them. -/
def TileFlags.bits (f : TileFlags) : Nat :=
  (if f.nan then 8 else 0) + (if f.sat then 4 else 0) + (if f.ovf then 2 else 0) + (if f.inv then 1 else 0)

def TileFlags.satOnly : TileFlags := ⟨false, true, false, false⟩

/-! ### STAT_CTL (R98) -/

def Stat.enabled (r : Stat) : Bool := r.ctl.getLsbD 31 && decide (bitsOf r.ctl.toNat 29 2 ≠ 3)
def Stat.mode (r : Stat) : Nat := bitsOf r.ctl.toNat 29 2
def Stat.frc (r : Stat) : Bool := r.ctl.getLsbD 28
def Stat.miss (r : Stat) : Bool := r.ctl.getLsbD 27
def Stat.flat (r : Stat) : Bool := r.ctl.getLsbD 26
def Stat.tag (r : Stat) : Nat := bitsOf r.ctl.toNat 16 8
def Stat.chan (r : Stat) : Nat := bitsOf r.ctl.toNat 0 16

/-- One bit of STAT_CTL set or cleared. -/
def Stat.setBit (r : Stat) (n : Nat) (b : Bool) : Stat :=
  let c := r.ctl.toNat
  let low := c % 2 ^ n
  let high := c / 2 ^ (n + 1) * 2 ^ (n + 1)
  { r with ctl := BitVec.ofNat 32 (high + (if b then 2 ^ n else 0) + low) }

/-- The fields that a write reaches: all but MISS, FLAT, NAN and PSN, bits [27:24]. -/
def Stat.writeCtl (r : Stat) (ctl : W32) : Stat :=
  { r with ctl := (ctl &&& 0xF0FFFFFF) ||| (r.ctl &&& 0x0F000000) }

/-- MISS is set whenever STAT_VAL is strictly greater than STAT_CLIP (R100). A write of a negative STAT_CLIP sets it also in a
register that was never enabled, whose STAT_VAL is +0: R100 says that such a write sets MISS and R98 that such a register never
does; the model follows R100 (DESIGN CHOICE, log 86). -/
def Stat.checkMiss (r : Stat) : Stat :=
  if FpFmt.lt fp32 r.clip.toNat r.val.toNat then r.setBit 27 true else r

/-- A clear (R101). -/
def Stat.clear (r : Stat) : Stat :=
  { r with ctl := r.ctl &&& 0xF0FFFFFF, val := 0, cnt := 0 }

/-- A write of STAT_CTL and STAT_CLIP (R100, R103, R236). -/
def Stat.write (r : Stat) (ctl clip : W32) : Stat :=
  ({ r.writeCtl ctl with clip := clip }).checkMiss

/-- One element of STAT_CNT, saturating. -/
def Stat.count (r : Stat) : Stat :=
  { r with cnt := if r.cnt = 0xFFFFFFFF then r.cnt else r.cnt + 1 }

/-- The effect of one element (R100). -/
def Stat.observeElem (r : Stat) : ObsElem → Stat
  | .num m _ =>
    let r' := r.count
    (if FpFmt.lt fp32 r'.val.toNat m.toNat then { r' with val := m } else r').checkMiss
  | .nan => r.count.setBit 25 true
  | .poisoned => r.count.setBit 24 true

def Stat.observeElems (r : Stat) : List ObsElem → Stat
  | [] => r
  | e :: es => Stat.observeElems (r.observeElem e) es

/-- Every element is a zero that is neither NaN nor poisoned. -/
def ObsElem.allZero (es : List ObsElem) : Bool :=
  es.all fun e => match e with
    | .num _ z => z
    | _ => false

/-- An enabled register whose TAG matches observes by its mode (R99): tensor mode every element, channel mode the element
whose index within the row is CHAN, row mode every element with a restart at the row start and FLAT at the row end. R99 does not say how
the index runs in channel mode over several operations: it runs on until an operation marks a row start (DESIGN CHOICE, log 87). -/
def Stat.observe (r : Stat) (p : StatRow) (o : Observation) : Stat × StatRow :=
  if !(r.enabled && decide (r.tag = o.tag)) then (r, p) else
  let p0 := if o.rowStart then StatRow.start else p
  let p1 : StatRow := ⟨p0.pos + o.elems.length, p0.flat && o.codesFlat.getD (ObsElem.allZero o.elems)⟩
  if r.mode = 1 then
    if p0.pos ≤ r.chan then (r.observeElems ((o.elems.drop (r.chan - p0.pos)).take 1), p1) else (r, p1)
  else if r.mode = 2 then
    let r0 := if o.rowStart then { r with val := 0, cnt := 0 } else r
    let r1 := r0.observeElems o.elems
    (if o.rowEnd then r1.setBit 26 p1.flat else r1, p1)
  else (r.observeElems o.elems, p1)

/-- An FP element widened to an FP32 magnitude, an integer element converted. -/
def obsOf (f : VFmt) (bits : Nat) (poisoned : Bool) : ObsElem :=
  if poisoned then .poisoned
  else if VFmt.isInt f then
    let v := sint (VFmt.bits f) bits
    .num (BitVec.ofNat 32 (FpFmt.ofInt fp32 v.natAbs).bits) (decide (v = 0))
  else
    match FpFmt.decode (VFmt.fp f) bits with
    | .nan => .nan
    | v =>
      let b := (FpFmt.convert (VFmt.fp f) fp32 bits).bits % 2 ^ 31
      .num (BitVec.ofNat 32 b) (match v with
        | .fin _ m _ => decide (m = 0)
        | _ => false)

end Sys2Proof.Machine
end

