-- ==== Sys2Proof/Machine/Ops.lean ====
section
/-!
DEFINITION. The named operations over the state that the meanings share: access to units, settings, the event log,
turnstiles and done adds, the ticket booth, and the byte memories. The block takes no exceptions; raising an event is the
one shared way in which a command reports.
-/
namespace Sys2Proof.Machine

/-! ### Units -/

def State.tile (s : State) (t : TileId) : Tile := mget Tile.init s.tiles t.val
def State.setTile (s : State) (t : TileId) (x : Tile) : State := { s with tiles := mset Tile.init s.tiles t.val x }
def State.modTile (s : State) (t : TileId) (f : Tile → Tile) : State := s.setTile t (f (s.tile t))

def State.engine (s : State) (e : EngineId) : Engine := mget Engine.init s.engines e.val
def State.setEngine (s : State) (e : EngineId) (x : Engine) : State :=
  { s with engines := mset Engine.init s.engines e.val x }
def State.modEngine (s : State) (e : EngineId) (f : Engine → Engine) : State := s.setEngine e (f (s.engine e))

def State.bank (s : State) (b : Nat) : Bank := mget Bank.init s.banks b
/-- The array of a bank is in class B (R119). -/
def State.arrayClassB (s : State) (b : Nat) : Bool := (s.bank (2 * (b / 2))).classB || (s.bank (2 * (b / 2) + 1)).classB
def State.setBank (s : State) (b : Nat) (x : Bank) : State := { s with banks := mset Bank.init s.banks b x }
def State.modBank (s : State) (b : Nat) (f : Bank → Bank) : State := s.setBank b (f (s.bank b))

def State.die (s : State) (d : DieId) : Die := mget Die.init s.dies d.val
def State.setDie (s : State) (d : DieId) (x : Die) : State := { s with dies := mset Die.init s.dies d.val x }
def State.modDie (s : State) (d : DieId) (f : Die → Die) : State := s.setDie d (f (s.die d))

/-- Apply a change for every element of a list, in order. -/
def forAll {α : Type} (xs : List α) (f : State → α → State) (s : State) : State := xs.foldl f s

def tileDie (t : TileId) : DieId := ⟨t.val / 16, by omega⟩
def engineTile (e : EngineId) : TileId := ⟨e.val / 16, by omega⟩
def engineDie (e : EngineId) : DieId := tileDie (engineTile e)
def bankEngine (b : Nat) : EngineId := Fin.ofNat 4096 (b / 2048)
def bankDie (b : Nat) : DieId := engineDie (bankEngine b)
def allDies : List DieId := (List.range 16).map (Fin.ofNat 16)
def allTiles : List TileId := (List.range 256).map (Fin.ofNat 256)
def dieTiles (d : DieId) : List TileId := (List.range 16).map fun k => Fin.ofNat 256 (16 * d.val + k)
def tileEngines (t : TileId) : List EngineId := (List.range 16).map fun k => Fin.ofNat 4096 (16 * t.val + k)
def dieEngines (d : DieId) : List EngineId := (List.range 256).map fun k => Fin.ofNat 4096 (256 * d.val + k)
/-- The engines of a tile that a mask names. -/
def maskEngines (t : TileId) (mask : BitVec 16) : List EngineId :=
  ((List.range 16).filter fun k => mask.getLsbD k).map fun k => Fin.ofNat 4096 (16 * t.val + k)

/-- Core power is up: Run, Idle or Doze with the hub running; Off removes it (R19). -/
def State.awake (s : State) : Bool := decide (s.power = .run) || decide (s.power = .idle)

def State.dieIn (s : State) (d : DieId) : Bool := !(s.die d).out
def State.tileIn (s : State) (t : TileId) : Bool := s.dieIn (tileDie t)
def State.diesIn (s : State) : List DieId := allDies.filter s.dieIn
def State.tilesIn (s : State) : List TileId := allTiles.filter s.tileIn

/-- The tiles in service of a tile handle or tile group, in the order of the flattened set (R35). -/
def State.handleTiles (s : State) (h : Handle) : List TileId :=
  ((flattened s.prog.groups h).filterMap Handle.tile?).filter s.tileIn

/-- The weight dies in service of a die handle or die group. -/
def State.handleDies (s : State) (h : Handle) : List DieId :=
  ((flattened s.prog.groups h).filterMap fun x => if Handle.kind x = 2 then Handle.die? x else none).filter s.dieIn

/-- The dies of a throttle group: those in service, and those that have not left it yet (R38). -/
def State.memberDies (s : State) (h : Handle) : List DieId :=
  ((flattened s.prog.groups h).filterMap fun x => if Handle.kind x = 2 then Handle.die? x else none).filter fun d =>
    s.dieIn d || (s.die d).leaving

/-- The dies of the throttle group that a die belongs to (R36). -/
def State.throttleDies (s : State) (d : DieId) : List DieId :=
  match (s.prog.throttle.map s.memberDies).find? (fun ds => ds.contains d) with
  | some ds => ds
  | none => [d]

def State.sameGroup (s : State) (a b : TileId) : Bool := (s.throttleDies (tileDie a)).contains (tileDie b)

/-- Absolute cycle of a tile: its die's slot start and the cycles since then. -/
def State.tileNow (s : State) (t : TileId) : Nat := (s.die (tileDie t)).clock + (s.tile t).phase

/-- The module that a ring module is joined to (R543). -/
def ringPeer (d : DieId) (m : Nat) : Option (DieId × Nat) :=
  if m = 3 then some (Fin.ofNat 16 (d.val + 1), 2) else if m = 2 then some (Fin.ofNat 16 (d.val + 15), 3) else none

/-- A Goine module is up. -/
def Die.raiseModule (x : Die) (m : Nat) : Die :=
  { x with modulesUp := (List.range 4).map fun k => x.modulesUp.getD k false || decide (k = m) }

/-- A group held or waiting freezes its tiles (R185, R190). -/
def State.frozen (s : State) (t : TileId) : Bool :=
  let d := s.die (tileDie t)
  d.held || d.waitSlot || d.out || !d.powered

/-- One more set of free values has been used. -/
def State.takeFree (s : State) : State := { s with free := s.free + 1 }

/-- The value of an element that arithmetic forms from poisoned data: nothing constrains it (R192). -/
def State.freeElem (s : State) (k : Nat) : Nat := Config.poisonedValue s.free k

/-! ### Settings (R495) -/

/-- Default of a numeric setting of spec/18, where it is not 0. -/
def settingDefault (k : Nat) : Nat :=
  if k = 0x200002 then 2 else if k = 0x200003 then 1000 else if k = 0x200004 then 900
  else if k = 0x210001 then 600 else if k = 0x210002 then 520 else if k = 0x210003 then 400
  else if k = 0x210004 then 1 else if k = 0x210005 then 60 else if k = 0x210006 then 35
  else if k = 0x220101 then 64 else if k = 0x240001 then 1 else if k = 0x250401 then 0x600000
  else if k / 256 = 0x2505 then 0x10802
  else if k = 0x280001 then 5
  else if k = 0x291005 ∨ k = 0x292005 ∨ k = 0x293005 then 200
  else if k = 0x291006 ∨ k = 0x292006 ∨ k = 0x293006 then 0xFFFFFFD8
  else if k = 0x291007 ∨ k = 0x292007 ∨ k = 0x293007 then 10
  else if k = 0x295004 then 3
  else if k = 0x2E0002 then 0x172
  else if 0x1000000 ≤ k ∧ k % 256 = 4 then 3
  else 0

/-- Key of a fallback setting of output variable v of segment s: subindex 3 mode, 4 limit L, 5 safe value (R205, 0x2950). -/
def fallbackKey (seg v sub : Nat) : Nat := 0x1000000 * (seg + 1) + v * 256 + sub

/-- Value of a stored setting: maps hold value + 1, so that 0 stands for the default. -/
def settingOf (m : SMap Nat) (k : Nat) : Nat :=
  match mget 0 m k with
  | 0 => settingDefault k
  | v + 1 => v

/-- The value in force, and the last accepted write. -/
def State.setting (s : State) (k : Nat) : Nat := settingOf s.dict.inForce k
def State.accepted (s : State) (k : Nat) : Nat := settingOf s.dict.accepted k
def State.octets (s : State) (k : Nat) : List Byte := mget [] s.dict.octetsInForce k
def State.acceptedOctets (s : State) (k : Nat) : List Byte := mget [] s.dict.octets k

/-- The boot set holds the setting (R556): objects of groups 0x2000 to 0x2900, the fallback settings among them, without the
token counter. -/
def bootKey (k : Nat) : Bool :=
  (decide (0x200000 ≤ k) && decide (k < 0x2A0000) && decide (k ≠ 0x26000C)) || decide (0x1000000 ≤ k)

/-- An accepted write of a setting (R495): in force at the next frame boundary. -/
def State.acceptSetting (s : State) (k v : Nat) : State :=
  { s with dict := { s.dict with accepted := mput s.dict.accepted k (v + 1) }
           svc := { s.svc with settingsChanged := s.svc.settingsChanged || bootKey k } }

def State.acceptOctets (s : State) (k : Nat) (v : List Byte) : State :=
  { s with dict := { s.dict with octets := mset [] s.dict.octets k v }
           svc := { s.svc with settingsChanged := s.svc.settingsChanged || bootKey k } }

/-! ### Events (R434 to R437, R497) -/

/-- Counter array of a class (R497). -/
def classIndex (c : Nat) : Nat :=
  match c with
  | 1 => 0x21FF
  | 2 => 0x24FF
  | 3 => 0x22FF
  | 4 => 0x29FF
  | 5 => 0x26FF
  | 6 => 0x27FF
  | 7 => 0x25FF
  | _ => 0x23FF

def counterKey (code : W16) : Nat := classIndex (code.toNat / 0x1000) * 256 + code.toNat % 256

/-- Events raised once per occurrence; every other is raised once per unit per frame and counts its repeats. -/
def perOccurrence (code : W16) : Bool :=
  let c := code.toNat
  let cls := c / 0x1000
  decide (cls = 8) || (decide (cls = 6) && decide (c ≠ 0x6010)) ||
    [0x1040, 0x4012, 0x4013, 0x4030, 0x4031, 0x4050, 0x4052, 0x4053, 0x4054, 0x4055, 0x4061, 0x4070].contains c

/-- Events whose unit is named in param: one per statistics register, turnstile, tamper sensor or LPDDR5X channel
(R107, R298, R467, R550). -/
def unitInParam (code : W16) : Bool := [0x2020, 0x2021, 0x5040, 0x5041, 0x6010, 0x3015].contains code.toNat

/-- Events limited to one per engine and frame although they may name an array of it (R63). -/
def perEngine (code : W16) : Bool := [0x2010, 0x2011, 0x2012, 0x5010].contains code.toNat

/-- The two handles name the same unit for the limit of an event. -/
def sameHandle (code : W16) (a b : Handle) : Bool :=
  decide (a = b) || (perEngine code && (Handle.inEngine? a).isSome && decide (Handle.inEngine? a = Handle.inEngine? b))

/-- The two events concern the same unit (R194, R211 and their like). -/
def LogEntry.sameUnit (e : LogEntry) (code : W16) (h : Handle) (param : W32) (aux : W16) : Bool :=
  decide (e.code = code) && sameHandle code e.handle h && decide (e.aux = aux) &&
    (!unitInParam code || decide (e.param = param))

def persistentCode (code : W16) : Bool :=
  decide (code.toNat / 0x1000 = 6) || decide (code.toNat / 0x1000 = 8) || decide (code = 0x1040)

/-- System time in ns at the present cycle: 1.25 ns per cc from the frame start. -/
def State.nowNs (s : State) : Nat := s.frame.sysTime + (s.now - s.frame.start) * 5 / 4

/-- The next frame start: the present one, F, and the last correction (R294). -/
def State.nextStart (s : State) : Int := (s.frame.start + 800 * s.frame.period : Nat) + s.frame.lastCorr

/-- One more repeat in the first entry that matches. -/
def bumpRepeat (p : LogEntry → Bool) : List LogEntry → List LogEntry
  | [] => []
  | e :: es => if p e then { e with repeats := min 65535 (e.repeats + 1) } :: es else e :: bumpRepeat p es

/-- A new entry joins a log of 4,096 entries: a full log gives up its oldest entry, and GAP marks the next entry when that
one was not acknowledged (R435). -/
def Service.append (v : Service) (e : LogEntry) : Service :=
  let full := decide (4096 ≤ v.log.length)
  let acked := match v.log, v.acked with
    | old :: _, some a => decide (old.sequence ≤ a)
    | _, _ => false
  let e' := { e with gap := v.gapNext }
  { v with
    log := (if full then v.log.drop 1 else v.log) ++ [e']
    nextSeq := v.nextSeq + 1
    gapNext := full && !acked
    lost := if full && !acked then v.lost + 1 else v.lost
    persistent := if e.pers then (if 1024 ≤ v.persistent.length then v.persistent.drop 1 else v.persistent) ++ [e']
      else v.persistent }

/-- Raise an event on a unit. -/
def State.raise (s : State) (code : W16) (h : Handle) (param : W32) (aux : W16) : State :=
  let k := counterKey code
  let counters := mset 0 s.svc.counters k (min 0xFFFFFFFF (mget 0 s.svc.counters k + 1))
  let same : LogEntry → Bool := fun e => e.sameUnit code h param aux && decide (e.frame = s.frame.number)
  let v := { s.svc with counters := counters }
  let v' := if !perOccurrence code && v.log.any same then { v with log := bumpRepeat same v.log }
    else v.append {
      code := code, repeats := 0, handle := h, sequence := v.nextSeq, frame := s.frame.number, time := s.nowNs
      param := param, aux := aux, pers := persistentCode code, gap := false }
  let s' := { s with svc := v' }
  if code.toNat / 0x1000 = 3 then
    match Handle.die? h with
    | some d => s'.modDie d fun x =>
        { x with class3 := (x.class3.filter fun t => decide (s.now < t + 800000000)) ++ [s.now] }
    | none => s'
  else s'

/-- An event without parameter and aux (0 and 0xFFFF). -/
def State.event (s : State) (code : W16) (h : Handle) : State := s.raise code h 0 0xFFFF
/-- An event of the device with an aux number: context, segment, list, bank or cursor. -/
def State.deviceEvent (s : State) (code : W16) (aux : Nat) : State := s.raise code deviceHandle 0 (BitVec.ofNat 16 aux)
/-- param with a reason in [31:24] and an index in [23:0]. -/
def eventParam (reason index : Nat) : W32 := BitVec.ofNat 32 (reason % 256 * 0x1000000 + index % 0x1000000)

/-- param with a reason code whose value the source does not state. -/
def openParam (code : W16) (cause index : Nat) : W32 := eventParam (Config.reasonCode code.toNat cause) index

/-! ### Turnstiles (R280 to R288) -/

/-- One update of a turnstile (R281 to R283, R288). -/
def Ts.apply (x : Ts) (op : TsOp) (poison : Bool) : Ts :=
  match op with
  | .add v =>
    let c := min 65535 (x.count.toNat + v)
    ⟨x.pois || poison, x.done || (decide (x.target ≠ 0) && decide (x.target.toNat ≤ c)), x.target, BitVec.ofNat 16 c⟩
  | .reset t => ⟨poison, false, t, 0⟩
  | .poison => ⟨true, x.done, x.target, x.count⟩

/-- An update would take COUNT above 65,535 (R282). -/
def Ts.saturates (x : Ts) : TsOp → Bool
  | .add v => decide (65535 < x.count.toNat + v)
  | _ => false

def TsOp.isReset : TsOp → Bool
  | .reset _ => true
  | _ => false

/-- An update enters the queue in order of its cycle; a reset goes before the updates of its own cycle (R195). -/
def insertTs (u : TsRecent) : List TsRecent → List TsRecent
  | [] => [u]
  | x :: xs =>
    if u.visible < x.visible ∨ (u.op.isReset ∧ u.visible = x.visible) then u :: x :: xs else x :: insertTs u xs

/-- State of turnstile n once the updates in the queue have acted on what samples see. -/
def foldTs (n : Nat) (seen : Ts) (q : List TsRecent) : Ts :=
  (q.filter fun u => decide (u.number = n)).foldl (fun x u => x.apply u.op u.poison) seen

/-- Completions of turnstile n while the updates in the queue act on it: each takes DONE from 0 to 1 (R281). -/
def tsEdges (n : Nat) (seen : Ts) (q : List TsRecent) : Nat :=
  ((q.filter fun u => decide (u.number = n)).foldl (fun (p : Ts × Nat) u =>
    let y := p.1.apply u.op u.poison
    (y, if y.done && (!p.1.done || u.op.isReset) then p.2 + 1 else p.2)) (seen, 0)).2

/-- Updates visible at cycle a move from the queue into what samples see. -/
def Tile.flushTs (x : Tile) (a : Nat) : Tile :=
  let vis := x.tsQ.filter fun u => decide (u.visible ≤ a)
  { x with
    tsQ := x.tsQ.filter fun u => decide (a < u.visible)
    tsSeen := vis.foldl (fun m u => mmod Ts.zero m u.number fun y => y.apply u.op u.poison) x.tsSeen }

/-- An output map entry (R480), as its 16 bytes lie in 0x2940 and 0x2941. -/
structure OutMap where
  segment : Nat
  offset : Nat
  length : Nat
  row : Nat
  tile : Handle
  ready : Nat
  doneTs : Nat
  doneValue : Nat
  deriving DecidableEq, Repr

/-- Object that holds output map entry n, from 0. -/
def outMapKey (n : Nat) : Nat := if n < 128 then 0x294000 + n + 1 else 0x294100 + (n - 128) + 1

def OutMap.parse (b : List Byte) : OutMap :=
  ⟨fieldAt b 0 1, fieldAt b 2 2, fieldAt b 4 2, fieldAt b 6 2, BitVec.ofNat 32 (fieldAt b 8 4), fieldAt b 12 1,
    fieldAt b 13 1, fieldAt b 14 2⟩

/-- Output map entries that a tile's turnstile makes ready. -/
def State.outputsReady (s : State) (t : TileId) (n : Nat) : List Nat :=
  (List.range 256).filter fun k =>
    let b := s.octets (outMapKey k)
    !b.isEmpty && decide (fieldAt b 4 2 ≠ 0) && decide ((OutMap.parse b).tile = tileHandle t) &&
      decide ((OutMap.parse b).ready = n)

/-- The first of the entries of a list that equals x leaves it, for each x. -/
def eraseEach {α : Type} [DecidableEq α] (xs ys : List α) : List α := xs.foldl (fun m x => m.erase x) ys

/-- An update of a turnstile of tile t that is applied now and visible to samples at absolute cycle `vis`. Each completion
makes the output map entries that wait for this turnstile due once (R281, R480): where a reset of the same cycle, which acts
first (R195), undoes a completion, its entries are no longer due. -/
def State.tileUpdate (s : State) (t : TileId) (n : Byte) (op : TsOp) (poison : Bool) (vis : Nat) : State :=
  if !s.tileIn t || decide (64 ≤ n.toNat) then s else
  let x := s.tile t
  let old := mget Ts.zero x.turnstiles n.toNat
  let seen := mget Ts.zero x.tsSeen n.toNat
  let q := insertTs ⟨vis, n.toNat, op, poison⟩ x.tsQ
  let before := tsEdges n.toNat seen x.tsQ
  let after := tsEdges n.toNat seen q
  let s1 := s.setTile t { x with tsQ := q, turnstiles := mset Ts.zero x.turnstiles n.toNat (foldTs n.toNat seen q) }
  let s2 := if old.saturates op then s1.raise 0x5040 (tileHandle t) (eventParam 0 n.toNat) 0xFFFF else s1
  let ready := (s2.outputsReady t n.toNat).map fun k => (k, s2.frame.deadlinePassed)
  if before < after then { s2 with ecat := { s2.ecat with due := s2.ecat.due ++ ready } }
  else if after < before then { s2 with ecat := { s2.ecat with due := eraseEach ready s2.ecat.due } }
  else s2

/-- A trigger of list n joins those that wait to be taken. -/
def insertTrigger (c : Nat) : List (Nat × Fin 16) → Fin 16 → List (Nat × Fin 16)
  | [], n => [(c, n)]
  | x :: xs, n => if c < x.1 ∨ (c = x.1 ∧ n < x.2) then (c, n) :: x :: xs else x :: insertTrigger c xs n

/-- The effects of a global turnstile's completion: latched image contexts (R318), triggered HD lists (R349), a waiting
WAITG, the spill (R276) and the flip point (R155, R291). `spillTs` comes from the gather map header. -/
def State.globalEdge (s : State) (n : Nat) : State :=
  let ctx := (List.range 16).foldl (fun m k =>
    let c := mget ImgContext.init m k
    if c.settings.enable ∧ c.settings.takeTs.toNat = n then
      if c.latched.isSome then mset ImgContext.init m k { c with relatch := true }
      else mset ImgContext.init m k { c with
        latched := some c.newest, entry := 0, taken := true, supersededAtTake := c.superseded, superseded := 0 }
    else m) s.ingress.contexts
  let relatched := (List.range 16).filter fun k =>
    let c := mget ImgContext.init s.ingress.contexts k
    c.settings.enable && decide (c.settings.takeTs.toNat = n) && c.latched.isSome
  let pid := match s.prog.running with
    | some c => c.programmeId
    | none => 0
  let fired := ((List.range 16).map (Fin.ofNat 16)).filter fun k =>
    let l := mget HdList.zero s.hd.lists k.val
    l.enabled && decide (l.trigger.toNat = n) && s.prog.running.isSome && decide (l.programme = pid)
  let waiting := match s.hd.waiting with
    | some (o, m) => if m.toNat = n then none else some (o, m)
    | none => none
  let map := s.prog.gatherMap
  let spillTs := (mget 0 s.hub.cells (0x800000 + map + 2)).toNat
  let layers := (mget 0 s.hub.cells (0x800000 + map)).toNat
  let flips := match s.prog.running with
    | some c => decide (c.flipTs.toNat = n) && !(mget Ts.zero s.globals.ts n).pois
    | none => false
  let s1 := { s with
    frame := { s.frame with flipPoint := s.frame.flipPoint || flips }
    ingress := { s.ingress with contexts := ctx }
    hd := { s.hd with triggered := fired.foldl (insertTrigger s.now) s.hd.triggered, waiting := waiting }
    kv := { s.kv with spillDue := s.kv.spillDue || (decide (layers ≠ 0) && decide (spillTs = n)) } }
  relatched.foldl (fun s k => s.deviceEvent 0x4042 k) s1

/-- A state change of a global turnstile goes to the shadow of every die, 30 cc later (R287). -/
def State.broadcast (s : State) (n : Nat) (x : Ts) : State :=
  forAll allDies (fun s d => s.modDie d fun y => { y with shadowQ := y.shadowQ ++ [(s.now + 30, n, x)] }) s

/-- The hub applies one update to a global turnstile in the present cycle. -/
def State.globalUpdate (s : State) (n : Byte) (op : TsOp) (poison : Bool) : State :=
  let old := mget Ts.zero s.globals.ts n.toNat
  let new := old.apply op poison
  let s1 := { s with globals := { s.globals with ts := mset Ts.zero s.globals.ts n.toNat new } }
  let s2 := if new = old then s1 else s1.broadcast n.toNat new
  let s3 := if old.saturates op then s2.raise 0x5040 deviceHandle (eventParam 0 n.toNat) 0xFFFF else s2
  if new.done && !old.done then s3.globalEdge n.toNat else s3

/-- A tile sends an update to a global turnstile: it acts at the hub 30 cc later (R182). -/
def State.sendGlobal (s : State) (t : TileId) (n : Byte) (op : TsOp) (poison : Bool) : State :=
  { s with fabric := { s.fabric with globals := s.fabric.globals ++ [⟨s.tileNow t + 30, n, op, poison, t⟩] } }

/-- A done add that is applied `wait` cc from now (R285, R286). -/
def State.doneAdd (s : State) (src : TileId) (d : DoneTo) (poison : Bool) (wait : Nat) : State :=
  match d with
  | .tile t n v => s.tileUpdate t n (.add v) poison (s.tileNow t + wait + 2)
  | .tiles h n v => forAll (s.handleTiles h) (fun s t => s.tileUpdate t n (.add v) poison (s.tileNow t + wait + 2)) s
  | .global n v =>
    { s with fabric := { s.fabric with globals := s.fabric.globals ++ [⟨s.tileNow src + wait + 30, n, .add v, poison, src⟩] } }
  | .none => s

/-- A done add that arrives now (R286). -/
def State.applyDone (s : State) (src : TileId) (d : DoneTo) (poison : Bool) : State := s.doneAdd src d poison 0

/-- The done add of a transfer whose last row is written now: it is applied in the next cycle (R286). -/
def State.landDone (s : State) (src : TileId) (d : DoneTo) (poison : Bool) : State := s.doneAdd src d poison 1

/-- A done add of a hub agent: a global turnstile takes it in its own cycle (R286). -/
def State.applyHubDone (s : State) (d : DoneTo) (poison : Bool) : State :=
  match d with
  | .global n v => s.globalUpdate n (.add v) poison
  | d => s.applyDone 0 d poison

/-- The same for rows of a hub agent that are written now. -/
def State.landHubDone (s : State) (d : DoneTo) (poison : Bool) : State :=
  match d with
  | .global n v => s.globalUpdate n (.add v) poison
  | d => s.landDone 0 d poison

/-! ### Rows and the ticket booth (R254 to R259) -/

/-- Poison of the four words of a beat (R248, R544). -/
def Row.taintBeat (r : Row) (beat : Nat) (words : Nat) : Row :=
  { r with poison := r.poison ||| BitVec.ofNat 32 (words % 16 * 2 ^ (4 * (beat % 8))) }

def Tile.row (x : Tile) (n : Nat) : Row := mget Row.zero x.rows n
def Tile.setRow (x : Tile) (n : Nat) (r : Row) : Tile := { x with rows := mset Row.zero x.rows n r }
def Tile.vreg (x : Tile) (r : Fin 32) : VReg := mget VReg.zero x.vregs r.val
def Tile.setVreg (x : Tile) (r : Fin 32) (v : VReg) : Tile := { x with vregs := mset VReg.zero x.vregs r.val v }
def Tile.boothOf (x : Tile) (n : Nat) : Booth := mget Booth.closed x.booth n
def Tile.stat (x : Tile) (r : Nat) : Stat := mget Stat.reset x.stats r
def Tile.latch (x : Tile) (n : Nat) : Latch := mget Latch.zero x.latches n

/-- A row that the tile writes itself takes its frame poison (R193). -/
def Tile.taint (x : Tile) (r : Row) : Row := if x.framePoison then r.allPoison else r

/-- A write through the tile's narrow port (R250, R251). While the sequencer issues, it takes effect at the end of the present
cycle, or of the first later one in which the wide port does not access its row; no wide access meets it otherwise. -/
def State.narrowWrite (s : State) (t : TileId) (n : Nat) (r : Row) : State :=
  s.modTile t fun x => if x.running && !s.frozen t then { x with narrowQ := x.narrowQ ++ [(n, r)] } else x.setRow n r

/-- The narrow writes of the cycle that ends: a row that the wide port accessed in it is written in the next cycle (R251). -/
def Tile.narrowCycle (x : Tile) : Tile :=
  let now := x.narrowQ.filter fun q => !x.wideRows.contains q.1
  let y := now.foldl (fun y q => y.setRow q.1 q.2) x
  { y with narrowQ := x.narrowQ.filter fun q => x.wideRows.contains q.1, wideRows := [] }

/-- Every narrow write that waits takes effect: the tile's wide port is idle or frozen. -/
def Tile.settleNarrow (x : Tile) : Tile :=
  let y := x.narrowQ.foldl (fun y q => y.setRow q.1 q.2) x
  { y with narrowQ := [], wideRows := [] }

/-- A row as a read through the narrow or wide port delivers it: the words that SECDED cannot correct are poisoned, stay so in
the scratchpad, and raise 0x3010 (R192). -/
def State.readRow (s : State) (t : TileId) (row : Nat) (upset : BitVec 32) : State × Row :=
  if upset = 0 then (s, (s.tile t).row row)
  else
    let r := (s.tile t).row row
    let r' : Row := { r with poison := r.poison ||| upset }
    ((s.modTile t fun x => x.setRow row r').event 0x3010 (tileHandle t), r')

/-- The words named for row k of a transfer. -/
def upsetOf (u : List (Nat × BitVec 32)) (k : Nat) : BitVec 32 :=
  (u.filter fun p => decide (p.1 = k)).foldl (fun m p => m ||| p.2) 0

def setBooth (m : SMap Booth) (first count : Nat) (f : Booth → Booth) : SMap Booth :=
  (List.range count).foldl (fun m k => mmod Booth.closed m (first + k) f) m

/-- A TICKET to the issuing tile opens closed rows (R256). -/
def openRow : Booth → Booth
  | .closed => .opened
  | b => b

/-- The rows lie in the working region of the placement (R258). -/
def Regions.works (r : Regions) (first count : Nat) : Bool :=
  decide (r.workFirst ≤ first) && decide (first + count ≤ r.workFirst + r.workRows)

/-- A remote write by `writer` (R259): it writes a row it holds and closes it; otherwise it is discarded with event 0x5030.
The Boolean says whether it was written. -/
def State.remoteWrite (s : State) (t : TileId) (writer : Nat) (row : Nat) (r : Row) : State × Bool :=
  let x := s.tile t
  if x.boothOf row = .held writer then
    ((s.setTile t { x with booth := mset Booth.closed x.booth row .closed }).narrowWrite t row r, true)
  else (s.event 0x5030 (tileHandle t), false)

/-- Remote writes of several rows in order; true when every row was written. -/
def State.remoteWrites (s : State) (t : TileId) (writer first : Nat) : List Row → State × Bool
  | [] => (s, true)
  | r :: rs =>
    let (s1, ok) := s.remoteWrite t writer first r
    let (s2, oks) := s1.remoteWrites t writer (first + 1) rs
    (s2, ok && oks)

/-! ### Byte memories -/

def ByteMem.get (m : ByteMem) (a : Nat) : Byte := mget 0 m.cells a
def ByteMem.read (m : ByteMem) (a n : Nat) : List Byte := mgetMany 0 m.cells a n
/-- Poison of the 64-bit word that holds byte a. -/
def ByteMem.poisoned (m : ByteMem) (a : Nat) : Bool := mget false m.poison (a / 8)
def ByteMem.anyPoison (m : ByteMem) (a n : Nat) : Bool := (List.range n).any fun k => m.poisoned (a + k)

/-- Write bytes without poison; a word that is written whole or in part by unpoisoned data is clean when all of its bytes
are written, and keeps its poison otherwise. -/
def ByteMem.write (m : ByteMem) (a : Nat) (bs : List Byte) : ByteMem :=
  let w0 := (a + 7) / 8
  let w1 := (a + bs.length) / 8
  { cells := msetMany 0 m.cells a bs
    poison := (List.range (w1 - w0)).foldl (fun p k => mset false p (w0 + k) false) m.poison }

/-- Set the poison of the word at byte a. -/
def ByteMem.setPoison (m : ByteMem) (a : Nat) (b : Bool) : ByteMem := { m with poison := mset false m.poison (a / 8) b }

/-- Poison the words that n bytes from a touch. -/
def ByteMem.taint (m : ByteMem) (a n : Nat) : ByteMem :=
  (List.range n).foldl (fun m k => m.setPoison (a + k) true) m

/-- Write a row of 256 bytes at a multiple of 8: one memory word per row word, with its poison. -/
def ByteMem.writeRow (m : ByteMem) (a : Nat) (r : Row) : ByteMem :=
  let m1 := m.write a r.bytes
  (List.range 32).foldl (fun m w => m.setPoison (a + 8 * w) (r.poison.getLsbD w)) m1

/-- Read a row at a multiple of 8. -/
def ByteMem.readRow (m : ByteMem) (a : Nat) : Row :=
  Row.ofBytes (m.read a 256)
    (BitVec.ofNat 32 (packNat 1 ((List.range 32).map fun w => if m.poisoned (a + 8 * w) then 1 else 0)))

/-! ### Zero-run compression (R270, R271) -/

/-- Word w of a row. -/
def Row.word (r : Row) (w : Nat) : Nat := elemAt 64 r.data.toNat w

/-- A word is carried when it is non-zero or poisoned. -/
def Row.carried (r : Row) (w : Nat) : Bool := decide (r.word w ≠ 0) || r.poison.getLsbD w

def Row.carriedWords (r : Row) : List Nat := (List.range 32).filter r.carried

/-- Compressed bytes of a row, and of each byte whether it belongs to a poisoned carried word. -/
def Row.compress (r : Row) : List (Byte × Bool) :=
  let hdr := packNat 1 ((List.range 32).map fun w => if r.carried w then 1 else 0)
  (leBytes 4 hdr).map (fun b => (b, false)) ++
    r.carriedWords.flatMap fun w => (leBytes 8 (r.word w)).map fun b => (b, r.poison.getLsbD w)

def padTo8 (bs : List (Byte × Bool)) : List (Byte × Bool) :=
  bs ++ List.replicate ((8 - bs.length % 8) % 8) (0, false)

/-- The compressed stream of several rows, padded to a multiple of 8 bytes. -/
def compressRows (rs : List Row) : List (Byte × Bool) := padTo8 (rs.flatMap Row.compress)

/-- Write a compressed stream at a multiple of 8: a word is poisoned when it holds a byte of a poisoned carried word. -/
def ByteMem.writeStream (m : ByteMem) (a : Nat) (bs : List (Byte × Bool)) : ByteMem :=
  let m1 := m.write a (bs.map Prod.fst)
  (List.range (bs.length / 8)).foldl (fun m w =>
    m.setPoison (a + 8 * w) (((bs.drop (8 * w)).take 8).any Prod.snd)) m1

/-- Rows rebuilt from a compressed stream at byte a; `bad` once a row header lay in a poisoned word. -/
def ByteMem.readStream (m : ByteMem) : Nat → Bool → Nat → List Row
  | _, _, 0 => []
  | a, bad, n + 1 =>
    let bad' := bad || m.anyPoison a 4
    let hdr := leNat (m.read a 4)
    let ws := (List.range 32).filter fun w => hdr / 2 ^ w % 2 = 1
    let posOf : Nat → Nat := fun w => a + 4 + 8 * (ws.filter fun v => decide (v < w)).length
    let data := packNat 64 ((List.range 32).map fun w => if ws.contains w then leNat (m.read (posOf w) 8) else 0)
    let pois := packNat 1 ((List.range 32).map fun w =>
      if bad' || (ws.contains w && m.anyPoison (posOf w) 8) then 1 else 0)
    ⟨BitVec.ofNat 2048 data, BitVec.ofNat 32 pois⟩ :: m.readStream (a + 4 + 8 * ws.length) bad' n

/-! ### Poison of a compressed stream on Goine (R270) -/

/-- A row of a compressed stream as its stream words deliver it. `half`: its header starts in the second half of a stream word,
which it shares with the last carried word of the row before; `prev`: that word was poisoned. `words` names further poisoned
stream words, counted from the one that holds the header. The Boolean says that the header lay in a poisoned stream word. -/
def Row.streamed (r : Row) (half prev : Bool) (words : Nat → Bool) : Row × Bool :=
  let ws := r.carriedWords
  let own : Nat → Bool := fun i => (ws[i]?).any fun w => r.poison.getLsbD w
  -- poison of stream word j
  let bad : Nat → Bool := fun j => words j ||
    (if half then (if j = 0 then prev else own (j - 1)) else own j || (decide (0 < j) && own (j - 1)))
  let hit : Nat → Bool := fun i => if half then bad (i + 1) else bad i || bad (i + 1)
  let lost := bad 0
  ({ r with poison := BitVec.ofNat 32 (packNat 1 ((List.range 32).map fun w =>
      if lost || (ws.contains w && hit (ws.idxOf w)) then 1 else 0)) }, lost)

/-- The last carried word of a row is poisoned. -/
def Row.lastPoison (r : Row) : Bool := r.carriedWords.getLast?.any fun w => r.poison.getLsbD w

/-- Bytes of a compressed row (R271). -/
def Row.streamBytes (r : Row) : Nat := 4 + 8 * r.carriedWords.length

/-- Address of row k of a compressed stream at byte a. -/
def ByteMem.streamAt (m : ByteMem) : Nat → Nat → Nat
  | a, 0 => a
  | a, k + 1 => m.streamAt (a + 4 + 8 * ((List.range 32).filter fun w => leNat (m.read a 4) / 2 ^ w % 2 = 1).length) k

/-- Areas of the hub buffer (spec/09). -/
def routineArea : Nat := 0x800000
def hubSize : Nat := 0x2000000

end Sys2Proof.Machine
end

