-- ==== Sys2Proof/Machine/Phases.lean ====
section
/-!
DEFINITION. The estimator's model and the phase table (spec/14): load bands, coefficients, the power of a channel, the folding of
a phase occurrence, and the issue limit of a phase.
-/
namespace Sys2Proof.Machine

/-! ### Load bands (R117, R391) -/

/-- The engine evaluates in the slot that starts at c. -/
def Engine.issue (g : Engine) (c : Nat) : Engine :=
  if g.lastIssue = c + 1 then g else { g with priorIssue := g.lastIssue, lastIssue := c + 1 }

/-- One more than the start of the last slot before c in which the engine evaluated; 0 for none. -/
def Engine.issuedBefore (g : Engine) (c : Nat) : Nat := if g.lastIssue = c + 1 then g.priorIssue else g.lastIssue

/-- Engines of a die that issued in the 64 slots before the present one. -/
def State.issuing (s : State) (d : DieId) : Nat :=
  let c := (s.die d).clock
  ((dieEngines d).filter fun e =>
    let l := (s.engine e).issuedBefore c
    decide (l ≠ 0) && decide (l - 1 < c) && decide (c ≤ l - 1 + 256)).length

/-- Band of n issuing engines among m. -/
def bandOf (n m : Nat) : Nat := if 4 * n < m then 0 else if 2 * n < m then 1 else if 4 * n < 3 * m then 2 else 3

def State.loadBand (s : State) (d : DieId) : Nat := bandOf (s.issuing d) 256

/-- Band of a channel: a weight die's own; hub and memory take the mean share of the dies in service. -/
def State.chanBand (s : State) (ch : Nat) : Nat :=
  if 1 ≤ ch ∧ ch ≤ 16 then s.loadBand (Fin.ofNat 16 (ch - 1))
  else bandOf ((s.diesIn.map s.issuing).foldl (· + ·) 0) (256 * s.diesIn.length)

/-! ### Coefficients (R391, R393) -/

/-- Distance of two bands; the higher band counts as nearer on a tie. -/
def bandDistance (a b : Nat) : Nat := 2 * (max a b - min a b) + (if a < b then 0 else 1)

/-- The nearest fitted band to b, if the channel has one. -/
def Chan.nearestFitted (c : Chan) (b : Nat) : Option Nat :=
  (List.range 4).foldl (fun m k =>
    if !c.fitted.contains k then m
    else match m with
      | none => some k
      | some q => if bandDistance b k < bandDistance b q then some k else some q) none

/-- The coefficients learned for a band, from the factory values on. -/
def Chan.learned (c : Chan) (ch b : Nat) : List Rat :=
  match mget [] c.coeff b with
  | [] => (List.range 15).map (Config.factoryCoeff ch)
  | xs => xs

def Chan.leakage (c : Chan) (ch : Nat) : Rat := c.leak.getD (Config.factoryLeak ch)

/-- Coefficients that estimate a band and the factor on the estimate (R393). -/
def Chan.coefficients (c : Chan) (ch b : Nat) : List Rat × Rat :=
  if c.fitted.contains b then (c.learned ch b, 1)
  else match c.nearestFitted b with
    | some k => (c.learned ch k, 11 / 10)
    | none => ((List.range 15).map (Config.factoryCoeff ch), 11 / 10)

def sumRat (xs : List Rat) : Rat := xs.foldl (· + ·) 0

/-- Power in mW of activity counts of one 1 µs interval in a band, with the factor of R393. -/
def Chan.power (c : Chan) (ch b : Nat) (counts : List Nat) : Rat :=
  let q := c.coefficients ch b
  (sumRat ((List.range 15).map fun k => q.1.getD k 0 * (counts.getD k 0 : Nat)) + c.leakage ch * Config.leakFactor c.tj) * q.2

def State.channel (s : State) (ch : Nat) : Chan := mget Chan.init s.pwr.chans ch

/-- I_d: the estimate of a channel with every activity count at zero (R399). -/
def State.idlePower (s : State) (ch : Nat) : Rat :=
  let c := s.channel ch
  c.power ch (s.chanBand ch) [] * c.factor

/-- The estimate of a weight die with every engine issuing in every slot at band 3 (R400, R408): 256 engines, 256 strings, 200
slots per µs. -/
def State.fullPower (s : State) (d : DieId) : Rat :=
  let ch := d.val + 1
  let c := s.channel ch
  c.power ch 3 [13107200] * c.factor

/-! ### The phase table (R398, R399) -/

def State.phase (s : State) (p : Nat) : Phase := mget Phase.zero s.pwr.phases p
def State.setPhase (s : State) (p : Nat) (x : Phase) : State :=
  { s with pwr := { s.pwr with phases := mset Phase.zero s.pwr.phases p x } }

/-- A power in mW as 1/256 W, to nearest, in 16 bits. -/
def watts256 (x : Rat) : Nat := min 65535 ((x * 256 / 1000 + 1 / 2).floor.toNat)
/-- And back. -/
def milliOf (n : Nat) : Rat := (n : Rat) * 1000 / 256

/-- Folding with a weight of 1/8, to nearest. -/
def foldEighth (old obs : Nat) : Nat := (7 * old + obs + 4) / 8

/-- The full-issue equivalent of an observed power. -/
def fullIssue (idle obs : Rat) (all free : Nat) : Rat := idle + (obs - idle) * (all : Rat) / (free : Rat)

/-- A HINT opens an occurrence on its tile. -/
def State.openOcc (s : State) (t : TileId) : State :=
  let x := s.die (tileDie t)
  let o := { Occ.zero with all0 := x.slotsAll, free0 := x.slotsFree, band := s.loadBand (tileDie t) }
  { s with pwr := { s.pwr with occ := mset Occ.zero s.pwr.occ t.val o } }

/-- Observed powers of an occurrence's channels: those of its 1 µs intervals, or the present estimates when it saw none. -/
def State.observed (s : State) (o : Occ) (ch : Nat) : Rat × Rat :=
  if o.ticks = 0 then ((s.channel ch).estimate, (s.channel ch).estimate)
  else (o.sums.getD ch 0 / (o.ticks : Rat), o.peaks.getD ch 0)

/-- The phase of a tile ends at its next HINT or FEND: the occurrence is folded into its entry unless that is frozen. An
occurrence without a slot that was neither hold nor wait slot leaves the powers as they are. -/
def State.endHint (s : State) (t : TileId) : State :=
  let x := s.tile t
  let d := s.die (tileDie t)
  let o := mget Occ.zero s.pwr.occ t.val
  let s1 := { s with pwr := { s.pwr with occ := mset Occ.zero s.pwr.occ t.val Occ.zero } }
  match x.hintPhase with
  | none => s1
  | some p =>
    let e := s.phase p.toNat
    if e.frozen then s1 else
    let all := d.slotsAll - o.all0
    let free := d.slotsFree - o.free0
    let chans := List.range 18
    let full : Nat → Rat → Nat := fun ch obs => watts256 (fullIssue (s.idlePower ch) obs all free)
    let mean := chans.map fun ch =>
      if free = 0 then e.mean.getD ch 0 else foldEighth (e.mean.getD ch 0) (full ch (s.observed o ch).1)
    let peak := chans.map fun ch =>
      let k := if free = 0 then e.peak.getD ch 0 else foldEighth (e.peak.getD ch 0) (full ch (s.observed o ch).2)
      max k (mean.getD ch 0)
    let seen := min 255 (e.seen + 1)
    s1.setPhase p.toNat { e with
      valid := true, learned := e.learned || decide (8 ≤ seen), seen := seen, band := max e.band o.band
      start := if e.host then 0xFFFFFFFF else x.hintStart, length := x.pcyc - x.hintStart, mean := mean, peak := peak }

/-! ### The limit of a phase (R400 to R402) -/

/-- Phases active on the tiles of a die. -/
def State.activePhases (s : State) (d : DieId) : List Nat :=
  ((dieTiles d).filterMap fun t => (s.tile t).hintPhase.map BitVec.toNat).eraseDups

/-- Phases of the running programme due on a die within 50 µs, by the programme cycle at which they last began. -/
def State.duePhases (s : State) (d : DieId) : List Nat :=
  match (dieTiles d).find? fun t => (s.tile t).running with
  | none => []
  | some t =>
    let now := (s.tile t).pcyc
    (s.pwr.phases.filter fun p => p.2.valid && !p.2.host && decide (now < p.2.start) && decide (p.2.start ≤ now + 40000)).map
      Prod.fst

/-- Host phases under way. -/
def State.hostPhases (s : State) : List Nat :=
  let now := s.nowNs
  (s.pwr.hints.filter fun h => decide (h.2.1 ≤ now) && decide (now < h.2.1 + 1000 * h.2.2)).map Prod.fst

/-- M_d of a phase: an entry that is not learned counts as full issue at band 3. -/
def State.phaseMean (s : State) (d : DieId) (p : Nat) : Rat :=
  let e := s.phase p
  if e.learned then milliOf (e.mean.getD (d.val + 1) 0) else s.fullPower d

def maxRat (xs : List Rat) : Rat := xs.foldl (fun m x => if m < x then x else m) 0

/-- P_0 or P_17 of R401, with the phase that is computed among those due. -/
def State.sharedPower (s : State) (ch p : Nat) : Rat :=
  let ps := (p :: s.diesIn.flatMap fun d => s.activePhases d ++ s.duePhases d).eraseDups
  maxRat (ps.map fun p => milliOf ((s.phase p).mean.getD ch 0)) +
    sumRat (s.hostPhases.map fun p => milliOf ((s.phase p).mean.getD ch 0))

/-- M of a die in the sum of R401: its own phase active or due, or the phase that is computed where it has none. -/
def State.dieMean (s : State) (d : DieId) (p : Nat) : Rat :=
  match s.activePhases d ++ s.duePhases d with
  | [] => s.phaseMean d p
  | ps => maxRat (ps.map (s.phaseMean d))

/-- The limit of a phase on die d, and whether some N qualified. -/
def State.phaseLimit (s : State) (d : DieId) (p : Nat) : Nat × Bool :=
  let b := s.pwr.target - s.sharedPower 0 p - s.sharedPower 17 p
  let m := s.phaseMean d p
  let total := sumRat (s.diesIn.map fun e => if e = d then m else s.dieMean e p)
  let share := b * m / total
  let idle := s.idlePower (d.val + 1)
  let floor := s.setting 0x210004
  let fits : Nat → Bool := fun n => decide (idle + (m - idle) * (n : Rat) / 16 ≤ share)
  match ((List.range 17).reverse.filter fun n => decide (floor ≤ n)).find? fits with
  | some n => (n, true)
  | none => (floor, false)

/-- Limit that applies to a phase as it starts: the one computed for it, else that of its last occurrence, else the limit for
band 3 (R402). -/
def State.limitFor (s : State) (d : DieId) (p : Nat) : Nat :=
  match mget 0 (s.die d).limits p with
  | n + 1 => n + 1
  | 0 => if (s.phase p).limit ≠ 0 then (s.phase p).limit else (s.phaseLimit d p).1

/-- N_ft,d: the lowest limit among the active phases, from the next slot index that is a multiple of 16 on. -/
def State.applyFt (s : State) (d : DieId) : State :=
  let ps := s.activePhases d
  let n := (ps.map (s.limitFor d)).foldl min 16
  let s1 := ps.foldl (fun s p => s.setPhase p { s.phase p with limit := s.limitFor d p }) s
  s1.modDie d fun x => { x with nextFt := some n }

end Sys2Proof.Machine
end

