-- ==== Sys2Proof/WellFormed.lean ====
section
/-!
DEFINITION. Well-formed commands: the operand ranges that spec/ gives the routine words (R215 to R239, R283), the HD and
recall commands (R325, R341, R348) and the service commands. A routine container with a word that breaks them is refused at
load, so a tile never issues one (R215).
-/
namespace Sys2Proof

/-- TSN is 0 to 63 outside the global scope (spec/08, SYN field). -/
def SynScope.tsOk (sc : SynScope) (n : Byte) : Bool :=
  match sc with
  | .global => true
  | _ => decide (n.toNat < 64)

/-- FMA takes every format but INT8 (R235). -/
def VFmt.fmaOk (f : VFmt) : Bool := decide (f ≠ .int8)
/-- Formats of the bitwise and shift operations, and of WADD. -/
def VFmt.intOk (f : VFmt) : Bool := Machine.VFmt.isInt f
/-- Formats of QNT and the special functions. -/
def VFmt.fpOk (f : VFmt) : Bool := !Machine.VFmt.isInt f
/-- Formats of MACW, with its parts (R236). -/
def VFmt.macwOk (f : VFmt) (part : Fin 4) : Bool :=
  decide (f = .int8) || (decide (f = .int16) && decide (part.val < 2))
/-- Parts of CVT lie below the ratio of the element counts (R236). -/
def VFmt.cvtOk (src dst : VFmt) (part : Fin 4) : Bool :=
  let a := Machine.VFmt.count src
  let b := Machine.VFmt.count dst
  decide (part.val < max a b / min a b)

/-- PW, SENSE and FORM of an EVAL (R225). -/
def evalOk (pw : Fin 4) (matchSense bipolar : Bool) : Bool :=
  (matchSense == decide (pw.val = 0)) && (matchSense || !bipolar)

/-- ADDR of an ENG ADD (R228). -/
def engAddOk (toRows : Bool) (addr : BitVec 13) : Bool :=
  if toRows then decide (addr.toNat + 3 < 8192) else decide (addr.toNat < 32) && decide (addr.toNat % 4 = 0)

/-- Registers that an origin may name: lists own h0 to h23 and b0 to b2, the host h24 to h31 and b3 (R325). -/
def HdOrigin.regOk (o : HdOrigin) (r : Fin 32) : Bool :=
  match o with
  | .list _ => decide (r.val < 24)
  | .host => decide (24 ≤ r.val)
def HdOrigin.accOk (o : HdOrigin) (a : Fin 4) : Bool :=
  match o with
  | .list _ => decide (a.val < 3)
  | .host => decide (a.val = 3)
/-- Cursors 0 to 11 belong to lists, 12 to 15 to the host (R365). -/
def HdOrigin.cursorOk (o : HdOrigin) (c : Fin 16) : Bool :=
  match o with
  | .list _ => decide (c.val < 12)
  | .host => decide (12 ≤ c.val)

/-- Bits of an HD width. -/
def HdWidth.bits : HdWidth → Nat
  | .w2048 => 2048
  | .w4096 => 4096
  | .w8192 => 8192

/-- The operand ranges of a command. Commands not named take every value of their operand types. -/
def Instr.wf : Instr → Bool
  | .loop _ _ _ trips => decide (trips ≠ 0)
  | .arrive _ _ sc n => sc.tsOk n
  | .synAdd _ _ sc n v => sc.tsOk n && decide (v ≠ 0)
  | .wait _ _ sc n _ _ => sc.tsOk n
  | .reset _ _ sc n _ => sc.tsOk n
  | .poison _ _ sc n => sc.tsOk n
  | .fill _ _ row _ _ c => decide (row.toNat + c.toNat < 8192)
  | .memCopy _ _ row _ dst c _ => decide (row.toNat + c.toNat < 8192) && decide (dst.toNat + c.toNat < 8192)
  | .eval _ _ _ _ pw m _ b _ _ => evalOk pw m b
  | .engAdd _ _ _ r a _ => engAddOk r a
  | .fma _ _ f _ _ _ _ => f.fmaOk
  | .wadd _ _ f _ _ _ => f.intOk
  | .and _ _ f _ _ _ => f.intOk
  | .or _ _ f _ _ _ => f.intOk
  | .xor _ _ f _ _ _ => f.intOk
  | .shl _ _ f _ _ _ => f.intOk
  | .shra _ _ f _ _ _ => f.intOk
  | .cvt _ _ f _ _ d p => f.cvtOk d p
  | .qnt _ _ f _ _ _ _ _ _ _ _ => f.fpOk
  | .macw _ _ f _ _ _ p => f.macwOk p
  | .rcp _ _ f _ _ => f.fpOk
  | .rsqrt _ _ f _ _ => f.fpOk
  | .exp _ _ f _ _ => f.fpOk
  | .bcast _ _ f _ _ imm => decide (imm.toNat < Machine.VFmt.count f)
  | .gen o _ d id _ => o.regOk d && decide (id ≠ 0xFFFFFFFF)
  | .bind o _ d a b => o.regOk d && o.regOk a && o.regOk b
  | .not o _ d a => o.regOk d && o.regOk a
  | .hdCopy o _ d a => o.regOk d && o.regOk a
  | .hdRot o w d a k => o.regOk d && o.regOk a && decide (k.toNat < w.bits)
  | .car o _ d a _ _ => o.regOk d && o.regOk a
  | .bclr o acc => o.accOk acc
  | .badd o _ acc a weight _ => o.accOk acc && o.regOk a && decide (weight ≠ 0)
  | .baddx o _ acc a b weight _ => o.accOk acc && o.regOk a && o.regOk b && decide (weight ≠ 0)
  | .bthr o _ d acc => o.regOk d && o.accOk acc
  | .level o _ d _ _ => o.regOk d
  | .record o _ d acc _ => o.regOk d && o.accOk acc
  | .sign o _ d _ _ => o.regOk d
  | .loadv o _ d _ => o.regOk d
  | .storev o _ a _ => o.regOk a
  | .outv o _ a _ _ _ v => o.regOk a && decide (v ≠ 0)
  | .addg _ _ v => decide (v ≠ 0)
  | .seq o _ d a acc m _ bundle =>
    o.regOk d && o.regOk a && decide (a.val + m.val < 32) && o.regOk (Fin.ofNat 32 (a.val + m.val)) && (!bundle || o.accOk acc)
  | .srch o w a d mask c _ _ best lo hi _ =>
    o.regOk a && (!best || o.regOk d) && o.cursorOk c && decide (mask ≠ 0) && decide (lo.toNat ≤ hi.toNat) && decide (hi.toNat ≤ w.bits)
  | .cstep o c _ _ _ => o.cursorOk c
  | .cfree o c => o.cursorOk c
  | .ins o _ a _ _ => o.regOk a
  | .upd o _ a _ key _ _ => !key || o.regOk a
  | .dcoll o c _ _ lo hi _ => o.cursorOk c && decide (lo.toNat ≤ hi.toNat) && decide (hi.toNat ≤ 8192)
  | _ => true

end Sys2Proof
end

