-- ==== Sys2Proof/Machine/Seq.lean ====
section
/-!
DEFINITION. The tile sequencer (spec/08): issue of a word's fields, the end of a word's cycle, loops, variants, windows,
hints, frame end, and the landing of fixed-latency results.
-/
namespace Sys2Proof.Machine

/-! ### Issue -/

/-- How a field treats the predicate and an uncorrectable word: `data` fields are predicated (R222); `plain` fields are not;
`flow` fields follow the flow table past an uncorrectable word (R193). -/
inductive FieldClass | data | plain | flow
  deriving DecidableEq, Repr

/-- The tile's sequencer issues in this cycle: its routine runs, its group is neither held nor waiting, and the slot has a
cycle left. -/
def State.canIssue (s : State) (t : TileId) : Bool :=
  let x := s.tile t
  s.awake && x.running && decide (x.phase < 4) && !s.frozen t

/-- The predicate of the word holds (R222). -/
def Tile.predicate (x : Tile) (w : WordTag) : Bool :=
  !w.pen || ((x.latch w.platch.val).miss != w.pneg)

/-- The present word is uncorrectable, or was in an earlier pass of this frame. -/
def Tile.wordBad (x : Tile) (w : WordTag) : Bool := w.bad || x.badWords.contains x.pc

/-- Beats of rows 0 to k (R262). -/
def beats (compress : Bool) (rows : Nat) : Nat := if compress then (65 * rows + 7) / 8 else 8 * rows

/-- Path delay D of a MOVE (spec/09). -/
def moveDelay (src dst : TileId) : Nat :=
  let a := src.val / 16
  let b := dst.val / 16
  if a = b then 12 else if (a + 1) % 16 = b ∨ (b + 1) % 16 = a then 40 else 72

/-- A row that the wide port accesses in this cycle (R251). -/
def Tile.useWide (x : Tile) (n : Nat) : Tile := { x with wideRows := n :: x.wideRows }

/-- The row of a FILL that falls in this cycle (R252). -/
def Tile.fillCycle (x : Tile) : Tile :=
  match x.fillOp with
  | none => x
  | some f =>
    let x1 := (x.setRow (f.row + f.k) (x.taint f.pattern.toRow)).useWide (f.row + f.k)
    { x1 with fillOp := if f.k + 1 < f.count then some { f with k := f.k + 1 } else none }

/-- Row that a COPY reads in step k: ascending when DST ≤ ROW and descending otherwise (R252). -/
def CopyOp.step (c : CopyOp) : Nat := if c.dst ≤ c.src then c.k else c.count - 1 - c.k

/-- The rows of a COPY that are written in this cycle (R252). -/
def Tile.copyWrites (x : Tile) (c : CopyOp) : Tile :=
  let due := c.pipe.filter fun p => decide (p.1 ≤ x.pcyc)
  let rest := c.pipe.filter fun p => decide (x.pcyc < p.1)
  let x1 := due.foldl (fun y p => (y.setRow p.2.1 (y.taint p.2.2)).useWide p.2.1) x
  { x1 with copyOp := if c.k = c.count ∧ rest.isEmpty then none else some { c with pipe := rest } }

/-- The read and the write of a COPY that fall in this cycle: row k is read in cycle k and written 6 cc later (R252). A word
that SECDED cannot correct is copied poisoned (R192). -/
def State.copyCycle (s : State) (t : TileId) : State :=
  match (s.tile t).copyOp with
  | none => s
  | some c =>
    if c.k < c.count then
      let q := s.readRow t (c.src + c.step) (upsetOf c.upset c.step)
      q.1.modTile t fun x =>
        (x.useWide (c.src + c.step)).copyWrites { c with k := c.k + 1, pipe := c.pipe ++ [(x.pcyc + 6, c.dst + c.step, q.2)] }
    else s.modTile t fun x => x.copyWrites c

/-- A MOVE after the cycle in which its row k was read. -/
def MoveOp.read (m : MoveOp) (r : Row) : MoveOp :=
  { m with k := m.k + 1, sent := m.sent + (if m.compress then r.streamBytes else 0), tail := m.compress && r.lastPoison }

/-- The source read of a MOVE that falls in this cycle puts the row on the fabric: row k is read B(k − 1) cycles after the issue
and lands D + B(k) cycles after it (R262). -/
def State.moveCycle (s : State) (t : TileId) (id : Nat) : State :=
  match (s.tile t).moves.find? (fun m => decide (m.id = id)) with
  | none => s
  | some m =>
    if m.k < m.count ∧ m.age = beats m.compress m.k then
      let q := s.readRow t (m.row + m.k) (upsetOf m.upset m.k)
      let x := q.1.tile t
      let wait := moveDelay t m.target + beats m.compress (m.k + 1) - m.age
      let half := decide (m.sent % 8 = 4)
      let d := x.taint q.2
      let z := if m.compress then d.streamed half m.tail (fun _ => false) else (d, false)
      let r : FabricRow := {
        due := x.pcyc + wait, arrive := q.1.tileNow t + wait, src := t, op := m.id, dst := m.target, row := m.remote + m.k
        data := z.1, last := decide (m.k + 1 = m.count), late := false
        half := if m.compress then some half else none, lost := z.2, done := m.done }
      let s1 := q.1.setTile t { x with moves := x.moves.map fun y => if y.id = id then y.read d else y }
      { s1 with fabric := { s1.fabric with rows := s1.fabric.rows ++ [r] } }
    else s

/-- One cycle of the MOVEs of a tile; one whose last beat has left is done sending (R262, R263). -/
def State.moveTick (s : State) (t : TileId) : State :=
  ((s.tile t).moves.foldl (fun s m => s.moveCycle t m.id) s).modTile t fun x => { x with
    moves := (x.moves.map fun m => { m with age := m.age + 1 }).filter fun m => decide (m.age < beats m.compress m.count) }

/-- The word that follows: a jump of VAR or PEND, the loop-back of R217, or the next address. -/
def Tile.nextPc (x : Tile) : Tile :=
  match x.jump with
  | some a => { x with pc := a, jump := none }
  | none =>
    match x.loops with
    | l :: ls =>
      if x.pc = l.last then
        if l.done + 1 < l.trips then { x with pc := l.first, loops := { l with done := l.done + 1 } :: ls }
        else { x with pc := x.pc + 1, loops := ls }
      else { x with pc := x.pc + 1 }
    | [] => { x with pc := x.pc + 1 }

/-- Rows that WR and the beats of ENG ADDs write through the wide port in the present cycle: their landing is visible in the
next (R228, R231, R249). -/
def Tile.rowsNow (x : Tile) : List Nat :=
  x.landings.filterMap fun l => if l.due = x.pcyc + 1 then (match l.what with
    | .row n _ _ _ => some n
    | _ => none) else none

/-- FILL writes in every cycle that it lasts, COPY when a row of its pipe is due. -/
def Tile.memWritesNow (x : Tile) : Bool :=
  x.fillOp.isSome || (match x.copyOp with
    | some c => c.pipe.any fun p => decide (p.1 = x.pcyc)
    | none => false)

/-- Two scheduled wide writes in one cycle: the tile asks for a hold slot, and the results keep their cycles (R196, R249). -/
def State.wideClash (s : State) (t : TileId) : State :=
  (s.modTile t fun x => { x with holdDebt := max x.holdDebt 1 }).raise 0x5020 (tileHandle t)
    (eventParam 0 (s.tile t).pcyc) 0xFFFF

/-- More than one scheduled party writes through the wide port in the present cycle. -/
def Tile.clashes (x : Tile) : Bool := decide (1 < x.rowsNow.length + (if x.memWritesNow then 1 else 0))

/-- The sequencer after a word: the next address, and one cycle of programme time (R213). After FEND it issues nothing (R224). -/
def Tile.stepWord (x : Tile) : Tile :=
  let z := x.nextPc
  let y := { z with pcyc := x.pcyc + 1, phase := x.phase + 1, running := !x.ending, ending := false }
  if x.ending then y.settleNarrow else y

/-- The end of a word's cycle: the accesses of running MOVE, FILL and COPY operations, the narrow writes of the cycle, then one
cycle of programme time. -/
def State.advance (s : State) (t : TileId) : State :=
  let s0 := if (s.tile t).clashes then s.wideClash t else s
  let s1 := (s0.moveTick t).modTile t fun x => { x.fillCycle with wideRows := x.rowsNow ++ x.fillCycle.wideRows }
  (s1.copyCycle t).modTile t fun x => x.narrowCycle.stepWord

/-- The MOVEs of a tile that has reached FEND go on sending in the cycles of a slot that its sequencer leaves (R224, R262). -/
def State.tailCycles (s : State) (t : TileId) : Nat → State
  | 0 => s
  | n + 1 => ((s.moveTick t).modTile t fun x => { x with pcyc := x.pcyc + 1, phase := x.phase + 1 }).tailCycles t n

/-- Frame poison of R193: an uncorrectable word poisons what the tile writes until the frame ends. -/
def State.badWord (s : State) (t : TileId) (w : WordTag) : State :=
  let x := s.tile t
  let s1 := s.setTile t { x with
    framePoison := true
    badWords := if x.badWords.contains x.pc then x.badWords else x.badWords ++ [x.pc] }
  if w.last then s1.raise 0x3012 (tileHandle t) (eventParam 0 x.pc) 0xFFFF else s1

/-- Corrected errors of a tile are counted and raise no event (R194). -/
def State.countFixed (s : State) (t : TileId) (n : Nat) : State :=
  if n = 0 then s else s.modTile t fun x => { x with corrected := BitVec.ofNat 32 (min 0xFFFFFFFF (x.corrected.toNat + n)) }

/-- Issue of one field of the present word. `ok` is the check of R215 on the field: a word that fails it stands in no loaded
container and does not issue. -/
def State.issue (s : State) (t : TileId) (w : WordTag) (c : FieldClass) (ok : Bool) (f : State → State) : State :=
  if !(s.canIssue t && ok) then s else
  let bad := (s.tile t).wordBad w
  let s1 := if bad then s.badWord t w else s
  let acts := (!bad || decide (c = .flow)) && (decide (c ≠ .data) || (s.tile t).predicate w)
  let s2 := if acts then f s1 else s1
  let s3 := s2.countFixed t w.fixed
  if w.last then s3.advance t else s3

/-- Stride entry STR of the running programme's container (R219). -/
def State.stride (s : State) (str : BitVec 6) : List Int :=
  match s.prog.running with
  | some c => c.strides.getD str.toNat []
  | none => []

/-- An address-bearing operand of a field of `limit` values (R219). -/
def State.operand (s : State) (t : TileId) (limit base : Nat) (str : BitVec 6) : Nat :=
  formOperand limit base (s.stride str) (s.tile t).loops

/-! ### Landings (R213) -/

/-- A landing joins the list in order of its cycle. A flag clear goes ahead of results that land in its cycle, so that it
clears only earlier flags (R111). -/
def insertLanding (l : Landing) : List Landing → List Landing
  | [] => [l]
  | x :: xs =>
    if l.due < x.due ∨ (l.due = x.due ∧ l.what = .flagClear) then l :: x :: xs else x :: insertLanding l xs

/-- A result issued now lands L cycles later. -/
def Tile.land (x : Tile) (latency : Nat) (what : LandEffect) : Tile :=
  { x with landings := insertLanding ⟨x.pcyc + latency, what⟩ x.landings }

/-- What a read of a statistics register sees: observations made 4 cc or more before (R102). -/
def Tile.statVisible (x : Tile) (r : Nat) : Stat :=
  match (x.statQ.filter fun q => decide (q.2.1 = r) && decide (q.1 ≤ x.pcyc)).getLast? with
  | some q => q.2.2
  | none => mget Stat.reset x.statSeen r

/-- A register takes a value that reads see at once, and no observation is on its way. -/
def Tile.setStat (x : Tile) (r : Nat) (v : Stat) : Tile :=
  { x with
    stats := mset Stat.reset x.stats r v
    statSeen := mset Stat.reset x.statSeen r v
    statQ := x.statQ.filter fun q => decide (q.2.1 ≠ r) }

/-- An observation by register r of the tile (R99): reads see it 4 cc later. -/
def Tile.observeIn (o : Observation) (x : Tile) (r : Nat) : Tile :=
  let old := x.stat r
  let (v, p) := old.observe (mget StatRow.start x.statRows r) o
  if old.enabled ∧ old.tag = o.tag then
    { x with
      stats := mset Stat.reset x.stats r v
      statRows := mset StatRow.start x.statRows r p
      statQ := x.statQ ++ [(x.pcyc + 4, r, v)] }
  else x

/-- An observation by every register of the tile (R99). -/
def Tile.observe (x : Tile) (o : Observation) : Tile :=
  (List.range 16).foldl (Tile.observeIn o) { x with lastObs := some (x.pcyc, o, x.statRows) }

/-- A clear of a register: it acts before the observation of its own cycle, which counts after it (R101). -/
def Tile.clearStat (x : Tile) (r : Nat) : Tile :=
  let y := { x with
    stats := mmod Stat.reset x.stats r Stat.clear
    statQ := x.statQ.filter fun q => decide (q.2.1 ≠ r) }
  match x.lastObs with
  | some (c, o, rows) =>
    if c = x.pcyc then
      Tile.observeIn o { y with statRows := mset StatRow.start y.statRows r (mget StatRow.start rows r) } r
    else y
  | none => y

/-- Observations that every later read sees leave the queue. -/
def Tile.settleStats (x : Tile) : Tile :=
  let old := x.statQ.filter fun q => decide (q.1 ≤ x.pcyc)
  { x with
    statSeen := old.foldl (fun m q => mset Stat.reset m q.2.1 q.2.2) x.statSeen
    statQ := x.statQ.filter fun q => decide (x.pcyc < q.1) }

/-- The effect of one landing on its tile. -/
def State.landEffect (s : State) (t : TileId) : LandEffect → State
  | .vreg r v f => s.modTile t fun x => { x.setVreg r v with flags := x.flags.or f }
  | .row n v f taint => s.modTile t fun x =>
      { x.setRow n (if taint then x.taint v else v) with flags := x.flags.or f }
  | .stage e st => s.modEngine e fun g => { g with stage := st }
  | .statClear r => s.modTile t fun x =>
      { x with statSeen := mset Stat.reset x.statSeen r.val (mget Stat.reset x.statSeen r.val).clear }
  | .statWrite r ctl clip poisoned => s.modTile t fun x =>
      let f : Stat → Stat := fun y => if poisoned then y.setBit 24 true else y.write ctl clip
      { x with
        stats := mmod Stat.reset x.stats r.val f
        statSeen := mmod Stat.reset x.statSeen r.val f
        statQ := x.statQ.map fun q => if q.2.1 = r.val then (q.1, q.2.1, f q.2.2) else q }
  | .flagClear => s.modTile t fun x => { x with flags := TileFlags.zero }

/-- RESULT_LANDING: the oldest pending result of the tile whose cycle has come takes effect. Held and waiting groups keep
their pipelines frozen (R185, R190). -/
def execResultLanding (t : TileId) (s : State) : Host.Outcome State Fault Refusal :=
  .next (
    let x := s.tile t
    match x.landings with
    | l :: ls =>
      if l.due ≤ x.pcyc ∧ !s.frozen t ∧ s.awake then (s.setTile t { x with landings := ls }).landEffect t l.what else s
    | [] => s)

/-! ### CTL -/

/-- LOOP opens a loop over the words after it (R217, R218). -/
def execLoop (t : TileId) (w : WordTag) (last : BitVec 13) (trips : BitVec 11) (s : State) :
    Host.Outcome State Fault Refusal :=
  .next (s.issue t w .flow (decide (trips ≠ 0) && decide ((s.tile t).loops.length < 4)) fun s =>
    s.modTile t fun x => { x with loops := ⟨x.pc + 1, last.toNat, trips.toNat, 0⟩ :: x.loops })

/-- Start of the path that variant select chose for a group (R220, R221). -/
def State.pathStart (s : State) (t : TileId) (group : Nat) : Option Nat :=
  match s.prog.running with
  | none => none
  | some c =>
    match c.variants[group]? with
    | none => none
    | some g => (g.paths[(s.tile t).paths.getD group 0]?).map Prod.fst

/-- VAR jumps to the chosen path; PEND will return to the word after it (R220). -/
def execVar (t : TileId) (w : WordTag) (group : Fin 16) (s : State) : Host.Outcome State Fault Refusal :=
  .next (s.issue t w .flow true fun s =>
    match s.pathStart t group.val with
    | none => s
    | some a => s.modTile t fun x => { x with jump := some a, varReturn := some (x.pc + 1) })

/-- PEND ends the path (R220). -/
def execPend (t : TileId) (w : WordTag) (s : State) : Host.Outcome State Fault Refusal :=
  .next (s.issue t w .flow true fun s =>
    s.modTile t fun x => { x with jump := x.varReturn, varReturn := none })

/-- FP32 bits of 32,767. -/
def fp32k : Nat := 0x46FFFE00

/-- The latch that a WIN forms from a register (R105, R222). -/
def Latch.ofStat (r : Stat) : Latch :=
  ⟨r.miss, r.val, BitVec.ofNat 32 (FpFmt.div fp32 r.val.toNat fp32k).bits,
    BitVec.ofNat 32 (FpFmt.div fp32 fp32k r.val.toNat).bits⟩

/-- WIN latches MISS and STAT_VAL and forms the window scales; an open window raises 0x2020 (R105, R222). -/
def execWin (t : TileId) (w : WordTag) (latch : Fin 4) (reg : Fin 16) (s : State) : Host.Outcome State Fault Refusal :=
  .next (s.issue t w .plain true fun s =>
    let r := (s.tile t).statVisible reg.val
    let s1 := s.modTile t fun x => { x with
      latches := mset Latch.zero x.latches latch.val (Latch.ofStat r)
      winTested := if r.miss then x.winTested ||| BitVec.ofNat 16 (2 ^ reg.val) else x.winTested }
    if r.miss then s1.raise 0x2020 (tileHandle t) (eventParam 0 reg.val) 0xFFFF else s1)

/-- HINT starts a phase and ends the one before it (R223). -/
def execHint (t : TileId) (w : WordTag) (phase : Byte) (s : State) : Host.Outcome State Fault Refusal :=
  .next (s.issue t w .plain true fun s =>
    (((s.endHint t).modTile t fun x => { x with hintPhase := some phase, hintStart := x.pcyc }).openOcc t).applyFt (tileDie t))

/-- The frame, commit and flip turnstiles of the running container. -/
def State.frameTs (s : State) : Byte := match s.prog.running with
  | some c => c.frameTs
  | none => 0
def State.commitTs (s : State) : Byte := match s.prog.running with
  | some c => c.commitTs
  | none => 0
def State.flipTs (s : State) : Byte := match s.prog.running with
  | some c => c.flipTs
  | none => 0

/-- The frame-barrier arrival of a tile that reaches FEND (R224, R292). -/
def State.fendArrival (s : State) (t : TileId) (poison : Bool) : State := s.sendGlobal t s.frameTs (.add 1) poison

/-- FEND arrives at the frame turnstile; the sequencer stops after this word. An uncorrectable FEND still arrives, with
poison (R193, R224). -/
def execFend (t : TileId) (w : WordTag) (s : State) : Host.Outcome State Fault Refusal :=
  .next (s.issue t w .flow true fun s =>
    (((s.endHint t).fendArrival t (s.tile t).framePoison).modTile t fun x =>
      { x with ending := true, hintPhase := none }).applyFt (tileDie t))

/-- A NOP word takes its cycle (R214). -/
def execNopWord (t : TileId) (bad : Bool) (s : State) : Host.Outcome State Fault Refusal :=
  .next (s.issue t ⟨false, false, 0, true, bad, 0⟩ .plain true fun s => s)

end Sys2Proof.Machine
end

