-- ==== Sys2Proof/Machine/WordCode.lean ====
section
/-!
DEFINITION. The encoding of a routine word (R214, R215): its six fields, their sub-fields, and the commands that it issues. A
word with an undefined operation code, a non-zero reserved field, or a field outside the operations, formats or scopes that
its table names has no reading.
-/
namespace Sys2Proof.Machine

/-! ### Fields (R214) -/

/-- The six fields of a word. -/
def wordCtl (x : Nat) : Nat := bitsOf x 224 32
def wordSyn (x : Nat) : Nat := bitsOf x 192 32
def wordMov (x : Nat) : Nat := bitsOf x 144 48
def wordMem (x : Nat) : Nat := bitsOf x 93 51
def wordEng (x : Nat) : Nat := bitsOf x 53 40
def wordVec (x : Nat) : Nat := bitsOf x 0 53

/-- What a field gives: no reading, nothing to issue, or a command. -/
abbrev FieldRead := Option (Option Instr)

/-- A command of a field whose reserved bits are zero. -/
def readIf (ok : Bool) (i : Instr) : FieldRead := if ok then some (some i) else none

/-- A field whose operation code is 0 issues nothing; its other bits are reserved. -/
def readNone (rest : Nat) : FieldRead := if rest = 0 then some none else none

/-- VFMT codes 0 to 5. -/
def vfmtOf (n : Nat) : Option VFmt := [VFmt.int8, .int16, .int32, .fp16, .bf16, .fp32][n]?

/-- CTL: COP and its operand. PEN, PNEG and PLATCH stand beside every operation, also beside none. -/
def readCtl (t : TileId) (w : WordTag) (f : Nat) : FieldRead :=
  match bitsOf f 28 4 with
  | 0 => readNone (bitsOf f 0 24)
  | 1 => readIf true (.loop t w (BitVec.ofNat 13 (bitsOf f 11 13)) (BitVec.ofNat 11 (bitsOf f 0 11)))
  | 2 => readIf (decide (bitsOf f 4 20 = 0)) (.var t w (Fin.ofNat 16 (bitsOf f 0 4)))
  | 3 => readIf (decide (bitsOf f 0 24 = 0)) (.pend t w)
  | 4 => readIf (decide (bitsOf f 0 18 = 0)) (.win t w (Fin.ofNat 4 (bitsOf f 22 2)) (Fin.ofNat 16 (bitsOf f 18 4)))
  | 5 => readIf (decide (bitsOf f 8 16 = 0)) (.hint t w (BitVec.ofNat 8 (bitsOf f 0 8)))
  | 6 => readIf (decide (bitsOf f 0 24 = 0)) (.fend t w)
  | _ => none

/-- SCOPE and GSEL; GSEL is 0 outside scope 1 (R239). -/
def synScopeOf (f : Nat) : Option SynScope :=
  match bitsOf f 27 2 with
  | 0 => if bitsOf f 23 4 = 0 then some .own else none
  | 1 => some (.group (Fin.ofNat 16 (bitsOf f 23 4)))
  | 2 => if bitsOf f 23 4 = 0 then some .global else none
  | _ => none

/-- SYN: REL is 0 outside WAIT (R239), and VALUE is 0 for ARRIVE and POISON (R283). -/
def readSyn (t : TileId) (w : WordTag) (f : Nat) : FieldRead :=
  let n := BitVec.ofNat 8 (bitsOf f 15 8)
  let rel := decide (bitsOf f 14 1 = 1)
  let v := BitVec.ofNat 14 (bitsOf f 0 14)
  if bitsOf f 29 3 = 0 then readNone f else
  match synScopeOf f with
  | none => none
  | some sc =>
    match bitsOf f 29 3 with
    | 1 => readIf (!rel && decide (v = 0)) (.arrive t w sc n)
    | 2 => readIf (!rel) (.synAdd t w sc n v)
    | 3 => readIf true (.wait t w sc n rel v)
    | 4 => readIf (!rel) (.reset t w sc n v)
    | 5 => readIf (!rel && decide (v = 0)) (.poison t w sc n)
    | _ => none

/-- MOV. -/
def readMov (t : TileId) (w : WordTag) (f : Nat) : FieldRead :=
  let d := BitVec.ofNat 12 (bitsOf f 32 12)
  let row := BitVec.ofNat 13 (bitsOf f 19 13)
  let str := BitVec.ofNat 6 (bitsOf f 13 6)
  let ok := decide (bitsOf f 0 13 = 0)
  match bitsOf f 44 4 with
  | 0 => readNone f
  | 1 => readIf ok (.move t w d row str [])
  | 2 => readIf ok (.load t w d row str)
  | 3 => readIf ok (.store t w d row str)
  | 4 => readIf ok (.hload t w d row str)
  | 5 => readIf ok (.hstore t w d row str)
  | 6 => readIf ok (.ticket t w d row str)
  | _ => none

/-- MEM. -/
def readMem (t : TileId) (w : WordTag) (f : Nat) : FieldRead :=
  let row := BitVec.ofNat 13 (bitsOf f 34 13)
  let str := BitVec.ofNat 6 (bitsOf f 28 6)
  let v : Fin 32 := Fin.ofNat 32 (bitsOf f 23 5)
  match bitsOf f 47 4 with
  | 0 => readNone f
  | 1 => readIf (decide (bitsOf f 0 23 = 0)) (.rd t w row str v 0)
  | 2 => match vfmtOf (bitsOf f 11 3) with
    | some m => readIf (decide (bitsOf f 0 9 = 0)) (.wr t w row str v (decide (bitsOf f 22 1 = 1)) (BitVec.ofNat 8 (bitsOf f 14 8)) m
        (decide (bitsOf f 10 1 = 1)) (decide (bitsOf f 9 1 = 1)))
    | none => none
  | 3 => readIf true (.feed t w row str (BitVec.ofNat 16 (bitsOf f 12 16)) (Fin.ofNat 16 (bitsOf f 8 4)) (BitVec.ofNat 8 (bitsOf f 0 8)) 0)
  | 4 => readIf (decide (bitsOf f 0 10 = 0)) (.fill t w row str v (BitVec.ofNat 13 (bitsOf f 10 13)))
  | 5 => readIf (decide (bitsOf f 0 2 = 0)) (.memCopy t w row str (BitVec.ofNat 13 (bitsOf f 15 13)) (BitVec.ofNat 13 (bitsOf f 2 13)) [])
  | _ => none

/-- ENG. ADDR of an ADD to vector registers holds the register in bits [12:8] of the field and zeros above. -/
def readEng (t : TileId) (w : WordTag) (f : Nat) : FieldRead :=
  let m := BitVec.ofNat 16 (bitsOf f 22 16)
  let str := BitVec.ofNat 6 (bitsOf f 0 6)
  match bitsOf f 38 2 with
  | 0 => readNone f
  | 1 => readIf true (.eval t w m (BitVec.ofNat 11 (bitsOf f 11 11)) (Fin.ofNat 4 (bitsOf f 9 2)) (decide (bitsOf f 8 1 = 1))
      (decide (bitsOf f 7 1 = 1)) (decide (bitsOf f 6 1 = 1)) str 0)
  | 2 =>
    let toRows := decide (bitsOf f 21 1 = 1)
    readIf (decide (bitsOf f 6 2 = 0) && (toRows || decide (bitsOf f 13 8 = 0)))
      (.engAdd t w m toRows (BitVec.ofNat 13 (bitsOf f 8 13)) str)
  | _ => readIf (decide (bitsOf f 0 22 = 0)) (.clear t w m)

/-- Operations of two sources, in the order of *Vector operations*. -/
def vecTwo (op : Nat) : Option (TileId → WordTag → VFmt → Fin 32 → Fin 32 → Fin 32 → Instr) :=
  match op with
  | 0x01 => some .vecAdd
  | 0x02 => some .sub
  | 0x03 => some .mul
  | 0x05 => some .max
  | 0x06 => some .min
  | 0x09 => some .wadd
  | 0x10 => some .cmpeq
  | 0x11 => some .cmplt
  | 0x12 => some .cmple
  | 0x18 => some .and
  | 0x19 => some .or
  | 0x1A => some .xor
  | _ => none

/-- Operations of one source. -/
def vecOne (op : Nat) : Option (TileId → WordTag → VFmt → Fin 32 → Fin 32 → Instr) :=
  match op with
  | 0x07 => some .abs
  | 0x08 => some .neg
  | 0x28 => some .rsum
  | 0x29 => some .rmax
  | 0x30 => some .rcp
  | 0x31 => some .rsqrt
  | 0x32 => some .exp
  | _ => none

/-- Operations without a format: VFMT is 0 (R215). -/
def vecPlain (t : TileId) (w : WordTag) (op : Nat) (vd va : Fin 32) (imm : Nat) : Option Instr :=
  match op with
  | 0x38 => some (.stclr t w (Fin.ofNat 16 imm))
  | 0x39 => some (.strd t w vd (Fin.ofNat 16 imm))
  | 0x3A => some (.stwr t w va (Fin.ofNat 16 imm))
  | 0x3B => some (.flrd t w vd)
  | 0x3C => some (.flclr t w)
  | 0x3E => some (.wscl t w vd (Fin.ofNat 4 imm))
  | _ => none

/-- The command of an operation with a format; the formats it takes are those of its command (Instr.wf). -/
def vecFormed (t : TileId) (w : WordTag) (f op : Nat) (m : VFmt) : Option Instr :=
  let vd : Fin 32 := Fin.ofNat 32 (bitsOf f 37 5)
  let va : Fin 32 := Fin.ofNat 32 (bitsOf f 32 5)
  let vb : Fin 32 := Fin.ofNat 32 (bitsOf f 27 5)
  let vc : Fin 32 := Fin.ofNat 32 (bitsOf f 22 5)
  let imm := bitsOf f 6 8
  let b : Byte := BitVec.ofNat 8 imm
  match vecTwo op, vecOne op, op with
  | some g, _, _ => some (g t w m vd va vb)
  | _, some g, _ => some (g t w m vd va)
  | _, _, 0x04 => some (.fma t w m vd va vb vc)
  | _, _, 0x13 => some (.sel t w m vd va vb vc)
  | _, _, 0x1B => some (.shl t w m vd va b)
  | _, _, 0x1C => some (.shra t w m vd va b)
  | _, _, 0x20 => match vfmtOf (bitsOf imm 0 3) with
    | some d => if bitsOf imm 5 3 = 0 then some (.cvt t w m vd va d (Fin.ofNat 4 (bitsOf imm 3 2))) else none
    | none => none
  | _, _, 0x21 => some (.qnt t w m vd va vb vc (BitVec.ofNat 8 (bitsOf f 14 8)) b (decide (bitsOf f 5 1 = 1)) (decide (bitsOf f 4 1 = 1)))
  | _, _, 0x22 => if m = .int16 then some (.pack t w vd va vb (decide (imm % 2 = 1))) else none
  | _, _, 0x23 => if m = .int32 then some (.dq t w vd va vb vc) else none
  | _, _, 0x24 => if m = .int32 then some (.dqt t w vd va vb vc (Fin.ofNat 32 imm)) else none
  | _, _, 0x25 => some (.vecRot t w m vd va b)
  | _, _, 0x26 => some (.macw t w m vd va vb (Fin.ofNat 4 imm))
  | _, _, 0x3D => some (.bcast t w m vd va b)
  | _, _, _ => none

/-- VEC: bits [3:0] are reserved. -/
def readVec (t : TileId) (w : WordTag) (f : Nat) : FieldRead :=
  let op := bitsOf f 45 8
  if op = 0 then readNone f else
  if bitsOf f 0 4 ≠ 0 then none else
  match vecPlain t w op (Fin.ofNat 32 (bitsOf f 37 5)) (Fin.ofNat 32 (bitsOf f 32 5)) (bitsOf f 6 8) with
  | some i => readIf (decide (bitsOf f 42 3 = 0)) i
  | none => match vfmtOf (bitsOf f 42 3) with
    | none => none
    | some m => match vecFormed t w f op m with
      | none => none
      | some i => readIf true i

/-! ### The word -/

/-- The tag of the k-th field of a word: the predicate of CTL, and whether no later field issues. -/
def fieldTag (x : Nat) (bad : Bool) (k : Nat) : WordTag :=
  let c := wordCtl x
  let ops := [bitsOf c 28 4, bitsOf (wordSyn x) 29 3, bitsOf (wordMov x) 44 4, bitsOf (wordMem x) 47 4, bitsOf (wordEng x) 38 2,
    bitsOf (wordVec x) 45 8]
  ⟨decide (bitsOf c 27 1 = 1), decide (bitsOf c 26 1 = 1), Fin.ofNat 4 (bitsOf c 24 2), (ops.drop (k + 1)).all (· = 0), bad, 0⟩

/-- The commands of a word, in the order of its fields; none where the word has no reading (R214, R215). A word whose six
operation codes are 0 is a NOP word. -/
def wordCommands (t : TileId) (bad : Bool) (word : BitVec 256) : Option (List Instr) :=
  let x := word.toNat
  let tag := fieldTag x bad
  match readCtl t (tag 0) (wordCtl x), readSyn t (tag 1) (wordSyn x), readMov t (tag 2) (wordMov x), readMem t (tag 3) (wordMem x),
    readEng t (tag 4) (wordEng x), readVec t (tag 5) (wordVec x) with
  | some a, some b, some c, some d, some e, some f =>
    let is := [a, b, c, d, e, f].filterMap id
    some (if is.isEmpty then [.nopWord t bad] else is)
  | _, _, _, _, _, _ => none

/-- The words of a routine (R240, R242). -/
def Container.word (c : Container) (p : Placement) (addr : Nat) : Option (BitVec 256) :=
  if addr < p.length then c.code[p.code + addr]? else none

/-- Formats and parts that a vector command takes (R215, R235, R236). -/
def Instr.vecOk : Instr → Bool
  | .fma _ _ f _ _ _ _ => f.fmaOk
  | .wadd _ _ f _ _ _ => f.intOk
  | .and _ _ f _ _ _ => f.intOk
  | .or _ _ f _ _ _ => f.intOk
  | .xor _ _ f _ _ _ => f.intOk
  | .shl _ _ f _ _ _ => f.intOk
  | .shra _ _ f _ _ _ => f.intOk
  | .cvt _ _ f _ _ d p => f.cvtOk d p
  | .qnt _ _ f _ _ _ _ _ _ _ _ => f.fpOk
  | .macw _ _ f _ _ _ p => f.macwOk p
  | .rcp _ _ f _ _ => f.fpOk
  | .rsqrt _ _ f _ _ => f.fpOk
  | .exp _ _ f _ _ => f.fpOk
  | .bcast _ _ f _ _ imm => decide (imm.toNat < VFmt.count f)
  | _ => true

/-- A word that R215 allows. -/
def wordOk (word : BitVec 256) : Bool :=
  match wordCommands 0 false word with
  | some is => is.all Instr.vecOk
  | none => false

end Sys2Proof.Machine
end

