-- ==== Sys2Proof/Machine/Turnstile.lean ====
section
/-!
DEFINITION. The SYN field (spec/08, spec/10): turnstile operations, waits and their samples, and the arrival of updates at
the hub and at the shadows.
-/
namespace Sys2Proof.Machine

/-- The tile-group handle of a group slot (R239). -/
def State.groupSlot (s : State) (slot : Nat) : Handle :=
  match s.prog.running with
  | some c => c.groupSlots.getD slot 0
  | none => 0

/-- An update that tile t issues now (R182, R284): visible to samples 2 cc later on its own tile, 4 cc later on a group. A
tile under frame poison sends poison (R193). -/
def State.sendUpdate (s : State) (t : TileId) (sc : SynScope) (n : Byte) (op : TsOp) : State :=
  let p := (s.tile t).framePoison
  match sc with
  | .own => s.tileUpdate t n op p (s.tileNow t + 2)
  | .group slot => forAll (s.handleTiles (s.groupSlot slot.val)) (fun s' u => s'.tileUpdate u n op p (s.tileNow t + 4)) s
  | .global => s.sendGlobal t n op p

/-- ARRIVE: COUNT + 1 (R283). -/
def execArrive (t : TileId) (w : WordTag) (sc : SynScope) (n : Byte) (s : State) : Host.Outcome State Fault Refusal :=
  .next (s.issue t w .plain (sc.tsOk n) fun s => s.sendUpdate t sc n (.add 1))

/-- ADD: COUNT + VALUE (R283). -/
def execSynAdd (t : TileId) (w : WordTag) (sc : SynScope) (n : Byte) (value : BitVec 14) (s : State) :
    Host.Outcome State Fault Refusal :=
  .next (s.issue t w .plain (sc.tsOk n && decide (value ≠ 0)) fun s => s.sendUpdate t sc n (.add value.toNat))

/-- RESET: COUNT, DONE and POIS to 0; TARGET to VALUE (R283). -/
def execReset (t : TileId) (w : WordTag) (sc : SynScope) (n : Byte) (value : BitVec 14) (s : State) :
    Host.Outcome State Fault Refusal :=
  .next (s.issue t w .plain (sc.tsOk n) fun s => s.sendUpdate t sc n (.reset value))

/-- POISON: POIS to 1 (R283). -/
def execPoison (t : TileId) (w : WordTag) (sc : SynScope) (n : Byte) (s : State) : Host.Outcome State Fault Refusal :=
  .next (s.issue t w .plain (sc.tsOk n) fun s => s.sendUpdate t sc n .poison)

/-! ### Waits (R189, R290) -/

/-- What samples of tile u see of its turnstile n at absolute cycle a. -/
def State.tileSample (s : State) (u : TileId) (n a : Nat) : Ts := mget Ts.zero ((s.tile u).flushTs a).tsSeen n

/-- The turnstiles that a wait of tile t reads: its own, those of every member in service, or its die's shadow. -/
def State.waitReads (s : State) (t : TileId) (sc : SynScope) (n : Byte) : List Ts :=
  let a := s.tileNow t
  match sc with
  | .own => [s.tileSample t n.toNat a]
  | .group slot => (s.handleTiles (s.groupSlot slot.val)).map fun u => s.tileSample u n.toNat a
  | .global => [mget Ts.zero (s.die (tileDie t)).shadow n.toNat]

/-- The condition of a wait on one turnstile: DONE for VALUE 0, else COUNT ≥ VALUE (R283). -/
def Ts.meets (x : Ts) (value : BitVec 14) : Bool :=
  if value = 0 then x.done else decide (value.toNat ≤ x.count.toNat)

/-- The sample finds the condition true; after a die loss every wait completes (R297). -/
def State.waitHolds (s : State) (t : TileId) (sc : SynScope) (n : Byte) (value : BitVec 14) : Bool :=
  s.frame.dieLost || (s.waitReads t sc n).all fun x => x.meets value

/-- A wait completes: a turnstile with POIS gives the tile frame poison (R290). -/
def State.completeWait (s : State) (t : TileId) (sc : SynScope) (n : Byte) : State :=
  let p := (s.waitReads t sc n).any fun x => x.pois
  s.modTile t fun x => { x with framePoison := x.framePoison || p }

/-- The throttle group of a tile enters wait slots (R189). -/
def State.enterWait (s : State) (t : TileId) : State :=
  forAll (s.throttleDies (tileDie t)) (fun s d => s.modDie d fun x => { x with waitSlot := true }) s

/-- The commands of the word that a running tile issues next, as its routine store holds it; an uncorrectable word gives none
(R193, R214). -/
def State.codeCommands (s : State) (t : TileId) : List Instr :=
  let x := s.tile t
  if !x.running || x.badWords.contains x.pc then [] else
  match s.prog.running with
  | none => []
  | some c => match placementOf s.prog.groups c t with
    | none => []
    | some p => ((Container.word c p x.pc).bind (wordCommands t false)).getD []

/-- The wait-until in that word (R189). -/
def State.codeWait (s : State) (t : TileId) : Option (SynScope × Byte × BitVec 14) :=
  (s.codeCommands t).findSome? fun i => match i with
    | .wait _ _ sc n _ v => some (sc, n, v)
    | _ => none

/-- Every wait-until that the tiles of the dies issue in this cycle has its condition (R189). -/
def State.waitsHold (s : State) (ds : List DieId) : Bool :=
  (ds.flatMap dieTiles).all fun t => !s.tileIn t || (match s.codeWait t with
    | some q => s.waitHolds t q.1 q.2.1 q.2.2
    | none => true)

/-- WAIT stands at cc 0 of a slot (R188). The slot's sample has let its group go on, so it completes with its word; a wait that
the routine store does not hold is sampled here, and its group enters wait slots when its condition fails (R189). -/
def execWait (t : TileId) (w : WordTag) (sc : SynScope) (n : Byte) (_rel : Bool) (value : BitVec 14) (s : State) :
    Host.Outcome State Fault Refusal :=
  .next (
    let ok := sc.tsOk n && decide ((s.tile t).phase = 0)
    if s.waitHolds t sc n value || (s.tile t).wordBad w || decide (s.codeWait t = some (sc, n, value)) then
      s.issue t w .plain ok fun s => s.completeWait t sc n
    else if s.canIssue t && ok then s.enterWait t else s)

/-! ### Arrival at the hub and at the shadows (R287, R288) -/

/-- The updates that reach the hub in one cycle for one turnstile: resets first; of resets from two tiles the larger value
counts, with event 0x5041 (R195, R288). -/
def State.applyBatch (s : State) (n : Byte) (us : List GlobalUpdate) : State :=
  let resets := us.filterMap fun u => match u.op with
    | .reset v => some (v, u.src, u.poison)
    | _ => none
  let others := us.filter fun u => !u.op.isReset
  let top : BitVec 14 := resets.foldl (fun m r => if m.toNat < r.1.toNat then r.1 else m) 0
  let srcs := resets.map fun r => r.2.1
  let two := match srcs with
    | a :: rest => rest.any fun b => decide (b ≠ a)
    | [] => false
  let s1 := if resets.isEmpty then s
    else s.globalUpdate n (.reset top) (resets.any fun r => r.2.2)
  let s2 := if two then s1.raise 0x5041 deviceHandle (eventParam 0 n.toNat) 0xFFFF else s1
  let s3 := { s2 with globals := { s2.globals with
    arrived := s2.globals.arrived ++ (others.filter fun u => !s2.globals.arrived.contains (n.toNat, u.src)).map fun u =>
      (n.toNat, u.src) } }
  others.foldl (fun s u => s.globalUpdate n u.op u.poison) s3

/-- GLOBAL_UPDATE_ARRIVAL: the updates of the oldest cycle for one turnstile reach the hub together. -/
def State.arriveGlobal (s : State) : State :=
    match s.fabric.globals with
    | [] => s
    | u0 :: us0 =>
      let due := us0.foldl (fun m u => min m u.due) u0.due
      match s.fabric.globals.find? (fun u => decide (u.due = due)) with
      | none => s
      | some h =>
        let mine : GlobalUpdate → Bool := fun u => decide (u.due = due) && decide (u.number = h.number)
        let batch := s.fabric.globals.filter mine
        let rest := s.fabric.globals.filter fun u => !mine u
        let s1 := { s with fabric := { s.fabric with globals := rest }, now := max s.now due }
        s1.applyBatch h.number batch

/-- SHADOW_UPDATE: the oldest change on its way reaches the die's shadow (R287). -/
def execShadowUpdate (d : DieId) (s : State) : Host.Outcome State Fault Refusal :=
  .next (
    match (s.die d).shadowQ with
    | [] => s
    | (due, n, x) :: rest =>
      let s1 := s.modDie d fun y => { y with shadow := mset Ts.zero y.shadow n x, shadowQ := rest }
      { s1 with now := max s1.now due })

end Sys2Proof.Machine
end

