-- ==== Sys2Proof/Machine/Mem.lean ====
section
/-!
DEFINITION. The MEM field (spec/08, spec/09): reads and writes of rows by the wide port, engine feeds, FILL and COPY.
-/
namespace Sys2Proof.Machine

/-- No FILL or COPY runs: another MEM issue in their cycles is refused at load (R233). -/
def Tile.memFree (x : Tile) : Bool := x.fillOp.isNone && x.copyOp.isNone

/-- A wide read of a row, which a narrow write of the same cycle does not meet (R191, R192, R251). -/
def State.wideRead (s : State) (t : TileId) (row : Nat) (upset : BitVec 32) : State × Row :=
  let q := s.readRow t row upset
  (q.1.modTile t fun x => x.useWide row, q.2)

/-- RD: the register holds the row 6 cc later (R231). -/
def execRd (t : TileId) (w : WordTag) (row : BitVec 13) (str : BitVec 6) (vreg : Fin 32) (upset : BitVec 32) (s : State) :
    Host.Outcome State Fault Refusal :=
  .next (s.issue t w .data (s.tile t).memFree fun s =>
    let p := s.wideRead t (s.operand t 8192 row.toNat str) upset
    p.1.modTile t fun x => x.land 6 (.vreg vreg p.2.toVReg TileFlags.zero))

/-- What a WR with statistics shows the registers (R99, R231). -/
def wrObservation (v : VReg) (tag : Byte) (f : VFmt) (rs re : Bool) : Observation :=
  ⟨tag.toNat, (List.range (VFmt.count f)).map fun k => obsOf f (v.elem f k) (v.elemPoison f k), rs, re, none⟩

/-- WR: the row is visible to a wide read 1 cc later (R231). Its write shares the wide port with FILL, COPY and ENG ADD (R249). -/
def execWr (t : TileId) (w : WordTag) (row : BitVec 13) (str : BitVec 6) (vreg : Fin 32) (st : Bool) (tag : Byte)
    (fmt : VFmt) (rs re : Bool) (s : State) : Host.Outcome State Fault Refusal :=
  .next (s.issue t w .data (s.tile t).memFree fun s =>
    let n := s.operand t 8192 row.toNat str
    s.modTile t fun x =>
      let v := x.vreg vreg
      let y := if st then x.observe (wrObservation v tag fmt rs re) else x
      y.land 1 (.row n (x.taint v.toRow) TileFlags.zero false))

/-- A format entry of the running container. -/
def State.format (s : State) (n : Byte) : Option FormatEntry :=
  match s.prog.running with
  | some c => c.formats[n.toNat]?
  | none => none

/-- The 128 values c − zp of a part and their poison (R226, R232). -/
def feedStage (f : FormatEntry) (part : Nat) (r : Row) : Stage :=
  let (es, p) := feedPart f.width part r
  ⟨f.width, es.map fun c => (if f.signed && decide (f.width ≠ 1) then sint f.width c else (c : Int)) -
    (if f.width = 1 then 0 else f.zp), p⟩

/-- PART lies in the range of its width (R232). -/
def feedOk (f : Option FormatEntry) (part : Fin 16) : Bool :=
  match f with
  | some e => [1, 4, 8, 16].contains e.width && decide (part.val * (128 * e.width) < 2048)
  | none => false

/-- FEED: the stages of the masked engines are loaded 6 cc later (R232). -/
def execFeed (t : TileId) (w : WordTag) (row : BitVec 13) (str : BitVec 6) (emask : BitVec 16) (part : Fin 16)
    (fidx : Byte) (upset : BitVec 32) (s : State) : Host.Outcome State Fault Refusal :=
  .next (s.issue t w .data ((s.tile t).memFree && feedOk (s.format fidx) part) fun s =>
    match s.format fidx with
    | none => s
    | some f =>
      let p := s.wideRead t (s.operand t 8192 row.toNat str) upset
      (maskEngines t emask).foldl (fun s e => s.modTile t fun x => x.land 6 (.stage e (feedStage f part.val p.2))) p.1)

/-- FILL writes the pattern, as it stands now, into COUNT rows, one per cycle from this one (R252). -/
def execFill (t : TileId) (w : WordTag) (row : BitVec 13) (str : BitVec 6) (vreg : Fin 32) (countM1 : BitVec 13)
    (s : State) : Host.Outcome State Fault Refusal :=
  .next (s.issue t w .data
      ((s.tile t).memFree && decide (s.operand t 8192 row.toNat str + countM1.toNat < 8192)) fun s =>
    let n := s.operand t 8192 row.toNat str
    s.modTile t fun x => { x with fillOp := some ⟨n, countM1.toNat + 1, 0, x.vreg vreg⟩ })

/-- COPY reads one row per cycle from this one and writes it 6 cc later (R252). `upset` names by step the words that SECDED
cannot correct (R192). -/
def execMemCopy (t : TileId) (w : WordTag) (row : BitVec 13) (str : BitVec 6) (dst : BitVec 13) (countM1 : BitVec 13)
    (upset : List (Nat × BitVec 32)) (s : State) : Host.Outcome State Fault Refusal :=
  .next (s.issue t w .data
      ((s.tile t).memFree && decide (s.operand t 8192 row.toNat str + countM1.toNat < 8192) &&
        decide (dst.toNat + countM1.toNat < 8192)) fun s =>
    let n := s.operand t 8192 row.toNat str
    s.modTile t fun x => { x with copyOp := some ⟨n, dst.toNat, countM1.toNat + 1, 0, [], upset⟩ })

end Sys2Proof.Machine
end

