-- ==== Sys2Proof/Machine/Vector.lean ====
section
/-!
DEFINITION. The VEC field (spec/08, spec/04): the operations of the vector unit, the quantiser and dequantiser, and the
statistics and flag operations.
-/
namespace Sys2Proof.Machine

/-! ### Element operations -/

/-- An integer operation with saturation, or its floating-point form (R109, R110). -/
def arith2 (fi : Int → Int → Int) (ff : FpFmt → Nat → Nat → FRes) (f : VFmt) (a b : Nat) : FRes :=
  let w := VFmt.bits f
  if VFmt.isInt f then satRes w (fi (sint w a) (sint w b)) else ff (VFmt.fp f) a b

def elemAdd : VFmt → Nat → Nat → FRes := arith2 (· + ·) FpFmt.add
def elemSub : VFmt → Nat → Nat → FRes := arith2 (· - ·) FpFmt.sub
def elemMul : VFmt → Nat → Nat → FRes := arith2 (· * ·) FpFmt.mul
def elemMax : VFmt → Nat → Nat → FRes := arith2 (fun a b => if a < b then b else a) FpFmt.maximum
def elemMin : VFmt → Nat → Nat → FRes := arith2 (fun a b => if a < b then a else b) FpFmt.minimum

def elemFma (f : VFmt) (a b c : Nat) : FRes :=
  let w := VFmt.bits f
  if VFmt.isInt f then satRes w (sint w a * sint w b + sint w c) else FpFmt.fma (VFmt.fp f) a b c

def elemAbs (f : VFmt) (a : Nat) : FRes :=
  let w := VFmt.bits f
  if VFmt.isInt f then satRes w ((sint w a).natAbs : Int) else FpFmt.absolute (VFmt.fp f) a

def elemNeg (f : VFmt) (a : Nat) : FRes :=
  let w := VFmt.bits f
  if VFmt.isInt f then satRes w (-(sint w a)) else FpFmt.negate (VFmt.fp f) a

/-- WADD wraps (R235). -/
def elemWadd (f : VFmt) (a b : Nat) : FRes := .clean ((a + b) % 2 ^ VFmt.bits f)

/-- All ones when a comparison holds, else 0 (R235). -/
def elemCmp (ci : Int → Int → Bool) (cf : FpFmt → Nat → Nat → Bool) (f : VFmt) (a b : Nat) : FRes :=
  let w := VFmt.bits f
  let r := if VFmt.isInt f then ci (sint w a) (sint w b) else cf (VFmt.fp f) a b
  ⟨if r then 2 ^ w - 1 else 0, if VFmt.isInt f then TileFlags.zero else FpFmt.cmpFlags (VFmt.fp f) a b⟩

def elemCmpeq : VFmt → Nat → Nat → FRes := elemCmp (fun a b => decide (a = b)) FpFmt.eq
def elemCmplt : VFmt → Nat → Nat → FRes := elemCmp (fun a b => decide (a < b)) FpFmt.lt
def elemCmple : VFmt → Nat → Nat → FRes := elemCmp (fun a b => decide (a ≤ b)) FpFmt.le

/-- SEL tests the bit pattern of c (R236). -/
def elemSel (a b c : Nat) : FRes := .clean (if c ≠ 0 then a else b)

def elemShl (f : VFmt) (n a : Nat) : FRes := .clean (a * 2 ^ n % 2 ^ VFmt.bits f)
/-- Right shift rounded to nearest, ties away from zero (R235). -/
def elemShra (f : VFmt) (n a : Nat) : FRes :=
  let w := VFmt.bits f
  .clean (uint w (rshift (sint w a) n))

/-- A conversion of one element (R110). -/
def elemCvt (src dst : VFmt) (a : Nat) : FRes :=
  let ws := VFmt.bits src
  let wd := VFmt.bits dst
  if VFmt.isInt src then
    if VFmt.isInt dst then satRes wd (sint ws a) else FpFmt.ofInt (VFmt.fp dst) (sint ws a)
  else if VFmt.isInt dst then FpFmt.toInt (VFmt.fp src) wd a
  else FpFmt.convert (VFmt.fp src) (VFmt.fp dst) a

/-! ### Results -/

/-- A register of n elements of w bits. An element formed from poisoned data is poisoned, and its value is free (R192). -/
def vecBuild (w n : Nat) (free : Nat → Nat) (val : Nat → FRes) (pois : Nat → Bool) : VReg :=
  VReg.ofElems w ((List.range n).map fun k => if pois k then free k else (val k).bits) ((List.range n).map pois)

/-- Union of the flags of n element results. -/
def flagsOf (n : Nat) (val : Nat → FRes) : TileFlags := TileFlags.orAll ((List.range n).map fun k => (val k).flags)

/-- A vector result lands L cycles later with its flags (R111, R213). -/
def State.landVec (s : State) (t : TileId) (latency : Nat) (vd : Fin 32) (w n : Nat) (val : Nat → FRes)
    (pois : Nat → Bool) : State :=
  (s.modTile t fun x => x.land latency (.vreg vd (vecBuild w n s.freeElem val pois) (flagsOf n val))).takeFree

/-- First latency figure for 8-bit and 16-bit formats, second for 32-bit ones (R235). -/
def latOf (f : VFmt) (short long : Nat) : Nat := if VFmt.bits f = 32 then long else short

/-- Issue of an element-wise operation with one, two or three sources. -/
def State.vec1 (s : State) (t : TileId) (w : WordTag) (ok : Bool) (lat : Nat) (f : VFmt) (vd va : Fin 32)
    (op : Nat → FRes) : State :=
  s.issue t w .data ok fun s =>
    let a := (s.tile t).vreg va
    s.landVec t lat vd (VFmt.bits f) (VFmt.count f) (fun k => op (a.elem f k)) (fun k => a.elemPoison f k)

def State.vec2 (s : State) (t : TileId) (w : WordTag) (ok : Bool) (lat : Nat) (f : VFmt) (vd va vb : Fin 32)
    (op : Nat → Nat → FRes) : State :=
  s.issue t w .data ok fun s =>
    let a := (s.tile t).vreg va
    let b := (s.tile t).vreg vb
    s.landVec t lat vd (VFmt.bits f) (VFmt.count f) (fun k => op (a.elem f k) (b.elem f k))
      (fun k => a.elemPoison f k || b.elemPoison f k)

def State.vec3 (s : State) (t : TileId) (w : WordTag) (ok : Bool) (lat : Nat) (f : VFmt) (vd va vb vc : Fin 32)
    (op : Nat → Nat → Nat → FRes) : State :=
  s.issue t w .data ok fun s =>
    let a := (s.tile t).vreg va
    let b := (s.tile t).vreg vb
    let c := (s.tile t).vreg vc
    s.landVec t lat vd (VFmt.bits f) (VFmt.count f) (fun k => op (a.elem f k) (b.elem f k) (c.elem f k))
      (fun k => a.elemPoison f k || b.elemPoison f k || c.elemPoison f k)

/-! ### Element-wise operations -/

def execVecAdd (t : TileId) (w : WordTag) (f : VFmt) (vd va vb : Fin 32) (s : State) : Host.Outcome State Fault Refusal :=
  .next (s.vec2 t w true (latOf f 2 5) f vd va vb (elemAdd f))
def execSub (t : TileId) (w : WordTag) (f : VFmt) (vd va vb : Fin 32) (s : State) : Host.Outcome State Fault Refusal :=
  .next (s.vec2 t w true (latOf f 2 5) f vd va vb (elemSub f))
def execMul (t : TileId) (w : WordTag) (f : VFmt) (vd va vb : Fin 32) (s : State) : Host.Outcome State Fault Refusal :=
  .next (s.vec2 t w true (latOf f 4 5) f vd va vb (elemMul f))
def execFma (t : TileId) (w : WordTag) (f : VFmt) (vd va vb vc : Fin 32) (s : State) :
    Host.Outcome State Fault Refusal :=
  .next (s.vec3 t w f.fmaOk (latOf f 4 5) f vd va vb vc (elemFma f))
def execMax (t : TileId) (w : WordTag) (f : VFmt) (vd va vb : Fin 32) (s : State) : Host.Outcome State Fault Refusal :=
  .next (s.vec2 t w true (latOf f 2 5) f vd va vb (elemMax f))
def execMin (t : TileId) (w : WordTag) (f : VFmt) (vd va vb : Fin 32) (s : State) : Host.Outcome State Fault Refusal :=
  .next (s.vec2 t w true (latOf f 2 5) f vd va vb (elemMin f))
def execAbs (t : TileId) (w : WordTag) (f : VFmt) (vd va : Fin 32) (s : State) : Host.Outcome State Fault Refusal :=
  .next (s.vec1 t w true (latOf f 2 5) f vd va (elemAbs f))
def execNeg (t : TileId) (w : WordTag) (f : VFmt) (vd va : Fin 32) (s : State) : Host.Outcome State Fault Refusal :=
  .next (s.vec1 t w true (latOf f 2 5) f vd va (elemNeg f))
def execWadd (t : TileId) (w : WordTag) (f : VFmt) (vd va vb : Fin 32) (s : State) : Host.Outcome State Fault Refusal :=
  .next (s.vec2 t w f.intOk (latOf f 2 5) f vd va vb (elemWadd f))
def execCmpeq (t : TileId) (w : WordTag) (f : VFmt) (vd va vb : Fin 32) (s : State) :
    Host.Outcome State Fault Refusal :=
  .next (s.vec2 t w true (latOf f 2 5) f vd va vb (elemCmpeq f))
def execCmplt (t : TileId) (w : WordTag) (f : VFmt) (vd va vb : Fin 32) (s : State) :
    Host.Outcome State Fault Refusal :=
  .next (s.vec2 t w true (latOf f 2 5) f vd va vb (elemCmplt f))
def execCmple (t : TileId) (w : WordTag) (f : VFmt) (vd va vb : Fin 32) (s : State) :
    Host.Outcome State Fault Refusal :=
  .next (s.vec2 t w true (latOf f 2 5) f vd va vb (elemCmple f))
def execSel (t : TileId) (w : WordTag) (f : VFmt) (vd va vb vc : Fin 32) (s : State) :
    Host.Outcome State Fault Refusal :=
  .next (s.vec3 t w true (latOf f 2 5) f vd va vb vc elemSel)
def execAnd (t : TileId) (w : WordTag) (f : VFmt) (vd va vb : Fin 32) (s : State) : Host.Outcome State Fault Refusal :=
  .next (s.vec2 t w f.intOk (latOf f 2 5) f vd va vb fun a b => .clean (a &&& b))
def execOr (t : TileId) (w : WordTag) (f : VFmt) (vd va vb : Fin 32) (s : State) : Host.Outcome State Fault Refusal :=
  .next (s.vec2 t w f.intOk (latOf f 2 5) f vd va vb fun a b => .clean (a ||| b))
def execXor (t : TileId) (w : WordTag) (f : VFmt) (vd va vb : Fin 32) (s : State) : Host.Outcome State Fault Refusal :=
  .next (s.vec2 t w f.intOk (latOf f 2 5) f vd va vb fun a b => .clean (a ^^^ b))
def execShl (t : TileId) (w : WordTag) (f : VFmt) (vd va : Fin 32) (imm : Byte) (s : State) :
    Host.Outcome State Fault Refusal :=
  .next (s.vec1 t w f.intOk (latOf f 2 5) f vd va (elemShl f (imm.toNat % 32)))
def execShra (t : TileId) (w : WordTag) (f : VFmt) (vd va : Fin 32) (imm : Byte) (s : State) :
    Host.Outcome State Fault Refusal :=
  .next (s.vec1 t w f.intOk (latOf f 2 5) f vd va (elemShra f (imm.toNat % 32)))
def execRcp (t : TileId) (w : WordTag) (f : VFmt) (vd va : Fin 32) (s : State) : Host.Outcome State Fault Refusal :=
  .next (s.vec1 t w f.fpOk 10 f vd va (FpFmt.recip (VFmt.fp f)))
def execRsqrt (t : TileId) (w : WordTag) (f : VFmt) (vd va : Fin 32) (s : State) : Host.Outcome State Fault Refusal :=
  .next (s.vec1 t w f.fpOk 10 f vd va (FpFmt.rsqrt (VFmt.fp f)))
def execExp (t : TileId) (w : WordTag) (f : VFmt) (vd va : Fin 32) (s : State) : Host.Outcome State Fault Refusal :=
  .next (s.vec1 t w f.fpOk 10 f vd va (FpFmt.exp (VFmt.fp f)))

/-! ### Conversion, quantiser and dequantiser -/

/-- Source element of element k of a CVT result, by parts (R236). -/
def cvtSource (ns nd part k : Nat) : Option Nat :=
  if nd < ns then some (nd * part + k)
  else if ns < nd then (if ns * part ≤ k ∧ k < ns * (part + 1) then some (k - ns * part) else none)
  else some k

/-- CVT (R110, R236). -/
def execCvt (t : TileId) (w : WordTag) (f : VFmt) (vd va : Fin 32) (dst : VFmt) (part : Fin 4) (s : State) :
    Host.Outcome State Fault Refusal :=
  .next (s.issue t w .data (f.cvtOk dst part) fun s =>
    let a := (s.tile t).vreg va
    let source := cvtSource (VFmt.count f) (VFmt.count dst) part.val
    s.landVec t 4 vd (VFmt.bits dst) (VFmt.count dst)
      (fun k => match source k with
        | some j => elemCvt f dst (a.elem f j)
        | none => .clean 0)
      (fun k => match source k with
        | some j => a.elemPoison f j
        | none => false))

/-- Scale, zero point and code range with which a QNT quantises (R94, R96, R105). -/
structure QntRule where
  inv : Nat
  zp : Int
  lo : Int
  hi : Int
  deriving DecidableEq, Repr

/-- The code of one element, and whether it was NaN or clamped (R94, R95). The FP32 product inside sets neither OVF nor INV: of a QNT
the table names NAN and SAT alone (DESIGN CHOICE, log 90: R111 does not say whether the inner product counts). -/
def quantise (q : QntRule) (f : VFmt) (a : Nat) : Int × Bool × Bool :=
  let x := (FpFmt.convert (VFmt.fp f) fp32 a).bits
  match FpFmt.decode fp32 (FpFmt.mul fp32 x q.inv).bits with
  | .nan => (q.zp, true, false)
  | .inf neg => (if neg then q.lo else q.hi, false, true)
  | .fin neg m e =>
    let c := rneVal neg m e + q.zp
    (clampInt q.lo q.hi c, false, decide (clampInt q.lo q.hi c ≠ c))

/-- Row scale and reciprocal of per-token mode from a row's maxabs (R96): FP32 127 is 0x42FE0000, 2^−24 is 0x33800000. -/
def rowScaleOf (m : Nat) : Nat × Nat :=
  let r := (FpFmt.maximum fp32 (FpFmt.div fp32 m 0x42FE0000).bits 0x33800000).bits
  (r, (FpFmt.div fp32 0x3F800000 r).bits)

/-- Codes of a format entry: signed or unsigned of its width. -/
def codeRange (e : FormatEntry) : Int × Int :=
  if e.signed then (-(2 ^ (e.width - 1) : Nat), (2 ^ (e.width - 1) : Nat) - 1) else (0, (2 ^ e.width : Nat) - 1)

/-- The rule of a QNT: per-token mode takes the row-mode register VB[3:0], a window-scale format the latch of PLATCH. -/
def Tile.qntRule (x : Tile) (e : FormatEntry) (vb : Fin 32) (latch : Fin 4) : QntRule :=
  if e.perToken then ⟨(rowScaleOf (x.statVisible (vb.val % 16)).val.toNat).2, 0, -127, 127⟩
  else if e.window then ⟨(x.latch latch.val).inv.toNat, 0, -32767, 32767⟩
  else ⟨e.invS.toNat, e.zp, (codeRange e).1, (codeRange e).2⟩

/-- QNT (R94 to R97, R235, R237): codes land as INT16 elements 4 cc later; the registers observe the input. -/
def execQnt (t : TileId) (w : WordTag) (f : VFmt) (vd va vb vc : Fin 32) (tag : Byte) (imm : Byte) (rs re : Bool)
    (s : State) : Host.Outcome State Fault Refusal :=
  .next (s.issue t w .data (f.fpOk && (s.format imm).isSome) fun s =>
    match s.format imm with
    | none => s
    | some e =>
      let x := s.tile t
      let a := x.vreg va
      let n := VFmt.count f
      let q := x.qntRule e vb w.platch
      let codes := (List.range n).map fun k => quantise q f (a.elem f k)
      let nan := codes.any fun c => c.2.1
      let sat := codes.any fun c => c.2.2
      let obs : Observation := ⟨tag.toNat, (List.range n).map fun k => obsOf f (a.elem f k) (a.elemPoison f k), rs, re,
        some (((List.range n).zip codes).all fun p => decide (p.2.1 = q.zp) && !p.2.2.1 && !a.elemPoison f p.1)⟩
      let v := vecBuild 16 128 s.freeElem
        (fun k => match codes[k]? with
          | some c => .clean (uint 16 c.1)
          | none => .clean 0)
        (fun k => decide (k < n) && a.elemPoison f k)
      let v' : VReg := if nan then { v with poison := BitVec.allOnes 128 } else v
      let old := mget RowScale.zero x.rowScales vc.val
      let scale := (rowScaleOf (x.statVisible (vb.val % 16)).val.toNat).1
      let flat := (codes.all fun c => decide (c.1 = 0)) && (rs || old.flat)
      let s1 := s.modTile t fun x =>
        let y := x.observe obs
        let z := if e.perToken then
            { y with rowScales := mset RowScale.zero y.rowScales vc.val ⟨BitVec.ofNat 32 scale, flat⟩ }
          else y
        z.land 4 (.vreg vd v' ⟨nan, sat, false, false⟩)
      (if nan then s1.event 0x2023 (tileHandle t) else s1).takeFree)

/-- PACK: low bytes, or low nibbles, of a and then of b (R235). -/
def execPack (t : TileId) (w : WordTag) (vd va vb : Fin 32) (nibbles : Bool) (s : State) :
    Host.Outcome State Fault Refusal :=
  .next (s.issue t w .data true fun s =>
    let a := (s.tile t).vreg va
    let b := (s.tile t).vreg vb
    let src : Nat → Nat := fun k => if k < 128 then a.elem .int16 k else b.elem .int16 (k - 128)
    let sp : Nat → Bool := fun k => if k < 128 then a.elemPoison .int16 k else b.elemPoison .int16 (k - 128)
    if nibbles then
      s.landVec t 2 vd 8 256
        (fun k => .clean (if k < 128 then src (2 * k) % 16 + 16 * (src (2 * k + 1) % 16) else 0))
        (fun k => decide (k < 128) && (sp (2 * k) || sp (2 * k + 1)))
    else s.landVec t 2 vd 8 256 (fun k => .clean (src k % 256)) sp)

/-- fp32(L) × m, then the row scale of per-token mode, then the bias, each rounded (R93). -/
def dequantise (l m b : Nat) (row : Option RowScale) : FRes :=
  let y0 := FpFmt.ofInt fp32 (sint 32 l)
  let y1 := FpFmt.mul fp32 y0.bits m
  let y2 : FRes := match row with
    | none => ⟨y1.bits, TileFlags.zero⟩
    | some r => if r.flat then .clean 0 else FpFmt.mul fp32 y1.bits r.scale.toNat
  let y3 := FpFmt.add fp32 y2.bits b
  ⟨y3.bits, y1.flags.or (y2.flags.or y3.flags)⟩

/-- DQ lands 6 cc later (R93). -/
def execDq (t : TileId) (w : WordTag) (vd va vb vc : Fin 32) (s : State) : Host.Outcome State Fault Refusal :=
  .next (s.vec3 t w true 6 .int32 vd va vb vc fun a b c => dequantise a b c none)

/-- DQT: DQ with an entry of the row-scale file (R97, R237). -/
def execDqt (t : TileId) (w : WordTag) (vd va vb vc : Fin 32) (entry : Fin 32) (s : State) :
    Host.Outcome State Fault Refusal :=
  .next (s.vec3 t w true 6 .int32 vd va vb vc fun a b c =>
    dequantise a b c (some (mget RowScale.zero (s.tile t).rowScales entry.val)))

/-! ### Rearrangement, widening and reduction -/

/-- ROT: element k from element (k − IMM) mod n (R235). -/
def execVecRot (t : TileId) (w : WordTag) (f : VFmt) (vd va : Fin 32) (imm : Byte) (s : State) :
    Host.Outcome State Fault Refusal :=
  .next (s.issue t w .data true fun s =>
    let a := (s.tile t).vreg va
    let n := VFmt.count f
    let j : Nat → Nat := fun k => (k + n - imm.toNat % n) % n
    s.landVec t 2 vd (VFmt.bits f) n (fun k => .clean (a.elem f (j k))) (fun k => a.elemPoison f (j k)))

/-- BCAST: every element from element IMM (R235). -/
def execBcast (t : TileId) (w : WordTag) (f : VFmt) (vd va : Fin 32) (imm : Byte) (s : State) :
    Host.Outcome State Fault Refusal :=
  .next (s.issue t w .data (decide (imm.toNat < VFmt.count f)) fun s =>
    let a := (s.tile t).vreg va
    s.landVec t 2 vd (VFmt.bits f) (VFmt.count f) (fun _ => .clean (a.elem f imm.toNat))
      (fun _ => a.elemPoison f imm.toNat))

/-- MACW: d + a × b into 64 INT32 elements, saturating (R235). -/
def execMacw (t : TileId) (w : WordTag) (f : VFmt) (vd va vb : Fin 32) (part : Fin 4) (s : State) :
    Host.Outcome State Fault Refusal :=
  .next (s.issue t w .data (f.macwOk part) fun s =>
    let a := (s.tile t).vreg va
    let b := (s.tile t).vreg vb
    let d := (s.tile t).vreg vd
    let n := VFmt.bits f
    s.landVec t 5 vd 32 64
      (fun k => satRes 32 (sint 32 (d.elem .int32 k) +
        sint n (a.elem f (64 * part.val + k)) * sint n (b.elem f (64 * part.val + k))))
      (fun k => d.elemPoison .int32 k || a.elemPoison f (64 * part.val + k) || b.elemPoison f (64 * part.val + k)))

/-- One level of the reduction tree: adjacent pairs in index order (R236). -/
def pairUp (op : Nat → Nat → FRes) : List FRes → List FRes
  | a :: b :: rest =>
    let r := op a.bits b.bits
    ⟨r.bits, a.flags.or (b.flags.or r.flags)⟩ :: pairUp op rest
  | rest => rest

/-- The tree of depth n. -/
def reduceTree (op : Nat → Nat → FRes) : Nat → List FRes → FRes
  | 0, xs => xs.headD (.clean 0)
  | n + 1, xs => reduceTree op n (pairUp op xs)

/-- RSUM and RMAX: element 0 is the reduction of a, other elements are 0 (R235, R236). -/
def State.vecReduce (s : State) (t : TileId) (w : WordTag) (f : VFmt) (vd va : Fin 32) (op : Nat → Nat → FRes) : State :=
  s.issue t w .data true fun s =>
    let a := (s.tile t).vreg va
    let n := VFmt.count f
    let r := reduceTree op 8 ((List.range n).map fun k => FRes.clean (a.elem f k))
    let p := (List.range n).any fun k => a.elemPoison f k
    s.landVec t 8 vd (VFmt.bits f) n (fun k => if k = 0 then r else .clean 0) (fun k => decide (k = 0) && p)

def execRsum (t : TileId) (w : WordTag) (f : VFmt) (vd va : Fin 32) (s : State) : Host.Outcome State Fault Refusal :=
  .next (s.vecReduce t w f vd va (elemAdd f))
def execRmax (t : TileId) (w : WordTag) (f : VFmt) (vd va : Fin 32) (s : State) : Host.Outcome State Fault Refusal :=
  .next (s.vecReduce t w f vd va (elemMax f))

/-! ### Statistics, flags and window scales -/

/-- A register of 64 INT32 elements, the first ones given. -/
def int32Reg (xs : List Nat) : VReg := VReg.ofElems 32 (xs ++ List.replicate (64 - xs.length) 0) []

/-- STCLR clears a register in its cycle; reads see that from the next (R101, R236). -/
def execStclr (t : TileId) (w : WordTag) (reg : Fin 16) (s : State) : Host.Outcome State Fault Refusal :=
  .next (s.issue t w .data true fun s => s.modTile t fun x =>
    (x.clearStat reg.val).land 1 (.statClear reg))

/-- STRD: the four words of a register as observations made 4 cc or more before left it (R236). -/
def execStrd (t : TileId) (w : WordTag) (vd : Fin 32) (reg : Fin 16) (s : State) : Host.Outcome State Fault Refusal :=
  .next (s.issue t w .data true fun s => s.modTile t fun x =>
    let r := x.statVisible reg.val
    x.land 4 (.vreg vd (int32Reg [r.ctl.toNat, r.val.toNat, r.clip.toNat, r.cnt.toNat]) TileFlags.zero))

/-- STWR: STAT_CTL from element 0 of a, STAT_CLIP from element 1, at the end of its cycle (R236). -/
def execStwr (t : TileId) (w : WordTag) (va : Fin 32) (reg : Fin 16) (s : State) : Host.Outcome State Fault Refusal :=
  .next (s.issue t w .data true fun s => s.modTile t fun x =>
    let a := x.vreg va
    x.land 1 (.statWrite reg (BitVec.ofNat 32 (a.elem .int32 0)) (BitVec.ofNat 32 (a.elem .int32 1))
      (a.elemPoison .int32 0 || a.elemPoison .int32 1)))

/-- FLRD: bits [3:0] of element 0 are NAN, SAT, OVF, INV (R235). -/
def execFlrd (t : TileId) (w : WordTag) (vd : Fin 32) (s : State) : Host.Outcome State Fault Refusal :=
  .next (s.issue t w .data true fun s => s.modTile t fun x =>
    x.land 2 (.vreg vd (int32Reg [x.flags.bits]) TileFlags.zero))

/-- FLCLR clears the flags at the end of its cycle (R111). -/
def execFlclr (t : TileId) (w : WordTag) (s : State) : Host.Outcome State Fault Refusal :=
  .next (s.issue t w .data true fun s => s.modTile t fun x => x.land 1 .flagClear)

/-- WSCL: s16 and inv of a window latch (R222, R235). -/
def execWscl (t : TileId) (w : WordTag) (vd : Fin 32) (latch : Fin 4) (s : State) : Host.Outcome State Fault Refusal :=
  .next (s.issue t w .data true fun s => s.modTile t fun x =>
    let l := x.latch latch.val
    x.land 2 (.vreg vd (int32Reg [l.s16.toNat, l.inv.toNat]) TileFlags.zero))

end Sys2Proof.Machine
end

