-- ==== Sys2Proof/Machine/Array.lean ====
section
/-!
DEFINITION. The ENG field and the arrays (spec/03, spec/05, spec/06): the cloak of the input and output stages, EVAL, ADD and
CLEAR, the bit-plane sum of a slot, and the shift-add of the lanes with the safety net.
-/
namespace Sys2Proof.Machine

/-! ### The cloak (R171 to R173) -/

/-- Swap two positions. -/
def swapAt (p : List Nat) (a b : Nat) : List Nat := (p.set a (p.getD b 0)).set b (p.getD a 0)

/-- The shuffle of R171 from position k down to 1; draw i of the stream is `draw i`. -/
def shuffleFrom (draw : Nat → Nat) : Nat → Nat → List Nat → List Nat
  | 0, _, p => p
  | k + 1, i, p => shuffleFrom draw k (i + 1) (swapAt p (k + 1) (draw i % (k + 2)))

def shuffle (n : Nat) (draw : Nat → Nat) : List Nat := shuffleFrom draw (n - 1) 0 (List.range n)

/-- The key of a die, while the cloak tables can be used. -/
def State.dieKey (s : State) (d : DieId) : Option Nat := s.sec.dieKeys.getD d.val none

/-- Row permutation of one segment, sign vector, string and pair permutation. Without a key the order is that of the cells,
and the contents stay undecodable. -/
def State.rowPerm (s : State) (e : EngineId) (block seg : Nat) : List Nat :=
  match s.dieKey (engineDie e) with
  | some k => shuffle 32 fun i => (Config.cloakDraw k (engineHandle e) block seg i).toNat
  | none => List.range 32

def State.signBit (s : State) (e : EngineId) (block i : Nat) : Bool :=
  match s.dieKey (engineDie e) with
  | some k => (Config.cloakDraw k (engineHandle e) block 4 (i / 32)).getLsbD (i % 32)
  | none => false

/-- The string and the pair permutation that a die's banks share: the label holds its handle, block 0xFFFF, and segment 0 for
strings and 1 for pairs (R171, R457). -/
def State.stringPerm (s : State) (d : DieId) : List Nat :=
  match s.dieKey d with
  | some k => shuffle 256 fun i => (Config.cloakDraw k (dieHandle d) 0xFFFF 0 i).toNat
  | none => List.range 256

def State.pairPerm (s : State) (d : DieId) : List Nat :=
  match s.dieKey d with
  | some k => shuffle 128 fun i => (Config.cloakDraw k (dieHandle d) 0xFFFF 1 i).toNat
  | none => List.range 128

/-- Physical row of logical row i of a block. -/
def State.physRow (s : State) (e : EngineId) (block i : Nat) : Nat :=
  32 * (i / 32) + (s.rowPerm e block (i / 32)).getD (i % 32) 0

/-- Physical string of logical string j. -/
def State.physString (s : State) (d : DieId) (set : LevelSet) (j : Nat) : Nat :=
  if set = .pair8 then 2 * (s.pairPerm d).getD (j / 2) 0 + j % 2 else (s.stringPerm d).getD j 0

/-- Element i after the sign of the cloak: negated in a bell bank or a binary bank in select sense, inverted as a query bit in
match sense, unchanged in a uniform bank (R173). -/
def cloakSign (set : LevelSet) (isMatch neg : Bool) (x : Int) : Int :=
  if !neg then x
  else if isMatch then 1 - x % 2
  else match set with
    | .bell | .binary => -x
    | _ => x

/-- The 128 input elements by physical row. -/
def State.cloakInputs (s : State) (e : EngineId) (block : Nat) (set : LevelSet) (isMatch : Bool) (xs : List Int) :
    List Int :=
  (List.range 128).foldl (fun acc i =>
    acc.set (s.physRow e block i) (cloakSign set isMatch (s.signBit e block i) (xs.getD i 0)))
    (List.replicate 128 0)

/-! ### EVAL and CLEAR -/

/-- Planes of an operation by PW (R225). -/
def planesOf (pw : Fin 4) : Nat :=
  match pw.val with
  | 0 => 1
  | 1 => 5
  | 2 => 9
  | _ => 17

/-- The bank of an engine's array. -/
def bankId (e : EngineId) (array : Fin 1024) (bank : Bool) : Nat :=
  e.val * 2048 + array.val * 2 + (if bank then 1 else 0)

/-- One engine takes an EVAL: it captures its stage (R226). A block that its table does not bind, or an entry that SECDED
cannot correct, gives lanes of 0 with poison (R59, R597); match sense on another bank than a binary one runs in select
sense (R67). -/
def State.evalEngine (s : State) (e : EngineId) (block p : Nat) (isMatch clr bipolar bad : Bool) (issued : Nat) : State :=
  let g := s.engine e
  let x := mget XEntry.zero g.xlat block
  let isBad := bad || g.badX.contains block
  let sense := isMatch && decide (x.set = .binary)
  if isBad || !x.v then
    let op : ArrayOp := ⟨none, x.set, p, isMatch, clr, bipolar, [], true, [], issued⟩
    let s1 := s.setEngine e { g with
      ops := g.ops ++ [op]
      badX := if isBad && !g.badX.contains block then g.badX ++ [block] else g.badX }
    s1.event (if isBad then 0x3013 else 0x5010) (engineHandle e)
  else
    let op : ArrayOp := ⟨some (bankId e x.array x.bank), x.set, p, sense, clr, bipolar,
      s.cloakInputs e block x.set sense g.stage.elems, g.stage.poison.any id, [], issued⟩
    let s1 := s.setEngine e { g with ops := g.ops ++ [op] }
    if isMatch && !sense then s1.event 0x5011 (arrayHandle e x.array.val) else s1

/-- EVAL starts one array operation on every engine of the mask; it stands at cc 0 of a slot (R225, R226). -/
def execEval (t : TileId) (w : WordTag) (emask : BitVec 16) (block : BitVec 11) (pw : Fin 4)
    (matchSense clr bipolar : Bool) (str : BitVec 6) (badEntries : BitVec 16) (s : State) :
    Host.Outcome State Fault Refusal :=
  .next (s.issue t w .data (evalOk pw matchSense bipolar && decide ((s.tile t).phase = 0)) fun s =>
    let b := s.operand t 2048 block.toNat str
    let c := (s.tile t).pcyc
    (maskEngines t emask).foldl (fun s e =>
      s.evalEngine e b (planesOf pw) matchSense clr bipolar (badEntries.getLsbD (e.val % 16)) c) s)

/-- CLEAR zeroes the lanes and their marks (R229). -/
def execClear (t : TileId) (w : WordTag) (emask : BitVec 16) (s : State) : Host.Outcome State Fault Refusal :=
  .next (s.issue t w .data true fun s =>
    (maskEngines t emask).foldl (fun s e => s.modEngine e fun g => { g with lanes := [], pairLanes := false }) s)

/-! ### ADD (R70, R228) -/

/-- Place of logical lane k in an engine: the output stage applies the inverse permutation (R173). -/
def State.lanePlace (s : State) (e : EngineId) (k : Nat) : Nat :=
  if (s.engine e).pairLanes then (if k < 128 then (s.pairPerm (engineDie e)).getD k 0 else k)
  else (s.stringPerm (engineDie e)).getD k 0

def State.logicalLane (s : State) (e : EngineId) (k : Nat) : Lane := mget Lane.zero (s.engine e).lanes (s.lanePlace e k)

/-- The saturation flag of logical lanes ks of an engine is set (R68, R70). -/
def State.flagLanes (s : State) (e : EngineId) (ks : List Nat) : State :=
  s.modEngine e fun g => { g with
    lanes := ks.foldl (fun m k => mmod Lane.zero m (s.lanePlace e k) fun l => { l with sat := true }) g.lanes }

/-- The exact sum of lane k over the engines, saturated once, with its poison and whether a saturation is delivered. -/
def State.laneSum (s : State) (es : List EngineId) (k : Nat) : Int × Bool × Bool × Bool :=
  let ls := es.map fun e => s.logicalLane e k
  let x := (ls.map fun l => sint 32 l.val.toNat).foldl (· + ·) 0
  let y := sat32 x
  (y, ls.any fun l => l.poison, decide (x ≠ y), decide (x ≠ y) || ls.any fun l => l.sat)

/-- ADD: four beats of 64 sums; the first arrives 4 cc after the issue, the others one per cc (R228). A row beat is written in
the cycle of its arrival and visible in the next. A sum that saturates sets the flag of its lane in every engine of the mask, and
0x2012 carries the lowest engine of the mask (DESIGN CHOICE, log 94: R70 says the lane's flag and names no engine). -/
def execEngAdd (t : TileId) (w : WordTag) (emask : BitVec 16) (toRows : Bool) (addr : BitVec 13) (str : BitVec 6)
    (s : State) : Host.Outcome State Fault Refusal :=
  .next (s.issue t w .data (engAddOk toRows (BitVec.ofNat 13 (s.operand t 8192 addr.toNat str))) fun s =>
    let es := maskEngines t emask
    let a := s.operand t 8192 addr.toNat str
    let sums := (List.range 256).map fun k => s.laneSum es k
    let beat : Nat → VReg := fun i => vecBuild 32 64 (fun k => s.freeElem (64 * i + k))
      (fun k => .clean (uint 32 ((sums.getD (64 * i + k) (0, false, false, false)).1)))
      (fun k => (sums.getD (64 * i + k) (0, false, false, false)).2.1)
    let sat : Nat → TileFlags := fun i =>
      if ((sums.drop (64 * i)).take 64).any fun q => q.2.2.2 then TileFlags.satOnly else TileFlags.zero
    let s1 := (List.range 4).foldl (fun s i => s.modTile t fun x =>
      if toRows then x.land (5 + i) (.row (a + i) (beat i).toRow TileFlags.zero true)
      else x.land (4 + i) (.vreg (Fin.ofNat 32 (a + i)) (beat i) (sat i))) s
    let full := (List.range 256).filter fun k => (sums.getD k (0, false, false, false)).2.2.1
    let s2 := match es with
      | e :: _ => if full.isEmpty then s1 else (es.foldl (fun (s : State) e => s.flagLanes e full) s1).event 0x2012 (engineHandle e)
      | [] => s1
    s2.takeFree)

/-! ### The slot (R60 to R63) -/

/-- Bit p of a two's-complement element. -/
def planeBit (x : Int) (p : Nat) : Bool := decide ((x / (2 ^ p : Nat)) % 2 = 1)

/-- Rows that plane p selects. -/
def planeRows (xs : List Int) (p : Nat) : List Bool := xs.map fun x => planeBit x p

def popcount (bs : List Bool) : Nat := (bs.filter id).length

/-- Bias of the low string of a pair, in 1/256 LSB (R72). -/
def loBias (rows : List Bool) (tempo : List Nat) : Int :=
  rdiv (8 * (((List.range 4).map fun sg =>
    popcount ((rows.drop (32 * sg)).take 32) * ftabAt (tempo.getD sg 0)).foldl (· + ·) 0 : Nat)) 64

/-- A replica fault (R62). -/
def tdcFault (c : TdcCapture) : Bool :=
  decide (c.cmax.toNat < c.cmin.toNat + 2048) || decide (c.cmin = 0) || decide (c.cmax = 4095)

/-- One bit-plane sum before the clamp (R61): G and O are the trims of the string, `bias` that of R72. -/
def planeSum (c : TdcCapture) (n zq : Nat) (gq : Nat) (oq bias : Int) (j : Nat) : Int :=
  let a := rdiv (((c.codes.getD j 0).toNat - c.cmin.toNat : Int) * 1048576) (c.cmax.toNat - c.cmin.toNat : Nat)
  let b := a - (n * zq : Nat)
  let t := rshift (b * (gq : Int)) 14 + oq + bias
  rdiv t 256

/-- Values of R114 that a slot uses: Z, and per string the trims g and O. -/
structure Trims where
  zq : Nat
  gain : List Nat
  offset : List Int
  deriving DecidableEq, Repr

/-- The engine part of a band; nominal values where it is not valid (R60, R115). -/
def EnginePart.gain (p : EnginePart) (j : Nat) : Nat := if p.valid then p.gains.getD j 16384 else 16384
def EnginePart.offset (p : EnginePart) (j : Nat) : Int := if p.valid then p.offsets.getD j 0 else 0

/-- Trims of a bank's slot: Z of its array part, and G from the gain of the recorded band and the fine code (R89, R114). -/
def State.bankTrims (s : State) (b : Nat) : Trims :=
  let k := s.bank b
  let part := mget EnginePart.nominal (s.engine (bankEngine b)).parts k.part.band
  ⟨k.part.z, (List.range 256).map fun j => (rdiv ((part.gain j * ftqAt (k.contents.fine.getD j 0) : Nat) : Int) 16384).toNat,
    (List.range 256).map fun j => part.offset j⟩

/-- The 256 sums of a slot. -/
def slotSums (c : TdcCapture) (tr : Trims) (n : Nat) (bias : Nat → Int) : PlaneSums :=
  if tdcFault c then ⟨List.replicate 256 0, true, []⟩
  else
    let raw := (List.range 256).map fun j => planeSum c n tr.zq (tr.gain.getD j 16384) (tr.offset.getD j 0) (bias j) j
    ⟨raw.map (clampInt (-2048) 2048), false,
      (List.range 256).filter fun j => decide (clampInt (-2048) 2048 (raw.getD j 0) ≠ raw.getD j 0)⟩

def satAdd32 (a : W32) (n : Nat) : W32 := BitVec.ofNat 32 (min 0xFFFFFFFF (a.toNat + n))

/-- Clamped sums are counted; the first on an engine in a frame raises 0x2011 (R63, R127). A replica fault raises 0x2010
(R62). -/
def State.slotEvents (s : State) (e : EngineId) (h : Handle) (p : PlaneSums) : State :=
  let s1 := if p.poison then s.event 0x2010 h else s
  if p.clamped.isEmpty then s1
  else (s1.modEngine e fun g => { g with acc := { g.acc with clamped := satAdd32 g.acc.clamped p.clamped.length } }).event
    0x2011 h

/-- Start of the slot that an engine is in. -/
def State.slotClock (s : State) (e : EngineId) : Nat := (s.die (engineDie e)).clock

/-- Programme cycle in which plane k of an operation is captured: plane 0 is launched 4 cc after the issue, and each plane takes a
slot (R65, R182). -/
def ArrayOp.captureAt (o : ArrayOp) (k : Nat) : Nat := o.issued + 4 * k + 7

/-- Programme cycle in which the lanes of an operation are updated: 5 cc after the capture of its last plane (R182). -/
def ArrayOp.updateAt (o : ArrayOp) : Nat := o.issued + 4 * o.p + 8

/-- ARRAY_SLOT: the next plane of the oldest operation that still has one is captured, in its cycle (R61, R65, R182). A held group
evaluates nothing (R57). -/
def execArraySlot (e : EngineId) (c : TdcCapture) (s : State) : Host.Outcome State Fault Refusal :=
  .next (
    let g := s.engine e
    let t := engineTile e
    if !s.awake || s.frozen t then s else
    match g.ops.findIdx? (fun o => decide (o.planes.length < o.p)) with
    | none => s
    | some i =>
      match g.ops[i]? with
      | none => s
      | some o =>
        if (s.tile t).pcyc < o.captureAt o.planes.length then s else
        let push : PlaneSums → State → State := fun p s => s.modEngine e fun g =>
          { g.issue (s.slotClock e) with ops := g.ops.set i { o with planes := o.planes ++ [p] } }
        match o.bank with
        | none => push ⟨List.replicate 256 0, true, []⟩ s
        | some b =>
          let rows := planeRows o.inputs o.planes.length
          let k := (s.bank b).contents
          let n := if o.matchSense then 128 else popcount rows
          let bias : Nat → Int := fun j => if o.set = .pair8 ∧ j % 2 = 1 then loBias rows (k.tempo.getD j []) else 0
          let p := slotSums c (s.bankTrims b) n bias
          push p (s.slotEvents e (arrayHandle e (b % 2048 / 2)) p))

/-! ### Shift-add and the safety net (R65 to R77, R131) -/

/-- What plane value string or pair k contributes, before the plane's shift: the match count or bipolar value (R77), the pair
sum (R73), the binary sum divided by 8 (R75), or the sum. -/
def planeValue (o : ArrayOp) (p : PlaneSums) (k : Nat) : Int :=
  let sj := p.sums.getD k 0
  if o.matchSense then
    let m := clampInt 0 128 (rdiv (sj + 1024) 16)
    if o.bipolar then 2 * m - 128 else m
  else match o.set with
    | .pair8 => 16 * p.sums.getD (2 * k) 0 + p.sums.getD (2 * k + 1) 0
    | .binary => rdiv sj 8
    | _ => sj

/-- Lanes that an operation writes (R73). -/
def ArrayOp.laneCount (o : ArrayOp) : Nat := if o.set = .pair8 ∧ o.bank.isSome then 128 else 256

/-- Exponent of lane k. -/
def ArrayOp.exponent (o : ArrayOp) (c : Contents) (k : Nat) : Nat :=
  if o.matchSense then 0 else c.exponent.getD (if o.set = .pair8 then 2 * k else k) 0

/-- A saturating addition to a lane (R68). -/
def Lane.add (l : Lane) (v : Int) : Lane :=
  let x := sint 32 l.val.toNat + v
  { l with val := BitVec.ofNat 32 (uint 32 (sat32 x)), sat := l.sat || decide (sat32 x ≠ x) }

/-- The shift-add of all planes into one lane: the last of several planes counts negative (R65). -/
def planesInto (o : ArrayOp) (x k : Nat) : Nat → List PlaneSums → Lane → Lane
  | _, [], l => l
  | pl, p :: ps, l =>
    let v := planeValue o p k * (2 ^ (x + pl) : Nat)
    let l1 := l.add (if pl + 1 = o.p ∧ 1 < o.p then -v else v)
    let hit := p.clamped.any fun j => decide ((if o.set = .pair8 then j / 2 else j) = k)
    planesInto o x k (pl + 1) ps { l1 with poison := l1.poison || p.poison, range := l1.range || hit }

/-- Fields of a safety-net entry (R129). -/
structure NetWord where
  kind : Nat
  row : Nat
  string : Nat
  neg : Bool
  value : Int
  deriving DecidableEq, Repr

def NetWord.parse (w : W32) : NetWord :=
  let x := w.toNat
  ⟨bitsOf x 30 2, bitsOf x 23 7, bitsOf x 15 8, decide (bitsOf x 14 1 = 1), sint 8 (bitsOf x 0 8)⟩

/-- Lane and term of an entry (R131). -/
def netTerm (o : ArrayOp) (c : Contents) (e : NetWord) : Nat × Int :=
  let a := o.inputs.getD e.row 0
  let x := c.exponent.getD e.string 0
  let t := (c.tempo.getD e.string []).getD (e.row / 32) 0
  let core := rshift (e.value * a * (ftabAt t : Int) * (ftqAt (c.fine.getD e.string 0) : Int) * (2 ^ x : Nat)) 29
  let sg : Int := if e.neg then -1 else 1
  match o.set with
  | .pair8 => (e.string / 2, (if e.string % 2 = 1 then 1 else 16) * core)
  | .binary =>
    if o.matchSense then
      (e.string, (if decide (a % 2 = 1) = decide (0 < e.value) then 1 else -1) * (if o.bipolar then 2 else 1))
    else (e.string, Int.tdiv e.value 16 * a * (2 ^ x : Nat))
  | _ => (e.string, sg * core)

/-- The lanes after an operation. `bad`: an entry of the list was uncorrectable, which poisons every lane written (R131). -/
def State.operateLanes (s : State) (o : ArrayOp) (b : Nat) (bad : Bool) (lanes : SMap Lane) : SMap Lane :=
  let k := s.bank b
  let pool := (s.tile (engineTile (bankEngine b))).pool
  let badPool := (s.tile (engineTile (bankEngine b))).badPool
  let idx := ((List.range k.netCount).map fun i => k.netBase + i).filter fun i => !badPool.contains i
  let terms := idx.map fun i => netTerm o k.contents (NetWord.parse (mget 0 pool i))
  let start := if o.clr then [] else lanes
  (List.range o.laneCount).foldl (fun m k1 =>
    let l1 := planesInto o (o.exponent k.contents k1) k1 0 o.planes (mget Lane.zero start k1)
    let net := ((terms.filter fun q => decide (q.1 = k1)).map Prod.snd).foldl (· + ·) 0
    let l2 := if terms.any fun q => decide (q.1 = k1) then l1.add net else l1
    let l3 := if o.poison then
        { l2 with val := BitVec.ofNat 32 (s.freeElem k1), poison := true }
      else { l2 with poison := l2.poison || bad }
    mset Lane.zero m k1 l3) start

/-- An addition of the operation saturates a lane, marked before or not (R68). -/
def State.operationSaturates (s : State) (o : ArrayOp) (b : Nat) (bad : Bool) (lanes : SMap Lane) : Bool :=
  let after := s.operateLanes o b bad (lanes.map fun q => (q.1, { q.2 with sat := false }))
  (List.range 256).any fun k => (mget Lane.zero after k).sat

/-- The lanes of an operation without a bank: 0 with poison. The marks of a lane stay until it is cleared (R59, R63, R68). -/
def ArrayOp.unboundLanes (o : ArrayOp) (lanes : SMap Lane) : SMap Lane :=
  let start := if o.clr then [] else lanes
  (List.range 256).foldl (fun m k => mset Lane.zero m k { mget Lane.zero start k with val := 0, poison := true }) start

/-- LANE_UPDATE: the oldest operation, once all of its planes are captured, enters the lanes with its safety-net term, in its cycle
(R68, R131, R182). `badEntries`: pool entries of the bank's list that SECDED cannot correct in this operation. -/
def execLaneUpdate (e : EngineId) (badEntries : List Nat) (s : State) : Host.Outcome State Fault Refusal :=
  .next (
    let g := s.engine e
    let t := engineTile e
    if !s.awake || s.frozen t then s else
    match g.ops with
    | [] => s
    | o :: rest =>
      if o.planes.length < o.p ∨ (s.tile t).pcyc < o.updateAt then s else
      match o.bank with
      | none =>
        s.setEngine e { g with ops := rest, pairLanes := false, lanes := o.unboundLanes g.lanes }
      | some b =>
        let mine := badEntries.filter fun i =>
          decide ((s.bank b).netBase ≤ i) && decide (i < (s.bank b).netBase + (s.bank b).netCount)
        let s0 := if mine.isEmpty then s
          else s.modTile t fun x => { x with badPool := x.badPool ++ mine.filter fun i => !x.badPool.contains i }
        let listBad := (s0.tile t).badPool.any fun i =>
          decide ((s.bank b).netBase ≤ i) && decide (i < (s.bank b).netBase + (s.bank b).netCount)
        let after := s0.operateLanes o b listBad g.lanes
        let s1 := s0.setEngine e { g with ops := rest, lanes := after, pairLanes := decide (o.set = .pair8) }
        let s2 := if listBad then s1.event 0x3010 (tileHandle t) else s1
        let s3 := if s0.operationSaturates o b listBad g.lanes then s2.event 0x2012 (engineHandle e) else s2
        if o.poison then s3.takeFree else s3)

end Sys2Proof.Machine
end

