-- ==== Sys2Proof/Machine/Move.lean ====
section
/-!
DEFINITION. The MOV field (spec/08, spec/09): MOVE between tiles, transfers through the hub, tickets, and the events that end
them.
-/
namespace Sys2Proof.Machine

/-- A movement descriptor of the running container. -/
def State.desc (s : State) (n : BitVec 12) : Option MoveDesc :=
  match s.prog.running with
  | some c => c.descs[n.toNat]?
  | none => none

/-- Where a descriptor's done add goes (R238): with done scope 0 to the target tile of a MOVE and to the issuing tile
otherwise. -/
def State.doneTo (s : State) (t : TileId) (d : MoveDesc) : DoneTo :=
  match d.doneScope with
  | .own =>
    match d.kind, Handle.tile? d.target with
    | .move, some u => .tile u d.doneTs d.doneValue
    | _, _ => .tile t d.doneTs d.doneValue
  | .group slot => .tiles (s.groupSlot slot.val) d.doneTs d.doneValue
  | .global => .global d.doneTs d.doneValue
  | .none => .none

/-- remote of a descriptor under its four strides (R238). -/
def State.remoteOf (s : State) (t : TileId) (d : MoveDesc) : Nat :=
  formOperand (2 ^ 64) d.remote d.strides (s.tile t).loops

/-- A refused transfer moves nothing; its done add carries poison, with event 0x5032 (R267). -/
def State.refuseTransfer (s : State) (t : TileId) (d : DoneTo) : State :=
  (s.applyDone t d true).event 0x5032 (tileHandle t)

/-- Issue of a MOV field with its descriptor: a descriptor of another kind is refused (R267). -/
def State.withDesc (s : State) (t : TileId) (n : BitVec 12) (k : XKind) (f : MoveDesc → State → State) : State :=
  match s.desc n with
  | none => s
  | some d => if d.kind = k then f d s else s.refuseTransfer t (s.doneTo t d)

/-- Cycles in which an earlier MOVE, sent `age` cycles ago with B1 beats, and one of B2 beats issued now both have a compiled
beat (R263). -/
def beatOverlap (age b1 b2 : Nat) : Nat := min (b1 - age) b2

/-- MOVE: the source reads row k at t + B(k − 1); the target writes it at t + D + B(k) (R262). For each earlier MOVE of its tile
that it overlaps, the tile asks for hold slots, and the pair raises one event (R263). -/
def State.startMove (s : State) (t : TileId) (row : Nat) (d : MoveDesc) (upset : List (Nat × BitVec 32)) : State :=
  match Handle.tile? d.target with
  | none => s.refuseTransfer t (s.doneTo t d)
  | some u =>
    let x := s.tile t
    let id := s.fabric.nextTag
    let b := beats d.compress d.count
    let os := (x.moves.map fun m => beatOverlap m.age (beats m.compress m.count) b).filter fun o => decide (0 < o)
    let m : MoveOp := {
      id := id, age := 0, row := row, count := d.count, k := 0, compress := d.compress, target := u, remote := s.remoteOf t d
      upset := upset, sent := 0, tail := false, done := s.doneTo t d }
    let s1 := s.setTile t { x with moves := x.moves ++ [m], holdDebt := os.foldl (fun h o => max h ((o + 3) / 4)) x.holdDebt }
    let s2 := { s1 with fabric := { s1.fabric with
      nextTag := id + 1
      tainted := if x.framePoison then s1.fabric.tainted ++ [(t, id)] else s1.fabric.tainted } }
    os.foldl (fun s _ => s.raise 0x5020 (tileHandle t) (eventParam 0 x.pcyc) 0xFFFF) s2

/-- MOVE. `upset` names by row the words of the source that SECDED cannot correct (R192). -/
def execMove (t : TileId) (w : WordTag) (desc : BitVec 12) (row : BitVec 13) (str : BitVec 6) (upset : List (Nat × BitVec 32))
    (s : State) : Host.Outcome State Fault Refusal :=
  .next (s.issue t w .data true fun s =>
    s.withDesc t desc .move fun d s => s.startMove t (s.operand t 8192 row.toNat str) d upset)

/-! ### Transfers through the hub (R266 to R268) -/

/-- Bytes of a transfer's extent. -/
def extentOf (count : Nat) (compress : Bool) : Nat := if compress then count * 260 else count * 256

/-- The extent of LOAD and STORE lies in the programme area, that of HLOAD and HSTORE in the routine area, at a multiple of
8 (R253, R266). -/
def State.extentOk (s : State) (k : XKind) (remote count : Nat) (compress : Bool) : Bool :=
  let n := extentOf count compress
  decide (remote % 8 = 0) &&
    (match k with
      | .load | .store => decide (s.prog.areaBase ≤ remote) && decide (remote + n ≤ s.prog.areaBase + s.prog.areaSize)
      | .hload | .hstore => decide (routineArea ≤ remote) && decide (remote + n ≤ hubSize)
      | _ => true)

/-- Issue of an asynchronous transfer: at most 16 are outstanding on a tile (R267). -/
def State.startTransfer (s : State) (t : TileId) (row : Nat) (d : MoveDesc) : State :=
  let x := s.tile t
  let remote := s.remoteOf t d
  if 16 ≤ x.transfers.length ∨ !s.extentOk d.kind remote d.count d.compress then s.refuseTransfer t (s.doneTo t d)
  else
    let tr : Transfer := {
      tag := s.fabric.nextTag, kind := d.kind, row := row, remote := remote, count := d.count, compress := d.compress
      landed := 0, poison := x.framePoison, taint := x.framePoison, done := s.doneTo t d }
    let s1 := s.setTile t { x with transfers := x.transfers ++ [tr] }
    { s1 with fabric := { s1.fabric with nextTag := s1.fabric.nextTag + 1 } }

def execLoad (t : TileId) (w : WordTag) (desc : BitVec 12) (row : BitVec 13) (str : BitVec 6) (s : State) :
    Host.Outcome State Fault Refusal :=
  .next (s.issue t w .data true fun s =>
    s.withDesc t desc .load fun d s => s.startTransfer t (s.operand t 8192 row.toNat str) d)

def execStore (t : TileId) (w : WordTag) (desc : BitVec 12) (row : BitVec 13) (str : BitVec 6) (s : State) :
    Host.Outcome State Fault Refusal :=
  .next (s.issue t w .data true fun s =>
    s.withDesc t desc .store fun d s => s.startTransfer t (s.operand t 8192 row.toNat str) d)

def execHload (t : TileId) (w : WordTag) (desc : BitVec 12) (row : BitVec 13) (str : BitVec 6) (s : State) :
    Host.Outcome State Fault Refusal :=
  .next (s.issue t w .data true fun s =>
    s.withDesc t desc .hload fun d s => s.startTransfer t (s.operand t 8192 row.toNat str) d)

def execHstore (t : TileId) (w : WordTag) (desc : BitVec 12) (row : BitVec 13) (str : BitVec 6) (s : State) :
    Host.Outcome State Fault Refusal :=
  .next (s.issue t w .data true fun s =>
    s.withDesc t desc .hstore fun d s => s.startTransfer t (s.operand t 8192 row.toNat str) d)

/-! ### Tickets (R255 to R258) -/

/-- TICKET: to the issuing tile it opens rows and applies its done add at once; to another tile it sends a request
(R256). -/
def State.startTicket (s : State) (t : TileId) (d : MoveDesc) : State :=
  let first := s.remoteOf t d
  match Handle.tile? d.target with
  | none => s.refuseTransfer t (s.doneTo t d)
  | some u =>
    if u = t then
      let s1 := s.modTile t fun x => { x with booth := setBooth x.booth first d.count openRow }
      s1.applyDone t (s.doneTo t d) (s.tile t).framePoison
    else
      let x := s.tile t
      if 16 ≤ x.transfers.length then s.refuseTransfer t (s.doneTo t d)
      else
        let tag := s.fabric.nextTag
        let tr : Transfer := {
          tag := tag, kind := .ticket, row := first, remote := first, count := d.count, compress := false, landed := 0
          poison := x.framePoison, taint := x.framePoison, done := s.doneTo t d }
        let s1 := s.setTile t { x with transfers := x.transfers ++ [tr] }
        { s1 with fabric := { s1.fabric with
            nextTag := tag + 1
            wire := s1.fabric.wire ++ [(u, ⟨t.val, first, d.count, s.doneTo t d, none, some (t, tag)⟩)] } }

def execTicket (t : TileId) (w : WordTag) (desc : BitVec 12) (_row : BitVec 13) (_str : BitVec 6) (s : State) :
    Host.Outcome State Fault Refusal :=
  .next (s.issue t w .data true fun s => s.withDesc t desc .ticket fun d s => s.startTicket t d)

/-- A ticket request leaves its sender's list of transfers, with the poison it was issued under. A tile of a lost die makes no
update (R297). -/
def State.endTicket (s : State) (r : TicketReq) (refused : Bool) : State :=
  match r.transfer with
  | some (t, tag) =>
    let x := s.tile t
    let p := (x.transfers.filter fun tr => decide (tr.tag = tag)).any fun tr => tr.poison
    let s1 := s.setTile t { x with transfers := x.transfers.filter fun tr => decide (tr.tag ≠ tag) }
    if s.tileIn t then s1.applyDone t r.done (refused || p || x.framePoison) else s1
  | none =>
    match r.agent with
    | none => s
    | some tag =>
      if refused then
        let gone := s.agents.filter fun a => decide (a.tag = tag)
        let s1 := { s with
          agents := s.agents.filter fun a => decide (a.tag ≠ tag)
          hd := { s.hd with outvs := s.hd.outvs.erase tag } }
        gone.foldl (fun s a => s.applyHubDone a.done true) s1
      else
        { s with agents := s.agents.map fun a => if a.tag = tag then { a with granted := true } else a }

/-- The events of a refused request: 0x5031 on the tile, and 0x7014 for the HD engine's OUTV (R258, R343). -/
def State.refusalEvents (s : State) (t : TileId) (r : TicketReq) : State :=
  let hd := s.agents.filter fun a => decide (r.agent = some a.tag) && decide (a.holder = 0x101)
  (hd.foldl (fun s a => s.deviceEvent 0x7014 a.unit) s).event 0x5031 (tileHandle t)

/-- A hub agent sends a request for the rows of a write it will make (R256). -/
def State.agentRequest (s : State) (holder unit : Nat) (t : TileId) (first : Nat) (rows : List Row) (d : DoneTo) : State :=
  let tag := s.fabric.nextTag
  { s with
    agents := s.agents ++ [⟨tag, holder, t, first, rows, d, false, unit⟩]
    fabric := { s.fabric with
      nextTag := tag + 1
      wire := s.fabric.wire ++ [(t, ⟨holder, first, rows.length, .none, some tag, none⟩)] } }

/-- A granted agent write: its rows are written in order, then its done add is applied, with poison when a row was
discarded or `poison` says so (R259). -/
def State.agentWrite (s : State) (a : AgentWrite) (poison : Bool) : State :=
  let s1 := { s with agents := s.agents.filter fun b => decide (b.tag ≠ a.tag) }
  let (s2, ok) := s1.remoteWrites a.tile a.holder a.first a.rows
  s2.landHubDone a.done (poison || !ok || a.rows.any Row.anyPoison)

/-- TICKET_REQUEST_RECEIVED: the booth of tile t queues the oldest request on its way, or refuses it (R258). -/
def execTicketRequestReceived (t : TileId) (s : State) : Host.Outcome State Fault Refusal :=
  .next (
    match s.fabric.wire.find? (fun p => decide (p.1 = t)) with
    | none => s
    | some (_, r) =>
      let s1 := { s with fabric := { s.fabric with wire := s.fabric.wire.erase (t, r) } }
      let x := s1.tile t
      if s1.tileIn t ∧ x.regions.works r.first r.count ∧ x.requests.length < 16 then
        s1.setTile t { x with requests := x.requests ++ [r] }
      else (s1.refusalEvents t r).endTicket r true)

/-- Every row of the request is open. -/
def Tile.grantable (x : Tile) (r : TicketReq) : Bool :=
  (List.range r.count).all fun k => decide (x.boothOf (r.first + k) = .opened)

/-- TICKET_GRANT: the oldest request whose rows are all open takes them, and its done add goes back (R257). The booth of a lost
die grants nothing (R297). -/
def execTicketGrant (t : TileId) (s : State) : Host.Outcome State Fault Refusal :=
  .next (
    if !s.tileIn t then s else
    let x := s.tile t
    match x.requests.find? x.grantable with
    | none => s
    | some r =>
      (s.setTile t { x with
        requests := x.requests.erase r
        booth := setBooth x.booth r.first r.count fun _ => .held r.holder }).endTicket r false)

/-! ### Landings and completions -/

/-- A tile of the group still runs the frame programme (R183). -/
def State.groupRuns (s : State) (t : TileId) : Bool :=
  (s.throttleDies (tileDie t)).any fun d => (dieTiles d).any fun u => (s.tile u).running

/-- Programme cycle of the throttle group of a tile: its tiles start together and freeze together (R37, R209). -/
def State.groupCyc (s : State) (t : TileId) : Nat :=
  (s.throttleDies (tileDie t)).foldl (fun m d => (dieTiles d).foldl (fun m u => max m (s.tile u).pcyc) m) 0

/-- A row from the tile's own throttle group while the group runs the programme: it lands in programme time (R183). -/
def State.ownRow (s : State) (t : TileId) (r : FabricRow) : Bool := s.sameGroup r.src t && s.groupRuns t

/-- An own row lands at its compiled programme cycle; the loser of a conflict lands in the hold slot that follows (R183, R196). -/
def State.ownDue (s : State) (t : TileId) (r : FabricRow) : Bool :=
  if r.late then (s.die (tileDie t)).held else !s.frozen t && decide (r.due ≤ s.groupCyc t)

/-- Of two own rows the earlier cycle goes first, and in one cycle the lower holder code (R196). -/
def earlier (a b : FabricRow) : Bool := decide (a.due < b.due) || (decide (a.due = b.due) && decide (a.src.val < b.src.val))

def firstRow (rs : List FabricRow) : Option FabricRow :=
  rs.foldl (fun m r => match m with
    | none => some r
    | some x => if earlier r x then some r else some x) none

/-- The oldest row of each source: the fabric keeps the order of landings from one source (R250). -/
def oldestRows : List FabricRow → List FabricRow
  | [] => []
  | r :: rs => r :: (oldestRows rs).filter fun q => decide (q.src ≠ r.src)

/-- Of unscheduled parties at one port, the first at or after the pointer (R195). -/
def roundRobin (p : Nat) (rs : List FabricRow) : Option FabricRow :=
  let low : Nat → FabricRow → FabricRow → Bool := fun p a b => decide ((a.src.val + 65536 - p) % 65536 < (b.src.val + 65536 - p) % 65536)
  rs.foldl (fun m r => match m with
    | none => some r
    | some x => if low p r x then some r else some x) none

/-- The row from outside the group that lands next, with the cycle of its landing: rows that have arrived by the present cycle,
or by the first cycle in which one does, share the port by the round-robin pointer (R183, R195, R250). -/
def State.outsideRow (s : State) (t : TileId) (rs : List FabricRow) : Option (FabricRow × Nat) :=
  let heads := oldestRows (rs.filter fun r => !s.ownRow t r)
  match heads with
  | [] => none
  | h :: hs =>
    let cycle := max s.now (hs.foldl (fun m r => min m r.arrive) h.arrive)
    (roundRobin (s.tile t).narrowPtr (heads.filter fun r => decide (r.arrive ≤ cycle))).map fun r => (r, cycle)

/-- The ring modules between two neighbouring dies are up; any other pair does not use the ring (R543, R547). -/
def State.ringUp (s : State) (a b : DieId) : Bool :=
  let up : DieId → Nat → Bool := fun d m => (s.die d).modulesUp.getD m false
  if b.val = (a.val + 1) % 16 then up a 3 && up b 2
  else if a.val = (b.val + 1) % 16 then up a 2 && up b 3 else true

/-- A row as Goine delivers it: poisoned when the ring module it takes is down (R547). -/
def State.delivered (s : State) (r : FabricRow) : Row :=
  if s.ringUp (tileDie r.src) (tileDie r.dst) then r.data else r.data.allPoison

/-- A row that leaves the fabric for tile t: it is written under its ticket, and the last row applies the done add, with poison
when a row of the MOVE was poisoned or discarded, or its tile has frame poison (R193, R238, R259, R262). From a row whose header
cannot be trusted on, the rows of a compressed MOVE land poisoned (R270). A tile of a lost die makes no update (R297). -/
def State.landRow (s : State) (t : TileId) (r : FabricRow) : State :=
  let key := (r.src, r.op)
  let lost := r.lost || s.fabric.untrusted.contains key
  let data := if lost then (s.delivered r).allPoison else s.delivered r
  let s1 := { s with fabric := { s.fabric with
    rows := s.fabric.rows.erase r
    untrusted := if lost && !r.last then key :: s.fabric.untrusted.filter fun k => decide (k ≠ key)
      else s.fabric.untrusted.filter fun k => decide (k ≠ key) } }
  let (s2, ok) := if s1.tileIn t then s1.remoteWrite t r.src.val r.row data else (s1, false)
  let bad := !ok || data.anyPoison
  if r.last then
    let s3 := { s2 with fabric := { s2.fabric with tainted := s2.fabric.tainted.filter fun k => decide (k ≠ key) } }
    if s3.tileIn r.src then
      s3.landDone r.src r.done (bad || s2.fabric.tainted.contains key || (s.tile r.src).framePoison)
    else s3
  else if bad then { s2 with fabric := { s2.fabric with tainted := s2.fabric.tainted ++ [key] } } else s2

/-- Two own rows land in one cycle: the others are late, and the tile asks for a hold slot (R196). -/
def State.landOwn (s : State) (t : TileId) (r : FabricRow) : State :=
  let rival : FabricRow → Bool := fun q => decide (q.dst = t) && decide (q.due = r.due) && decide (q ≠ r) && s.ownRow t q && !q.late
  if !r.late && s.fabric.rows.any rival then
    let s1 := { s with fabric := { s.fabric with
      rows := s.fabric.rows.map fun q => if rival q then { q with late := true } else q } }
    ((s1.landRow t r).modTile t fun x => { x with holdDebt := max x.holdDebt 1 }).raise 0x5020 (tileHandle t)
      (eventParam 0 r.due) 0xFFFF
  else s.landRow t r

/-- MOVE_ROW_LANDING: the next MOVE row for tile t is written. A row of the tile's own group is scheduled and goes first, at its
compiled programme cycle; rows of a frozen group stay in the edge FIFO, and rows from outside pass them (R183, R185, R186,
R250). -/
def execMoveRowLanding (t : TileId) (s : State) : Host.Outcome State Fault Refusal :=
  .next (
    let rs := s.fabric.rows.filter fun r => decide (r.dst = t)
    match firstRow (rs.filter fun r => s.ownRow t r && s.ownDue t r) with
    | some r => s.landOwn t r
    | none =>
      match s.outsideRow t rs with
      | none => s
      | some (r, cycle) =>
        let s1 := s.modTile t fun x => { x with narrowPtr := r.src.val + 1 }
        { s1 with now := cycle }.landRow t r)

/-- The beats that Goine delivered poisoned lie in a stream of `n` bytes at byte a: beat b of row k holds four stream words, from
the word in which the row's header starts (R270, R545). -/
def ByteMem.taintBeats (m : ByteMem) (a n : Nat) (bs : List (Nat × Nat)) : ByteMem :=
  bs.foldl (fun m b =>
    let w := m.streamAt a b.1 / 8 * 8 + 32 * b.2
    m.taint w (min 32 (a + n - w))) m

/-- Row `k` of a LOAD or HLOAD as its memory holds it and Goine delivers it. -/
def State.transferRow (s : State) (tr : Transfer) (k : Nat) : Row :=
  let m := if tr.kind = .load then s.lpddr else s.hub
  let r :=
    if tr.compress then ((m.taintBeats tr.remote (extentOf tr.count true) tr.beats).readStream tr.remote false tr.count).getD k Row.zero
    else (tr.beats.filter fun b => decide (b.1 = k)).foldl (fun r b => r.taintBeat b.2 15) (m.readRow (tr.remote + 256 * k))
  if tr.taint then r.allPoison else r

/-- The next row of a LOAD or HLOAD lands; a tile under frame poison takes it poisoned (R193, R268). -/
def State.landTransferRow (s : State) (t : TileId) (tag : Nat) : State :=
  let x := s.tile t
  match x.transfers.find? (fun tr => decide (tr.tag = tag)) with
  | none => s
  | some tr =>
    if (tr.kind = .load ∨ tr.kind = .hload) ∧ tr.landed < tr.count then
      let r := x.taint (s.transferRow tr tr.landed)
      let tr' := { tr with landed := tr.landed + 1, poison := tr.poison || r.anyPoison }
      (s.setTile t { x with transfers := x.transfers.map fun y => if y.tag = tag then tr' else y }).narrowWrite t
        (tr.row + tr.landed) r
    else s

def State.landRest (s : State) (t : TileId) (tag : Nat) : Nat → State
  | 0 => s
  | n + 1 => (s.landTransferRow t tag).landRest t tag n

/-- The rows of a STORE or HSTORE as the narrow port reads them (R269), under the frame poison of their tile (R193). -/
def State.sourceRows (s : State) (t : TileId) (tr : Transfer) : List Row :=
  (List.range tr.count).map fun k =>
    let r := (s.tile t).taint ((s.tile t).row (tr.row + k))
    if tr.taint then r.allPoison else r

/-- The rows of a STORE or HSTORE go to memory. -/
def State.storeRows (s : State) (t : TileId) (tr : Transfer) : State :=
  let rows := s.sourceRows t tr
  let write : ByteMem → ByteMem := fun m =>
    if tr.compress then
      let bs := compressRows rows
      (m.writeStream tr.remote bs).taintBeats tr.remote bs.length tr.beats
    else ((List.range tr.count).zip rows).foldl (fun m p => m.writeRow (tr.remote + 256 * p.1)
      ((tr.beats.filter fun b => decide (b.1 = p.1)).foldl (fun r b => r.taintBeat b.2 15) p.2)) m
  match tr.kind with
  | .store => { s with lpddr := write s.lpddr }
  | .hstore => { s with hub := write s.hub }
  | _ => s

/-- Poison among the rows that a STORE moves. -/
def State.storePoison (s : State) (t : TileId) (tr : Transfer) : Bool :=
  (tr.kind = .store || tr.kind = .hstore) && (!tr.beats.isEmpty || (s.sourceRows t tr).any Row.anyPoison)

/-- NARROW_ROW_WRITE: the next row of the named transfer of tile t, or the next row that waits at its narrow port, is
written (R250); the round-robin pointer passes its writer (R195). A row with a writer needs that writer's ticket (R259). -/
def execNarrowRowWrite (t : TileId) (transfer : Option Nat) (s : State) : Host.Outcome State Fault Refusal :=
  .next (
    if !s.tileIn t then s else
    match transfer with
    | some k =>
      match (s.tile t).transfers[k]? with
      | some tr => (s.modTile t fun x => { x with narrowPtr := t.val + 1 }).landTransferRow t tr.tag
      | none => s
    | none =>
      match (s.tile t).narrowIn with
      | [] => s
      | r :: rs =>
        let s1 := s.modTile t fun x => { x with narrowIn := rs, narrowPtr := r.writer.getD t.val + 1 }
        match r.writer with
        | none => (s1.narrowWrite t r.row r.data).landHubDone r.done r.data.anyPoison
        | some w =>
          let (s2, ok) := s1.remoteWrite t w r.row r.data
          s2.landHubDone r.done (!ok || r.data.anyPoison))

/-- Words that a transfer's reads find uncorrectable. Of a LOAD or HLOAD they stay poisoned in their memory, and the rows land
again from there; of a STORE or HSTORE they are words of its source rows (R191, R192). `upset` counts 64-bit words from the
start of the extent, or from word 0 of the first source row. -/
def State.upsetTransfer (s : State) (t : TileId) (tr : Transfer) (upset : List Nat) : State :=
  let taint : ByteMem → ByteMem := fun m => upset.foldl (fun m w => m.setPoison (tr.remote + 8 * w) true) m
  let again : State → State := fun s => s.modTile t fun x => { x with
    transfers := x.transfers.map fun y => if y.tag = tr.tag then { y with landed := 0 } else y }
  match tr.kind with
  | .load => again ({ s with lpddr := taint s.lpddr }.event 0x3014 (tileHandle t))
  | .hload => again ({ s with hub := taint s.hub }.event 0x3010 hubHandle)
  | _ => upset.foldl (fun s w => (s.readRow t (tr.row + w / 32) (BitVec.ofNat 32 (2 ^ (w % 32)))).1) s

/-- Corrected errors of a transfer's reads: by channel for LPDDR5X, by tile for source rows (R194, R540). -/
def State.fixedTransfer (s : State) (t : TileId) (tr : Transfer) (fixed : List Nat) : State :=
  match tr.kind with
  | .load => { s with lpddrFixed := fixed.foldl (fun m w =>
      mmod 0 m ((tr.remote + 8 * w) / 256 % 16) fun n => min 0xFFFFFFFF (n + 1)) s.lpddrFixed }
  | .store | .hstore => s.countFixed t fixed.length
  | _ => s

/-- TRANSFER_DONE: the k-th outstanding transfer of tile t completes with its done add, which carries the poison of every row
it moved, and its tile's frame poison (R193, R268); that of a LOAD or HLOAD follows its last row by one cycle (R286). A ticket
request ends through its grant, not here; a tile of a lost die makes no update (R297). -/
def execTransferDone (t : TileId) (k : Nat) (upset fixed : List Nat) (s : State) : Host.Outcome State Fault Refusal :=
  .next (
    match (s.tile t).transfers[k]? with
    | none => s
    | some tr =>
      if decide (tr.kind = .ticket) || !s.tileIn t then s else
      let lands := decide (tr.kind = .load ∨ tr.kind = .hload)
      let s0 := (if upset.isEmpty then s else s.upsetTransfer t tr upset).fixedTransfer t tr fixed
      let s1 := if lands then s0.landRest t tr.tag tr.count else s0.storeRows t tr
      let x := s1.tile t
      let p := (x.transfers.filter fun y => decide (y.tag = tr.tag)).any fun y => y.poison
      let s2 := s1.setTile t { x with transfers := x.transfers.filter fun y => decide (y.tag ≠ tr.tag) }
      let bad := p || s0.storePoison t tr || x.framePoison
      if lands then s2.landDone t tr.done bad else s2.applyDone t tr.done bad)

end Sys2Proof.Machine
end

