-- ==== Sys2Proof/Machine/Measure.lean ====
section
/-!
DEFINITION. Unscheduled evaluations (spec/03, spec/05, spec/06): the reference arrays and the strongman vectors, the
maintenance tasks of an engine, calibration measurements and their fits, drift scans, and the slots of a write lane.
-/
namespace Sys2Proof.Machine

/-- The rational nearest integer, ties away from zero. -/
def ratRound (x : Rat) : Int := if 0 ≤ x then (x + 1 / 2).floor else -(-x + 1 / 2).floor

def absRat (x : Rat) : Rat := if x < 0 then -x else x

/-! ### Levels (R52 to R54, R72, R135 to R141) -/

/-- Level of a code at f = 1, in 1/1000 LSB. -/
def levelOf (set : LevelSet) (code : Nat) : Int :=
  match set with
  | .bell => 8 * bellTable.getD code 0
  | .binary => if code = 1 then 8000 else -8000
  | _ => 1000 * ((code : Int) - 8)

/-- Level step toward zero at f = 1, in 1/1000 LSB. -/
def levelStep (set : LevelSet) (code : Nat) : Int :=
  match set with
  | .bell => if code = 7 ∨ code = 15 then 8 * 61
      else 8 * ((bellTable.getD code 0).natAbs - (bellTable.getD (if code < 7 then code + 1 else code - 1) 0).natAbs : Int)
  | .binary => 16000
  | _ => 1000

def Contents.code (k : Contents) (i j : Nat) : Nat := (k.codes.getD j []).getD i 0

/-- Tempo factor of the segment of row i in string j; a binary cell has none (R54). -/
def Contents.tempoFactor (k : Contents) (i j : Nat) : Rat :=
  if k.set = .binary then 1 else (ftabAt ((k.tempo.getD j []).getD (i / 32) 0) : Rat) / 16384

/-- Fine factor φ of a string (R89). -/
def Contents.fineFactor (k : Contents) (j : Nat) : Rat := (ftqAt (k.fine.getD j 0) : Rat) / 16384

/-- Nominal excess of a cell in LSB (R52 to R54). -/
def Contents.excess (k : Contents) (i j : Nat) : Rat := (levelOf k.set (k.code i j) : Rat) / 1000 * k.tempoFactor i j

/-! ### Reference arrays (R48) -/

def refSet (r : Nat) : LevelSet :=
  match r with
  | 1 => .uniform4
  | 2 => .binary
  | _ => .bell

/-- Tempo code of every segment; reference 2 has none. -/
def refTempo (r : Nat) : Nat := if r = 3 then 63 else if r = 2 then 0 else 32

/-- Ones in the binary form of a number below 2^n. -/
def onesOf : Nat → Nat → Nat
  | 0, _ => 0
  | n + 1, x => x % 2 + onesOf n (x / 2)

/-- Code of the cell at row i, string j. -/
def refCode (r i j : Nat) : Nat :=
  match r with
  | 0 => (i + j) % 15
  | 1 => (i + 3 * j) % 16
  | 2 => if onesOf 8 (i &&& j) % 2 = 0 then 1 else 0
  | _ => if i % 2 = 0 then 14 else 0

/-- Contents of reference array r: exponents are 0, and there is no fine code (R48, R115). -/
def refContents (r : Nat) : Contents where
  set := refSet r
  gs := 0
  engine := 0
  block := 0
  codes := (List.range 256).map fun j => (List.range 128).map fun i => refCode r i j
  tempo := List.replicate 256 (List.replicate 4 (refTempo r))
  exponent := List.replicate 256 0
  fine := List.replicate 256 0

/-! ### Strongman vectors (R126, R127) -/

/-- Rows of the plane of vector V0 to V7. -/
def vectorRows (v : Nat) : List Bool :=
  (List.range 128).map fun i =>
    match v with
    | 0 | 2 | 4 => true
    | 1 | 5 => false
    | 3 | 6 => decide (i % 2 = 0)
    | _ => decide (i % 2 = 1)

/-- Reference array of vector V0 to V7. -/
def vectorRef (v : Nat) : Nat := if v < 2 then 0 else if v < 4 then 1 else if v < 6 then 2 else 3

def vectorMatch (v : Nat) : Bool := v = 4 || v = 5

/-- Expected excess sums of V0 by j mod 15, in thousandths of an LSB (R126). -/
def expectedV0 : List Int :=
  [-25488, -17000, -9800, -3208, 3208, 9800, 17000, 25488, 17488, 11016, 5352, 0, -5352, -11016, -17488]

/-- Expected result of string j: thousandths of an LSB in select sense, thousandths of a count in match sense. V6 and V7 are
±512 × ftab[63] / 16,384. -/
def expectedSum (v j : Nat) : Int :=
  match v with
  | 0 => expectedV0.getD (j % 15) 0
  | 1 => 0
  | 2 => -64000
  | 3 => if j % 2 = 0 then -64000 else 0
  | 4 => if j % 128 = 0 then 128000 else 64000
  | 5 => if j % 128 = 0 then 0 else 64000
  | 6 => rdiv (512 * ftabAt 63 * 1000) 16384
  | _ => -(rdiv (512 * ftabAt 63 * 1000) 16384)

/-- Trims of a reference array: its fixed Z and the engine part of the die's load band, without a fine code (R115). -/
def State.refTrims (s : State) (e : EngineId) (r : Nat) : Trims :=
  let part := mget EnginePart.nominal (s.engine e).parts (s.loadBand (engineDie e))
  ⟨Config.refZ e.val r, (List.range 256).map fun j => part.gain j, (List.range 256).map fun j => part.offset j⟩

/-- Trims of a reference array while its engine is calibrated: G = 1 and O = 0 (R115, R121). -/
def nominalTrims (e : EngineId) (r : Nat) : Trims := ⟨Config.refZ e.val r, [], []⟩

/-- Sums of vector V0 to V7 under given trims; in match sense the counts of R77. -/
def vectorSums (tr : Trims) (v : Nat) (c : TdcCapture) : PlaneSums :=
  let rows := vectorRows v
  let p := slotSums c tr (if vectorMatch v then 128 else popcount rows) fun _ => 0
  if vectorMatch v && !p.poison then { p with sums := p.sums.map fun x => clampInt 0 128 (rdiv (x + 1024) 16) } else p

/-- Every string passes (R126): |S − E| ≤ 3 LSB, or |m − E| ≤ 1. `expected` is in thousandths. A replica fault is a miss. -/
def sumsPass (isMatch : Bool) (expected : Nat → Int) (p : PlaneSums) : Bool :=
  !p.poison && (List.range 256).all fun j =>
    decide ((p.sums.getD j 0 * 1000 - expected j).natAbs ≤ (if isMatch then 1000 else 3000))

/-- Largest |S − E| in select sense, in 1/16 LSB, rounded to nearest; 0 without a measured sum (R126, R127). -/
def sumsLargest (isMatch : Bool) (expected : Nat → Int) (p : PlaneSums) : Nat :=
  if p.poison || isMatch then 0
  else (List.range 256).foldl (fun m j =>
    max m (rdiv ((p.sums.getD j 0 * 1000 - expected j).natAbs * 16 : Int) 1000).toNat) 0

/-- The misses of the last second, this one included (R128): one second is 800,000,000 cc. -/
def recentMisses (now : Nat) (ms : List Nat) : List Nat := (now :: ms.filter fun t => decide (now < t + 800000000)).take 17

/-- An unscheduled evaluation: its sums replace the contents of the check accumulator (DESIGN CHOICE, log 93: R58 names the
accumulator and not how sums enter it), and the engine counts for the load band (R117). -/
def State.checkSums (s : State) (e : EngineId) (p : PlaneSums) : State :=
  (s.slotEvents e (engineHandle e) p).modEngine e fun g => { g.issue (s.slotClock e) with
    check := (List.range 256).foldl (fun m j => mset 0 m j (BitVec.ofNat 32 (uint 32 (p.sums.getD j 0)))) g.check }

/-- A strongman evaluation is counted (R127); `ref` says that it read a reference array, whose misses R128 counts. -/
def State.countStrongman (s : State) (e : EngineId) (ref miss : Bool) (largest : Nat) : State :=
  s.modEngine e fun g => { g with
    acc := { g.acc with
      run := satAdd32 g.acc.run 1
      misses := satAdd32 g.acc.misses (if miss then 1 else 0)
      largest := BitVec.ofNat 32 (max g.acc.largest.toNat largest) }
    lifeRun := g.lifeRun + 1
    lifeMiss := g.lifeMiss + (if miss then 1 else 0)
    misses := if ref && miss then recentMisses (s.slotClock e) g.misses else g.misses }

/-- One evaluation of vector V0 to V7 under given trims. -/
def State.strongmanWith (s : State) (e : EngineId) (v : Nat) (p : PlaneSums) : State :=
  (s.checkSums e p).countStrongman e true (!sumsPass (vectorMatch v) (expectedSum v) p)
    (sumsLargest (vectorMatch v) (expectedSum v) p)

/-- One strongman evaluation of an engine with the active trims. -/
def State.strongman (s : State) (e : EngineId) (v : Nat) (c : TdcCapture) : State :=
  s.strongmanWith e v (vectorSums (s.refTrims e (vectorRef v)) v c)

/-! ### Maintenance tasks (R124, R125) -/

/-- Maintenance may act on an engine: its die is in service, and the ringmaster runs (R422). -/
def State.maintains (s : State) (e : EngineId) : Bool := s.awake && s.dieIn (engineDie e) && !s.svc.restarting

/-- Order of R125. The calibration that ends a write belongs to the write, and goes first. -/
def Task.rank : Task → Nat
  | .absorb _ => 0
  | .fresh _ => 0
  | .classB _ => 1
  | .refresh _ => 2
  | .recalEngine => 3
  | .recalBank _ => 3

/-- The bank that a task works on. -/
def Task.bank? : Task → Option Nat
  | .absorb b => some b
  | .classB b => some b
  | .refresh b => some b
  | .fresh b => some b
  | .recalBank b => some b
  | .recalEngine => none

/-- A task that measures; the others are rewrites. -/
def Task.calibrates : Task → Bool
  | .absorb _ => false
  | .refresh _ => false
  | _ => true

/-- The task works on the array of a bank. -/
def Task.onArray (t : Task) (b : Nat) : Bool := t.bank?.any fun c => decide (c / 2 = b / 2)

/-- A task joins the waiting ones behind those of its rank. -/
def insertTask (t : Task) : List Task → List Task
  | [] => [t]
  | x :: xs => if t.rank < x.rank then t :: x :: xs else x :: insertTask t xs

/-- A task begins to wait; a stuck-cell absorption pre-empts a periodic re-calibration of its array (R125). -/
def Engine.addTask (g : Engine) (t : Task) : Engine :=
  if g.tasks.contains t then g else
  let stops := match t, g.cal.map Calib.task with
    | .absorb b, some (.recalBank c) => decide (c / 2 = b / 2)
    | _, _ => false
  { g with tasks := insertTask t g.tasks, cal := if stops then none else g.cal }

/-- No other task of the same array goes before t: none has begun, and none has a higher rank (R125). -/
def Engine.serves (g : Engine) (t : Task) : Bool :=
  match t with
  | .fresh _ => true
  | _ => match t.bank? with
    | none => true
    | some b => g.tasks.all fun u => decide (u = t) || !u.onArray b ||
        (!g.begun.contains u && !(g.cal.any fun c => decide (c.task = u)) && decide (t.rank ≤ u.rank))

/-- The calibration that the engine works on, or the next one that it can begin (R125). -/
def Engine.calTask (g : Engine) : Option Task :=
  match g.cal with
  | some c => some c.task
  | none => g.tasks.find? fun t => t.calibrates && g.serves t

/-! ### Declared bands (R118) -/

/-- The band that a container declares for a block. -/
def Container.bandOf (c : Container) (e : EngineId) (block : Nat) : Option Nat :=
  (c.bands.find? fun b => decide (Handle.engine? b.engine = some e) && decide (b.block = block)).map fun b => b.band

/-- The declared band of a block in the running programme. -/
def State.declaredBand (s : State) (e : EngineId) (block : Nat) : Option Nat :=
  s.prog.running.bind fun c => Container.bandOf c e block

/-- Target band of an array part: the declared band of its block, for a bank not yet bound that of the staged programme first.
Without a declaration the bank keeps its recorded band (DESIGN CHOICE, log 100: R118 gives such a block none, and R120 and R506 name no
other target). -/
def State.targetBand (s : State) (t : Task) (b : Nat) : Nat :=
  let k := s.bank b
  let e := bankEngine b
  let staged := match t with
    | .fresh _ => s.prog.staged.bind fun c => Container.bandOf c e k.block
    | _ => none
  match staged, s.declaredBand e k.block with
  | some n, _ => n
  | none, some n => n
  | none, none => k.part.band

/-! ### Calibration (R121, R122) -/

def FitSum.add (f : FitSum) (x y : Rat) : FitSum := ⟨f.n + 1, f.sx + x, f.sy + y, f.sxx + x * x, f.sxy + x * y⟩

/-- Slope of the least-squares line, unless every sample has the same x. -/
def FitSum.slope? (f : FitSum) : Option Rat :=
  let d := (f.n : Rat) * f.sxx - f.sx * f.sx
  if d = 0 then none else some (((f.n : Rat) * f.sxy - f.sx * f.sy) / d)

/-- Intercept of the line of a given slope. -/
def FitSum.intercept (f : FitSum) (a : Rat) : Rat := (f.sy - a * f.sx) / (f.n : Rat)

/-- The calibration of a task before its first measurement. An engine part has one fit per TDC; the parts of the four bands
follow one another (R121, R128). -/
def State.newCalib (s : State) (t : Task) : Calib :=
  match t.bank? with
  | some b => ⟨t, some b, s.targetBand t b, 0, [FitSum.zero]⟩
  | none => ⟨t, none, 0, 0, List.replicate 256 FitSum.zero⟩

/-- Measurements of a part: V0 to V3, or 8 planes, 32 times each (R121). -/
def Calib.total (c : Calib) : Nat := if c.bank.isSome then 256 else 128

/-- Rows of the plane under way of an array part: 16, 32, … 128. -/
def Calib.rows (c : Calib) : Nat := 16 * (c.taken / 32 + 1)

/-- The samples of one measurement of an engine part: the expected sum of each TDC over the measured one. -/
def Calib.addEngine (c : Calib) (p : PlaneSums) : Calib :=
  let v := c.taken / 32
  { c with
    taken := c.taken + 1
    fits := ((List.range 256).zip c.fits).map fun q => q.2.add (p.sums.getD q.1 0) ((expectedSum v q.1 : Rat) / 1000) }

/-- Expected excess sum of string j over rows 0 to n − 1, in LSB. -/
def Contents.excessSum (k : Contents) (n j : Nat) : Rat := (List.range n).foldl (fun a i => a + k.excess i j) 0

/-- The samples of one measurement of an array part: 4,096 × ρ minus the expected excess sum, in 1/256 LSB, over n. -/
def Calib.addArray (c : Calib) (k : Contents) (x : TdcCapture) : Calib :=
  let rho : Nat → Rat := fun j => rdiv (((x.codes.getD j 0).toNat - x.cmin.toNat : Int) * 1048576) (x.cmax.toNat - x.cmin.toNat : Nat)
  let f := (List.range 256).foldl (fun (f : FitSum) j => f.add (c.rows : Rat) (rho j - 256 * k.excessSum c.rows j))
    (c.fits.getD 0 FitSum.zero)
  { c with taken := c.taken + 1, fits := [f] }

/-- One measurement of a calibration. It counts only in the target band, and without a replica fault (R62, R122). -/
def State.measure (s : State) (e : EngineId) (c : Calib) (x : TdcCapture) : State :=
  let good := decide (s.loadBand (engineDie e) = c.band) && !tdcFault x
  match c.bank with
  | none =>
    let v := c.taken / 32
    let p := vectorSums (nominalTrims e (vectorRef v)) v x
    (s.strongmanWith e v p).modEngine e fun g => { g with cal := some (if good then c.addEngine p else c) }
  | some b =>
    let k := (s.bank b).contents
    let rows := (List.range 128).map fun i => decide (i < c.rows)
    let bias : Nat → Int := fun j => if k.set = .pair8 ∧ j % 2 = 1 then loBias rows (k.tempo.getD j []) else 0
    (s.checkSums e (slotSums x (s.bankTrims b) c.rows bias)).modEngine e fun g =>
      { g with cal := some (if good then c.addArray k x else c) }

/-- Calibration under way, or the one that can begin, with a measurement still to take. -/
def State.calWaiting (s : State) (e : EngineId) : Option Calib :=
  let g := s.engine e
  match g.cal with
  | some c => if c.taken < c.total then some c else none
  | none => g.calTask.map s.newCalib

/-- Gain and offset of TDC j from its fit (R121): nearest values of the two fields. Where every measured sum is the same the line
has no slope, and the part is a free value. -/
def State.fitGain (s : State) (j : Nat) (f : FitSum) : Nat :=
  match f.slope? with
  | some a => (clampInt 0 65535 (ratRound (16384 * a))).toNat
  | none => s.freeElem (2 * j) % 65536
def State.fitOffset (s : State) (j : Nat) (f : FitSum) : Int :=
  match f.slope? with
  | some a => clampInt (-32768) 32767 (ratRound (256 * f.intercept a))
  | none => sint 16 (s.freeElem (2 * j + 1) % 65536)

/-- Z from its fit, a line in n (R121). -/
def State.fitZ (s : State) (f : FitSum) : Nat :=
  match f.slope? with
  | some a => (clampInt 0 65535 (ratRound a)).toNat
  | none => s.freeElem 0 % 65536

/-! ### Drift scans (R135, R141, R142) -/

/-- δ of a cell from the sum of its V8 sums over n repeats: (mean / φ − nominal excess) / level step. -/
def Contents.delta (k : Contents) (i j : Nat) (total : Int) (n : Nat) : Rat :=
  ((total : Rat) / (n : Rat) / k.fineFactor j - k.excess i j) /
    ((levelStep k.set (k.code i j) : Rat) / 1000 * k.tempoFactor i j)

/-- Excess of a cell at f = 1, in 1/256 LSB, as the stuck map keeps it (R136). -/
def Contents.flatExcess (k : Contents) (i j : Nat) (total : Int) (n : Nat) : Int :=
  clampInt (-32768) 32767 (ratRound (256 * ((total : Rat) / (n : Rat) / k.fineFactor j / k.tempoFactor i j)))

def sumAt (m : List (List Int)) (i j : Nat) : Int := (m.getD i []).getD j 0

/-- Rows with a cell beyond 0.75 level at 16 repeats (R135). -/
def Contents.doubtful (k : Contents) (sums : List (List Int)) : List Nat :=
  (List.range 128).filter fun i => (List.range 256).any fun j => decide (3 / 4 < absRat (k.delta i j (sumAt sums i j) 16))

def Scan.start (b : Nat) : Scan := ⟨b, 0, List.replicate 128 (List.replicate 256 0), [], []⟩

def Scan.total (x : Scan) : Nat := 2048 + 64 * x.again.length

/-- Row that the scan reads next. -/
def Scan.row (x : Scan) : Nat := if x.taken < 2048 then x.taken / 16 else x.again.getD ((x.taken - 2048) / 64) 0

def addSums (xs : List Int) (p : PlaneSums) : List Int := ((List.range 256).zip xs).map fun q => q.2 + p.sums.getD q.1 0

/-- One V8 evaluation joins the scan; after the last of 16 repeats the doubtful rows are measured 64 times (R135). -/
def Scan.add (x : Scan) (k : Contents) (p : PlaneSums) : Scan :=
  if x.taken < 2048 then
    let sums := x.sums.set x.row (addSums (x.sums.getD x.row []) p)
    let again := if x.taken = 2047 then k.doubtful sums else []
    { x with taken := x.taken + 1, sums := sums, again := again, sums64 := List.replicate again.length (List.replicate 256 0) }
  else
    let q := (x.taken - 2048) / 64
    { x with taken := x.taken + 1, sums64 := x.sums64.set q (addSums (x.sums64.getD q []) p) }

/-- Expected sum of V8, in thousandths of an LSB (R126). -/
def Contents.expectedV8 (k : Contents) (i j : Nat) : Int := ratRound (1000 * (k.excess i j * k.fineFactor j))

/-- One V8 evaluation; one with a replica fault is repeated (R62). The low string of a pair gets no bias (DEDUCED, log 101: V8 expects the
cell's excess there too). -/
def State.scanSlot (s : State) (e : EngineId) (x : Scan) (c : TdcCapture) : State :=
  let k := (s.bank x.bank).contents
  let i := x.row
  let p := slotSums c (s.bankTrims x.bank) 1 fun _ => 0
  let s1 := (s.checkSums e p).countStrongman e false (!sumsPass false (k.expectedV8 i) p) (sumsLargest false (k.expectedV8 i) p)
  if p.poison then s1 else s1.modEngine e fun g => { g with scan := some (x.add k p) }

/-! ### What an engine does in a free slot (R58, R151, R195) -/

/-- A strongman run of R574 evaluates its next vector. -/
def State.runSlot (s : State) (e : EngineId) (r : StrongRun) (c : TdcCapture) : State :=
  let v := r.next
  let p := vectorSums (s.refTrims e (vectorRef v)) v c
  let pass := sumsPass (vectorMatch v) (expectedSum v) p
  let r1 : StrongRun := ⟨v + 1, r.passed + (if pass then 1 else 0), max r.largest (sumsLargest (vectorMatch v) (expectedSum v) p)⟩
  let s1 := s.strongmanWith e v p
  if v < 7 then s1.modEngine e fun g => { g with run := some r1 }
  else { s1.modEngine e fun g => { g with run := none } with
    test := { s1.test with strongPassed := r1.passed, strongLargest := r1.largest } }

/-- What waits for a free slot of an engine, in the order in which it is served: calibration, then a strongman run, a drift scan
being one of V8 (DESIGN CHOICE, log 102: a run of R574 before a scan). -/
inductive Waiting
  | cal (c : Calib) | run (r : StrongRun) | scan (x : Scan)
  deriving DecidableEq, Repr

def State.waitingWork (s : State) (e : EngineId) : Option Waiting :=
  let g := s.engine e
  if !s.maintains e then none else
  match s.calWaiting e, g.run, g.scan with
  | some c, _, _ => some (.cal c)
  | none, some r, _ => some (.run r)
  | none, none, some x => if x.taken < x.total then some (.scan x) else none
  | none, none, none => none

/-- The waiting work takes the slot. -/
def State.serveWaiting (s : State) (e : EngineId) (w : Waiting) (c : TdcCapture) : State :=
  match w with
  | .cal k => s.measure e k c
  | .run r => s.runSlot e r c
  | .scan x => s.scanSlot e x c

/-- Filler: strongman vectors on the reference arrays, taken in turn (DESIGN CHOICE, log 36: the source does not order the vectors of the
filler). -/
def State.filler (s : State) (e : EngineId) (c : TdcCapture) : State := s.strongman e ((s.engine e).lifeRun % 8) c

/-- A bank's write lane pulses or verifies in the slot (R151, R152). Every write slot counts as an evaluation of its engine
(DESIGN CHOICE, log 103: the source does not say which of them are verify reads). -/
def State.writeSlot (s : State) (b : Nat) : State :=
  let e := bankEngine b
  (s.modBank b fun k => { k with laneSlots := k.laneSlots + 1 }).modEngine e fun g => g.issue (s.slotClock e)

end Sys2Proof.Machine
end

