-- ==== Sys2Proof/Machine/Slot.lean ====
section
/-!
DEFINITION. Slots (spec/07, spec/14): the hold decision at cc 0 of a slot, wait samples, unscheduled evaluations and write
slots, the stop of an overrunning group, and the droop detector.
-/
namespace Sys2Proof.Machine

/-- Power in mW of n evaluations in one slot: 256 strings each, 200 slots per µs (R391, R410). -/
def State.slotPower (s : State) (d : DieId) (n : Nat) : Rat :=
  let ch := d.val + 1
  let q := (mget Chan.init s.pwr.chans ch).coefficients ch (s.loadBand d)
  q.1.getD 0 0 * (n * 256 * 200 : Nat) * q.2

/-! ### Issue limits (R403, R404) -/

/-- Reverse the four bits of a number below 16. -/
def rev4 (k : Nat) : Nat := 8 * (k % 2) + 4 * (k / 2 % 2) + 2 * (k / 4 % 2) + k / 8 % 2

/-- The effective issue limit of a die (R403). -/
def Die.limit (x : Die) : Nat := min (min x.nFt x.nTh) (min x.nCur x.nDr)

/-- Slot k of a frame is a hold slot at limit n (R404). -/
def limitHolds (n k : Nat) : Bool := decide (n ≤ rev4 (k % 16))

/-- New limits take effect at a slot index that is a multiple of 16 (R402, R405, R407, R414). -/
def Die.takeLimits (x : Die) (nCur : Nat) : Die :=
  if x.slot % 16 = 0 then
    { x with
      nFt := x.nextFt.getD x.nFt, nTh := x.nextTh.getD x.nTh, nDr := x.nextDr.getD x.nDr, nCur := nCur
      nextFt := none, nextTh := none, nextDr := none }
  else x

/-- The die asks for a hold in its slot: its limit, its droop detector, or a conflict of one of its tiles (R184). -/
def State.asksHold (s : State) (d : DieId) : Bool :=
  let x := s.die d
  limitHolds x.limit x.slot || x.droopNext || (dieTiles d).any fun t => decide (0 < (s.tile t).holdDebt)

/-! ### Scheduled and free engines (R58, R65, R190) -/

/-- A plane of a scheduled operation is evaluated in the slot that begins: plane k is launched 4 + 4k cc after the issue (R65,
R182). In a wait slot none is (R190). -/
def State.evaluates (s : State) (e : EngineId) : Bool :=
  let c := (s.tile (engineTile e)).pcyc
  !(s.die (engineDie e)).waitSlot && (s.engine e).ops.any fun o => decide (o.issued + 4 ≤ c) && decide (c < o.issued + 4 + 4 * o.p)

/-- Engines of a tile to which its next word issues an EVAL. -/
def State.codeEngines (s : State) (t : TileId) : BitVec 16 :=
  ((s.codeCommands t).findSome? fun i => match i with
    | .eval _ w m _ _ _ _ _ _ _ => if (s.tile t).predicate w then some m else none
    | _ => none).getD 0

/-- The engine may run an unscheduled evaluation in the slot (R58). -/
def State.engineFree (s : State) (e : EngineId) : Bool :=
  (s.die (engineDie e)).waitSlot || !(s.evaluates e || (s.codeEngines (engineTile e)).getLsbD (e.val % 16))

/-- The slot ends before the next frame start (R56). -/
def State.slotFits (s : State) (d : DieId) : Bool :=
  decide (((s.die d).clock + 4 : Int) ≤ s.nextStart)

/-! ### Unscheduled evaluations (R58, R151, R190, R410) -/

/-- Engines of a die in ascending index from the sideshow pointer. -/
def fromPointer (p : Nat) (xs : List EngineId) : List EngineId :=
  xs.filter (fun e => decide (p ≤ e.val % 256)) ++ xs.filter fun e => decide (e.val % 256 < p)

/-- What the TDCs of an engine capture in the slot. -/
def captureOf (free : List (EngineId × TdcCapture)) (e : EngineId) : Option TdcCapture :=
  (free.find? fun q => decide (q.1 = e)).map Prod.snd

/-- Engines of a die that issue while a calibration targets a band: the middle of the band (spec/05). -/
def bandShare (band : Nat) : Nat := 32 + 64 * band

/-- The share of engines that waiting calibrations of a die ask for. -/
def State.shareWanted (s : State) (es : List EngineId) : Nat :=
  es.foldl (fun m e => match s.waitingWork e with
    | some (.cal c) => max m (bandShare c.band)
    | _ => m) 0

/-- Banks of a die with a write lane in whose engine nothing scheduled is evaluated, and whose engine no waiting work takes
(R152). -/
def State.writing (s : State) (d : DieId) (work : List EngineId) : List Nat :=
  (s.banks.filter fun p => p.2.lane && decide (bankDie p.1 = d) && !s.evaluates (bankEngine p.1) &&
    !work.contains (bankEngine p.1)).map Prod.fst

/-- The unscheduled work of one die in a slot that is not held: waiting maintenance, the write lanes, then sideshow until floor
and share are met (R151, R410). The number counts the evaluations of the slot. Write lanes go on in a slot that crosses the frame
start (DESIGN CHOICE, log 110: R56 speaks of evaluations, and R151 of pulses too). -/
def State.fillSlot (s : State) (d : DieId) (free : List (EngineId × TdcCapture)) : State :=
  let fits := s.slotFits d
  let open' := if fits then (dieEngines d).filter s.engineFree else []
  let work := open'.filter fun e => (s.waitingWork e).isSome
  let lanes := s.writing d work
  let share := s.shareWanted work
  let busy := ((dieEngines d).filter s.evaluates).length + work.length + lanes.length
  let s1 := work.foldl (fun (s : State) e => match s.waitingWork e, captureOf free e with
    | some w, some c => s.serveWaiting e w c
    | _, _ => s) s
  let s2 := forAll lanes State.writeSlot s1
  let fill := fromPointer (s.die d).sidePtr (open'.filter fun e => !work.contains e && !lanes.any fun b => decide (bankEngine b = e))
  let s3 := (fill.foldl (fun (p : State × Nat) e =>
    if p.2 < share ∨ s.slotPower d p.2 < ((s.die d).floorMilliW : Rat) then
      match captureOf free e with
      | some c => (p.1.filler e c, p.2 + 1)
      | none => p
    else p) (s2, busy)).1
  s3.modDie d fun x => { x with sidePtr := (x.sidePtr + 1) % 256 }

/-! ### The stop of an overrunning group (R210) -/

/-- The programme of frame n still runs at or after the start of frame n + 2. -/
def State.overruns (s : State) : Bool :=
  match s.frame.programmeFrame with
  | some n => decide (n + 2 ≤ s.frame.number)
  | none => false

/-- The ringmaster stops a tile: its outstanding updates carry poison, and nothing that its words began goes on but MOVEs. -/
def Tile.stop (x : Tile) : Tile :=
  { x.settleNarrow with
    running := false, landings := [], fillOp := none, copyOp := none
    tsQ := x.tsQ.map fun u => { u with poison := true }
    transfers := x.transfers.map fun r => { r with poison := true } }

/-- Output entries whose rows lie on the given tiles. -/
def State.outputsOf (s : State) (ts : List TileId) : List OutMap :=
  ((List.range 256).map fun k => OutMap.parse (s.octets (outMapKey k))).filter fun m =>
    decide (m.length ≠ 0) && ts.any fun t => decide (tileHandle t = m.tile)

/-- A byte range of a segment's pending image is poisoned. -/
def Segment.taintPending (g : Segment) (offset length : Nat) : Segment :=
  { g with pendingPoison := g.pendingPoison ++
      ((List.range length).map (offset + ·)).filter fun b => !g.pendingPoison.contains b }

/-- R210 on one throttle group. A MOVE that still sends delivers its rows, and its done add carries poison. -/
def State.stopGroup (s : State) (ds : List DieId) : State :=
  let ts := (ds.flatMap dieTiles).filter fun t => (s.tile t).running
  if ts.isEmpty then s else
  let moves := ts.flatMap fun t => (s.tile t).moves.map fun m => (t, m.id)
  let s1 := forAll ts (fun s t => s.modTile t Tile.stop) s
  let s2 := forAll (ts.flatMap tileEngines) (fun s e => s.modEngine e fun g => { g with ops := [] }) s1
  let s3 := { s2 with fabric := { s2.fabric with
    globals := s2.fabric.globals.map fun (u : GlobalUpdate) => if ts.contains u.src then { u with poison := true } else u
    tainted := s2.fabric.tainted ++ moves ++
      (s2.fabric.rows.filter fun (r : FabricRow) => ts.contains r.src).map fun (r : FabricRow) => (r.src, r.op) } }
  let outs := s3.outputsOf ts
  { s3 with ecat := { s3.ecat with segs := outs.foldl (fun (m : SMap Segment) (o : OutMap) =>
      mset Segment.init m o.segment ((mget Segment.init m o.segment).taintPending o.offset o.length)) s3.ecat.segs } }

/-! ### SLOT_START -/

/-- The slot that ends, on one tile: MOVEs of a tile that has reached FEND send on in its cycles (R224), and turnstile updates
become visible. -/
def State.endSlot (s : State) (t : TileId) (clock : Nat) : State :=
  let x := s.tile t
  let s1 := if !x.running && !x.moves.isEmpty && !s.frozen t then s.tailCycles t (4 - x.phase) else s
  s1.modTile t fun x => { x.flushTs clock with phase := 0 }

/-- A new slot of the dies: the clock, the slot index and the phase of every tile. -/
def State.openSlot (s : State) (ds : List DieId) (clock : Nat) : State :=
  let s1 := forAll (ds.flatMap dieTiles) (fun s t => s.endSlot t clock) s
  let s2 := forAll ds (fun s d => s.modDie d fun x => { x.takeLimits s.pwr.nCur with clock := clock }) s1
  { s2 with now := max s2.now clock }

/-- A slot counts for the load band of its channels: those of its dies, the hub and the memory (R392). -/
def State.countBand (s : State) (ch : Nat) : State :=
  let b := s.chanBand ch
  let c := s.channel ch
  let ticks := (List.range 4).map fun k => c.bandTicks.getD k 0 + (if k = b then 1 else 0)
  { s with pwr := { s.pwr with chans := mset Chan.init s.pwr.chans ch { c with bandTicks := ticks } } }

/-- The hold decision of a slot in its dies: the mark, the slot index, the droop request and its dead time, one hold owed less
(R184, R404). -/
def State.markSlot (s : State) (ds : List DieId) (hold : Bool) : State :=
  let s1 := forAll ds (fun s d => s.modDie d fun x => { x with
    held := hold, slot := x.slot + 1, droopNext := false, droopDead := x.droopDead - 1 }) s
  let s2 := { s1 with frame := { s1.frame with
    throttled := s1.frame.throttled || ds.any fun d => decide ((s.die d).limit < 16) } }
  if hold then forAll (ds.flatMap dieTiles) (fun s t => s.modTile t fun x => { x with holdDebt := x.holdDebt - 1 }) s2
  else s2

/-- SECDED finds the next word of the named running tiles uncorrectable (R193). -/
def State.spoilWords (s : State) (ts : List TileId) : State :=
  forAll ts (fun s t => s.modTile t fun x =>
    if x.running && !x.badWords.contains x.pc then { x with badWords := x.badWords ++ [x.pc] } else x) s

/-- What a slot does once its hold is decided: the wait sample (R189), the counts of the slot (R392, R399), the narrow writes
that a frozen tile has put off, and the unscheduled work (R58). -/
def State.enterSlot (s : State) (ds : List DieId) (free : List (EngineId × TdcCapture)) : State :=
  let hold := ds.any fun d => (s.die d).held
  let waits := !hold && !s.waitsHold ds
  let s1 := forAll ds (fun s d => s.modDie d fun x => { x with
    waitSlot := if hold then x.waitSlot else waits
    slotsAll := x.slotsAll + 1, slotsFree := x.slotsFree + (if hold || waits then 0 else 1) }) s
  let s2 := ([0, 17] ++ ds.map fun (d : DieId) => d.val + 1).foldl State.countBand s1
  let s3 := if hold || waits then forAll (ds.flatMap dieTiles) (fun s t => s.modTile t Tile.settleNarrow) s2 else s2
  if hold then s3 else forAll ds (fun s d => s.fillSlot d free) s3

/-- SLOT_START on die d: the throttle group of d takes its next slot (R37, R184, R404). `free` gives what the TDCs of free
engines capture in the slot, `badWords` the tiles whose next word SECDED cannot correct. -/
def execSlotStart (d : DieId) (free : List (EngineId × TdcCapture)) (badWords : List TileId) (s : State) :
    Host.Outcome State Fault Refusal :=
  .next (
    if !s.awake || !s.dieIn d || !(s.die d).powered then s else
    let ds := s.throttleDies d
    let s1 := s.openSlot ds ((s.die d).clock + 4)
    let s2 := s1.spoilWords (badWords.filter fun t => ds.contains (tileDie t))
    let s3 := if s2.overruns then s2.stopGroup ds else s2
    (s3.markSlot ds (ds.any s3.asksHold)).enterSlot ds free)

/-! ### Droop (R187, R406, R407) -/

/-- Droop margin in mV (R389). -/
def State.droopMargin (s : State) : Nat := s.setting 0x210006

/-- The voltage that the regulator of a channel approaches (R411, R412). -/
def State.tableVoltage (s : State) (ch : Nat) : Nat :=
  if ch = 0 then Config.voltageTable 0 (3 * s.pwr.hubAge + s.pwr.hubBand)
  else
    let x := s.die (Fin.ofNat 16 (ch - 1))
    Config.voltageTable ch (3 * x.ageStep + x.tempBand)

/-- The detector of a die with a sample of v mV against a table value of w mV. The Boolean says that the droop limit is
lowered (R406, R407). -/
def Die.droop (x : Die) (now v w margin : Nat) : Die × Bool :=
  if x.droopActive then
    if v + margin < w + 10 ∧ x.droopHold < 16 then
      ({ x with droopHold := x.droopHold + 1, droopNext := true }, false)
    else ({ x with droopActive := false, droopHold := 0, droopDead := 16 }, false)
  else if x.droopDead = 0 ∧ v + margin < w then
    let starts := (x.droopStarts.filter fun t => decide (now < t + 800000)) ++ [now]
    let y := { x with droopActive := true, droopHold := 1, droopNext := true, droopStarts := starts }
    if 32 < starts.length then ({ y with nextDr := some (max 1 (x.limit - 2)), droopStarts := [] }, true) else (y, false)
  else (x, false)

/-- DROOP_SAMPLE: the comparison at cc 2 of a slot. A droop on the hub raises 0x1021 only (R407). -/
def execDroopSample (channel : Fin 17) (milliVolts : Nat) (s : State) : Host.Outcome State Fault Refusal :=
  .next (
    if !s.awake then s
    else if channel.val = 0 then
      if milliVolts + s.droopMargin < s.tableVoltage 0 then s.event 0x1021 hubHandle else s
    else
      let d : DieId := Fin.ofNat 16 (channel.val - 1)
      if !s.dieIn d then s else
      let (x, low) := (s.die d).droop (s.die d).clock milliVolts (s.tableVoltage channel.val) s.droopMargin
      if low then (s.setDie d x).event 0x1020 (dieHandle d) else s.setDie d x)

/-- DROOP_LIMIT_RISE: once the limit has held for 10 ms it rises by 1 per ms (R407). -/
def execDroopLimitRise (d : DieId) (s : State) : Host.Outcome State Fault Refusal :=
  .next (
    let x := s.die d
    if x.nextDr.isNone ∧ x.nDr < 16 then s.setDie d { x with nDr := x.nDr + 1 } else s)

end Sys2Proof.Machine
end

