-- ==== Sys2Proof/Machine/Walk.lean ====
section
/-!
DEFINITION. The walk of a routine (R212 to R247): the words that a routine issues on one choice of variant paths, in which
programme cycle and under which loop indices, and the checks that the device makes of them when it loads a container.
-/
namespace Sys2Proof.Machine

/-! ### The walk (R216 to R224) -/

/-- A variant path under way: where PEND returns to, its first word and the word after its last, and the loops open around it. -/
structure PathAt where
  back : Nat
  first : Nat
  stop : Nat
  depth : Nat
  deriving DecidableEq, Repr

/-- Where a walk stands: the word address, the open loops, inner first, and the path. -/
structure WalkAt where
  pc : Nat
  loops : List LoopFrame
  path : Option PathAt
  deriving DecidableEq, Repr

/-- What follows a word. -/
inductive WalkNext
  | go (x : WalkAt)
  | stop
  | flaw (cause : Nat)
  deriving DecidableEq, Repr

/-- One word as issued: programme cycle, address, the loops open in its cycle, and its commands. -/
structure Issue where
  cc : Nat
  addr : Nat
  loops : List LoopFrame
  cmds : List Instr
  deriving DecidableEq, Repr

/-- Causes of a refusal under R216, and under R218, R220 and R224. -/
def causePhase : Nat := 7
def causeNesting : Nat := 8
/-- Cause of a refusal for a path longer than every frame (R247). -/
def causeLength : Nat := 23

/-- A word that neither jumps nor opens: the loop whose END it is runs again or closes, and a path is left only by its PEND
(R217, R220). -/
def WalkAt.plain (x : WalkAt) : WalkNext :=
  let y : Option WalkAt := match x.loops with
    | l :: ls =>
      if x.pc = l.last then
        if (x.path.any fun q => decide (x.loops.length ≤ q.depth)) then none
        else if l.done + 1 < l.trips then some { x with pc := l.first, loops := { l with done := l.done + 1 } :: ls }
        else some { x with pc := x.pc + 1, loops := ls }
      else some { x with pc := x.pc + 1 }
    | [] => some { x with pc := x.pc + 1 }
  match y with
  | none => .flaw causeNesting
  | some y => if y.path.any fun q => !(decide (q.first ≤ y.pc) && decide (y.pc < q.stop)) then .flaw causeNesting else .go y

/-- The word at x ends the innermost open loop. -/
def WalkAt.atEnd (x : WalkAt) : Bool :=
  match x.loops with
  | l :: _ => decide (x.pc = l.last)
  | [] => false

/-- LOOP: at most four deep, inside the loop and the path around it, over whole 4-word groups (R216, R218, R220). -/
def WalkAt.open (x : WalkAt) (last trips : Nat) : WalkNext :=
  let inner := match x.loops with
    | l :: _ => decide (last < l.last)
    | [] => true
  let inPath := match x.path with
    | some q => decide (last + 1 < q.stop)
    | none => true
  if !(decide (trips ≠ 0) && decide (x.loops.length < 4) && decide (x.pc < last) && inner && inPath && !x.atEnd) then .flaw causeNesting
  else if (last - x.pc) % 4 ≠ 0 then .flaw causePhase
  else .go { x with pc := x.pc + 1, loops := ⟨x.pc + 1, last, trips, 0⟩ :: x.loops }

/-- VAR: outside a path, into a path of whole 4-word groups that starts congruent to the next address (R216, R220). A VAR that
ends a loop body is refused with it (DEDUCED, log 107: PEND would return past the loop's END). -/
def WalkAt.enter (x : WalkAt) (c : Container) (p : Placement) (choice : List Nat) (group : Nat) : WalkNext :=
  match x.path, c.variants[group]? with
  | none, some g =>
    match g.paths[choice.getD group 0]? with
    | none => .flaw causeNesting
    | some (start, len) =>
      if len % 4 ≠ 0 ∨ start % 4 ≠ (x.pc + 1) % 4 then .flaw causePhase
      else if len = 0 ∨ p.length < start + len ∨ x.atEnd then .flaw causeNesting
      else .go { x with pc := start, path := some ⟨x.pc + 1, start, start + len, x.loops.length⟩ }
  | _, _ => .flaw causeNesting

/-- PEND: the last word of its path, every loop of the path complete (R220). -/
def WalkAt.leave (x : WalkAt) : WalkNext :=
  match x.path with
  | some q => if x.pc + 1 = q.stop ∧ x.loops.length = q.depth then .go { x with pc := q.back, path := none } else .flaw causeNesting
  | none => .flaw causeNesting

/-- What follows a word, by its CTL field. FEND stands in no loop and no path (R220, R224). -/
def WalkAt.next (x : WalkAt) (c : Container) (p : Placement) (choice : List Nat) (cmds : List Instr) : WalkNext :=
  match cmds with
  | .loop _ _ last trips :: _ => x.open last.toNat trips.toNat
  | .var _ _ g :: _ => x.enter c p choice g.val
  | .pend _ _ :: _ => x.leave
  | .fend _ _ :: _ => if x.loops.isEmpty && x.path.isNone then .stop else .flaw causeNesting
  | _ => x.plain

/-- The issues of a routine from x on, and the check that stopped the walk, if one did, with its word address. `fuel` bounds
the programme length. -/
def walkFrom (c : Container) (p : Placement) (choice : List Nat) : Nat → Nat → WalkAt → List Issue × Option (Nat × Nat)
  | 0, _, x => ([], some (causeLength, x.pc))
  | fuel + 1, cc, x =>
    match (Container.word c p x.pc).bind (wordCommands 0 false) with
    | none => ([], some (causeNesting, x.pc))
    | some cmds =>
      let i : Issue := ⟨cc, x.pc, x.loops, cmds⟩
      match x.next c p choice cmds with
      | .stop => ([i], none)
      | .flaw k => ([i], some (k, x.pc))
      | .go y => let r := walkFrom c p choice fuel (cc + 1) y
        (i :: r.1, r.2)

/-- Programme cycles of the longest frame: 10 ms (R294). -/
def longestFrame : Nat := 8000000

/-- The walk of a placement from its entry word (R216). -/
def walk (c : Container) (p : Placement) (choice : List Nat) : List Issue × Option (Nat × Nat) :=
  walkFrom c p choice longestFrame 0 ⟨p.entry, [], none⟩

/-- Every choice of one path for each variant group (R221). -/
def pathChoices : List VariantGroup → List (List Nat)
  | [] => [[]]
  | g :: gs => (List.range g.paths.length).flatMap fun k => (pathChoices gs).map (k :: ·)

/-- The issues of a placement on one choice. -/
structure Trace where
  place : Placement
  issues : List Issue
  flaw : Option (Nat × Nat)
  deriving DecidableEq, Repr

/-- Every path of every placement. -/
def Container.traces (c : Container) : List Trace :=
  c.placements.flatMap fun p => (pathChoices c.variants).map fun ch => ⟨p, (walk c p ch).1, (walk c p ch).2⟩

/-- Programme length of a placement's longest path (R247). -/
def Container.longest (c : Container) (p : Placement) : Nat :=
  ((pathChoices c.variants).map fun ch => (walk c p ch).1.length).foldl max 0

/-! ### What a word does in its cycle -/

/-- Engines 0 to 15 of a mask. -/
def maskBits (m : BitVec 16) : List Nat := (List.range 16).filter fun k => m.getLsbD k

/-- An address-bearing operand before its range is checked (R219). -/
def Issue.formed (i : Issue) (c : Container) (base : Nat) (str : BitVec 6) : Int :=
  base + strideSum (c.strides.getD str.toNat []) i.loops.reverse

/-- Mask and planes of an EVAL. -/
def Instr.evalOf : Instr → Option (BitVec 16 × Nat)
  | .eval _ _ m _ pw _ _ _ _ _ => some (m, planesOf pw)
  | _ => none

/-- The EVAL of a word. -/
def Issue.eval? (i : Issue) : Option (BitVec 16 × Nat) := i.cmds.findSome? Instr.evalOf

/-- Planes of the EVAL that a word issues to an engine. -/
def Issue.planesOn (i : Issue) (e : Nat) : Option Nat :=
  match i.eval? with
  | some (m, p) => if m.getLsbD e then some p else none
  | none => none

/-- Cycle in which the lanes of an operation of p planes issued at cc are updated: launch 4 cc later, the last plane's capture
4p − 1 cc after that, and 5 cc to the accumulator (R182). -/
def laneCycle (cc p : Nat) : Nat := cc + 4 * p + 8

/-- Format width that a word feeds to an engine (R232). -/
def Issue.feedsOn (i : Issue) (c : Container) (e : Nat) : Option Nat :=
  i.cmds.findSome? fun k => match k with
    | .feed _ _ _ _ m _ f _ => if m.getLsbD e then (c.formats[f.toNat]?).map fun x => x.width else none
    | _ => none

/-- Latest cycle of a FILL or COPY issued at cc (R233). -/
def Issue.memUntil (i : Issue) : Option Nat :=
  i.cmds.findSome? fun k => match k with
    | .fill _ _ _ _ _ n => some (i.cc + n.toNat)
    | .memCopy _ _ _ _ _ n _ => some (i.cc + n.toNat + 6)
    | _ => none

/-- The word uses the MEM unit. -/
def Instr.isMem : Instr → Bool
  | .rd .. | .wr .. | .feed .. | .fill .. | .memCopy .. => true
  | _ => false

/-- Register and latency of a vector result (R235). -/
def Instr.vecResult : Instr → Option (Fin 32 × Nat)
  | .vecAdd _ _ f d _ _ | .sub _ _ f d _ _ | .max _ _ f d _ _ | .min _ _ f d _ _ | .wadd _ _ f d _ _ | .cmpeq _ _ f d _ _
  | .cmplt _ _ f d _ _ | .cmple _ _ f d _ _ | .and _ _ f d _ _ | .or _ _ f d _ _ | .xor _ _ f d _ _ => some (d, latOf f 2 5)
  | .abs _ _ f d _ | .neg _ _ f d _ | .shl _ _ f d _ _ | .shra _ _ f d _ _ | .sel _ _ f d _ _ _ => some (d, latOf f 2 5)
  | .mul _ _ f d _ _ | .fma _ _ f d _ _ _ => some (d, latOf f 4 5)
  | .cvt _ _ _ d _ _ _ | .qnt _ _ _ d _ _ _ _ _ _ _ | .strd _ _ d _ => some (d, 4)
  | .pack _ _ d _ _ _ | .vecRot _ _ _ d _ _ | .flrd _ _ d | .wscl _ _ d _ | .bcast _ _ _ d _ _ => some (d, 2)
  | .dq _ _ d _ _ _ | .dqt _ _ d _ _ _ _ => some (d, 6)
  | .macw _ _ _ d _ _ _ => some (d, 5)
  | .rsum _ _ _ d _ | .rmax _ _ _ d _ => some (d, 8)
  | .rcp _ _ _ d _ | .rsqrt _ _ _ d _ | .exp _ _ _ d _ => some (d, 10)
  | _ => none

/-- A scheduled write of the tile's own: a vector register or a scratchpad row, and the cycle in which it lands (R182, R213,
R228, R252). -/
inductive Target
  | vreg (r : Nat)
  | row (n : Int)
  deriving DecidableEq, Repr

/-- Rows n from `first` on, one per cycle from `cc` on. -/
def rowsLanding (first : Int) (cc n : Nat) : List (Target × Nat) := (List.range n).map fun (k : Nat) => (Target.row (first + (k : Int)), cc + k)

/-- What a command writes, and when it lands. -/
def Issue.writes (i : Issue) (c : Container) : Instr → List (Target × Nat)
  | .rd _ _ _ _ v _ => [(.vreg v.val, i.cc + 6)]
  | .wr _ _ row str _ _ _ _ _ _ => rowsLanding (i.formed c row.toNat str) (i.cc + 1) 1
  | .fill _ _ row str _ n => rowsLanding (i.formed c row.toNat str) (i.cc + 1) (n.toNat + 1)
  | .memCopy _ _ row str dst n _ =>
    let src := i.formed c row.toNat str
    if (dst.toNat : Int) ≤ src then rowsLanding dst.toNat (i.cc + 7) (n.toNat + 1)
    else (List.range (n.toNat + 1)).map fun (k : Nat) => (Target.row ((dst.toNat + n.toNat : Nat) - (k : Int)), i.cc + 7 + k)
  | .engAdd _ _ _ toRows addr str =>
    let a := i.formed c addr.toNat str
    if toRows then rowsLanding a (i.cc + 5) 4
    else (List.range 4).map fun (k : Nat) => (Target.vreg (a.toNat + k), i.cc + 4 + k)
  | k => match Instr.vecResult k with
    | some (d, l) => [(.vreg d.val, i.cc + l)]
    | none => []

/-- Every write of a word. -/
def Issue.landings (i : Issue) (c : Container) : List (Target × Nat) := i.cmds.flatMap (i.writes c)

/-- Cycle in which the last row of a MOVE issued at cc lands on a target of the sender's throttle group (R224, R262); `ds` are
the dies of the group. -/
def moveEnd (c : Container) (t : TileId) (ds : List DieId) (cc : Nat) : Instr → Nat
  | .move _ _ d _ _ _ => match c.descs[d.toNat]? with
    | some x => match Handle.tile? x.target with
      | some u => if ds.contains (tileDie u) then cc + moveDelay t u + beats x.compress x.count else 0
      | none => 0
    | none => 0
  | _ => 0

/-- Latest cycle in which something that a command issues with a fixed latency lands (R224). -/
def Issue.ends (i : Issue) (c : Container) (k : Instr) : Nat :=
  let own := ((i.writes c k).map Prod.snd).foldl max 0
  match k with
  | .eval _ _ _ _ pw _ _ _ _ _ => laneCycle i.cc (planesOf pw)
  | .feed .. => i.cc + 6
  | .stclr .. | .stwr .. | .flclr .. | .clear .. => i.cc + 1
  | _ => own

/-- A wait marked as a barrier release (R197). -/
def Issue.releases (i : Issue) : Bool := i.cmds.any fun k => match k with
  | .wait _ _ _ _ rel _ => rel
  | _ => false

/-- A quantiser issue in per-token mode, and whether it marks a row start (R237). -/
def Issue.tokenQnt (i : Issue) (c : Container) : Option Bool :=
  i.cmds.findSome? fun k => match k with
    | .qnt _ _ _ _ _ _ _ _ imm rs _ => match c.formats[imm.toNat]? with
      | some f => if f.perToken then some rs else none
      | none => none
    | _ => none

/-! ### The checks (R245)

Each check looks at one word of a trace; a predicated issue counts as present. -/

/-- The words issued before i. -/
def Trace.before (tr : Trace) (i : Issue) : List Issue := tr.issues.filter fun j => decide (j.cc < i.cc)

/-- R188: a wait stands in a word of phase 0. -/
def waitPhaseOk (i : Issue) : Bool := i.cmds.all fun k => match k with
  | .wait .. => decide (i.cc % 4 = 0)
  | _ => true

/-- R197: after each marked release, an engine evaluates no earlier than its comb offset, in slots. -/
def combOk (tr : Trace) (i : Issue) : Bool :=
  match i.eval? with
  | none => true
  | some (m, _) => tr.issues.all fun j => !(j.releases && decide (j.cc ≤ i.cc)) ||
      (maskBits m).all fun e => decide (tr.place.comb.getD e 0 ≤ (i.cc - j.cc) / 4)

/-- R225: an EVAL stands at cc 0 of a slot, with a width and sense that fit. -/
def evalFormOk (i : Issue) : Bool := i.cmds.all fun k => match k with
  | .eval _ _ _ _ pw s _ b _ _ => evalOk pw s b && decide (i.cc % 4 = 0)
  | _ => true

/-- R226: EVALs to one engine are at least 4P cc apart. -/
def evalSpacingOk (tr : Trace) (i : Issue) : Bool :=
  (List.range 16).all fun e => (i.planesOn e).isNone || (tr.before i).all fun j => match j.planesOn e with
    | some p => decide (j.cc + 4 * p ≤ i.cc)
    | none => true

/-- R227: the last FEED that an engine received 6 cc or more before has the width of the EVAL. -/
def evalFeedOk (c : Container) (tr : Trace) (i : Issue) : Bool :=
  (List.range 16).all fun e => match i.planesOn e with
    | none => true
    | some p =>
      match ((tr.issues.filter fun j => decide (j.cc + 6 ≤ i.cc)).filterMap fun j => j.feedsOn c e).getLast? with
      | some w => decide (p = if w = 1 then 1 else w + 1)
      | none => false

/-- R228: every engine of an ADD has its lanes updated by the ADD's cycle, and ADDR names four registers or rows. -/
def engAddFits (c : Container) (tr : Trace) (i : Issue) : Bool := i.cmds.all fun k => match k with
  | .engAdd _ _ m toRows addr str =>
    let a := i.formed c addr.toNat str
    (if toRows then decide (0 ≤ a) && decide (a + 3 < 8192) else decide (0 ≤ a) && decide (a < 32) && decide (a % 4 = 0)) &&
      (maskBits m).all fun e => (tr.before i).all fun j => match j.planesOn e with
        | some p => decide (laneCycle j.cc p ≤ i.cc)
        | none => true
  | _ => true

/-- R229: no CLEAR from the launch of an operation's plane 0 to its lane update. -/
def clearFits (tr : Trace) (i : Issue) : Bool := i.cmds.all fun k => match k with
  | .clear _ _ m => (maskBits m).all fun e => tr.issues.all fun j => match j.planesOn e with
    | some p => !(decide (j.cc + 4 ≤ i.cc) && decide (i.cc ≤ laneCycle j.cc p))
    | none => true
  | _ => true

/-- R233: no MEM issue while a FILL or COPY lasts. -/
def memIdle (tr : Trace) (i : Issue) : Bool :=
  !i.cmds.any Instr.isMem || (tr.before i).all fun j => match j.memUntil with
    | some u => decide (u < i.cc)
    | none => true

/-- R234, R245: no two scheduled writes land on one register or row in one cycle. -/
def landingsApart (c : Container) (tr : Trace) (i : Issue) : Bool :=
  decide (i.landings c).Nodup && (i.landings c).all fun x => (tr.before i).all fun j => !(j.landings c).contains x

/-- R219, R232, R233: formed operands lie in their fields, and rows do not pass row 8,191. -/
def operandsFit (c : Container) (i : Issue) : Bool := i.cmds.all fun k =>
  let fits : Nat → BitVec 6 → Nat → Bool := fun base str n =>
    decide (str.toNat < c.strides.length) && decide (0 ≤ i.formed c base str) && decide (i.formed c base str + n ≤ 8192)
  match k with
  | .rd _ _ row str _ _ => fits row.toNat str 1
  | .wr _ _ row str _ _ _ _ _ _ => fits row.toNat str 1
  | .feed _ _ row str _ part f _ => fits row.toNat str 1 && (match c.formats[f.toNat]? with
    | some x => [1, 4, 8, 16].contains x.width && decide (part.val * (128 * x.width) < 2048)
    | none => false)
  | .fill _ _ row str _ n => fits row.toNat str (n.toNat + 1)
  | .memCopy _ _ row str dst n _ => fits row.toNat str (n.toNat + 1) && decide (dst.toNat + n.toNat < 8192)
  | .eval _ _ _ block _ _ _ _ str _ =>
    decide (str.toNat < c.strides.length) && decide (0 ≤ i.formed c block.toNat str) && decide (i.formed c block.toNat str < 2048)
  | .engAdd _ _ _ _ _ str => decide (str.toNat < c.strides.length)
  | .move _ _ d row str _ => decide (d.toNat < c.descs.length) && fits row.toNat str 1
  | .store _ _ d row str | .hstore _ _ d row str | .ticket _ _ d row str =>
    decide (d.toNat < c.descs.length) && fits row.toNat str 1
  | .load _ _ d row str | .hload _ _ d row str => match c.descs[d.toNat]? with
    | some x => fits row.toNat str x.count
    | none => false
  | .qnt _ _ _ _ _ _ _ _ imm _ _ => decide (imm.toNat < c.formats.length)
  | _ => true

/-- R215, R239, R283: turnstile numbers, group slots and the VALUE of an ADD lie in their ranges. -/
def synFits (c : Container) (i : Issue) : Bool := i.cmds.all fun k =>
  let unit : SynScope → Byte → Bool := fun sc n => sc.tsOk n && (match sc with
    | .group g => decide (g.val < c.groupSlots.length)
    | _ => true)
  match k with
  | .arrive _ _ sc n => unit sc n
  | .synAdd _ _ sc n v => unit sc n && decide (v ≠ 0)
  | .wait _ _ sc n _ _ => unit sc n
  | .reset _ _ sc n _ => unit sc n
  | .poison _ _ sc n => unit sc n
  | _ => true

/-- R293: routines only wait on the frame turnstile, and only arrive at and wait on the commit and flip turnstiles. -/
def specialsFit (c : Container) (i : Issue) : Bool := i.cmds.all fun k => match k with
  | .arrive _ _ .global n => decide (n ≠ c.frameTs)
  | .synAdd _ _ .global n _ | .reset _ _ .global n _ | .poison _ _ .global n => !([c.frameTs, c.commitTs, c.flipTs].contains n)
  | _ => true

/-- R237: a per-token QNT without RS follows one with RS, and a window-scale QNT stands in a predicated word. -/
def quantiserFits (c : Container) (tr : Trace) (i : Issue) : Bool :=
  (match i.tokenQnt c with
    | some false => (tr.before i).any fun j => decide (j.tokenQnt c = some true)
    | _ => true) &&
  i.cmds.all fun k => match k with
    | .qnt _ w _ _ _ _ _ _ imm _ _ => match c.formats[imm.toNat]? with
      | some f => !f.window || w.pen
      | none => true
    | _ => true

/-- R243: the programme does not write its own constant region; LOAD and HLOAD land in rows of their tile. -/
def constantsKept (c : Container) (tr : Trace) (i : Issue) : Bool :=
  let lo := tr.place.constFirst
  let hi := lo + tr.place.constRows
  let apart : Int → Nat → Bool := fun first n => decide (first + n ≤ lo) || decide (hi ≤ first) || decide (lo = hi)
  i.cmds.all fun k => match k with
    | .load _ _ d row str | .hload _ _ d row str => match c.descs[d.toNat]? with
      | some x => apart (i.formed c row.toNat str) x.count
      | none => true
    | k => (i.writes c k).all fun w => match w.1 with
      | .row n => apart n 1
      | .vreg _ => true

/-- R224: FEND stands at or after every landing of its frame. -/
def fendLast (c : Container) (t : TileId) (ds : List DieId) (tr : Trace) (i : Issue) : Bool :=
  !(i.cmds.any fun k => match k with
    | .fend .. => true
    | _ => false) ||
  tr.issues.all fun j => j.cmds.all fun k => decide (j.ends c k ≤ i.cc) && decide (moveEnd c t ds j.cc k ≤ i.cc)

/-- R245: every block that an engine of the tile evaluates has a declared band. -/
def bandsDeclared (c : Container) (t : TileId) (i : Issue) : Bool := i.cmds.all fun k => match k with
  | .eval _ _ m block _ _ _ _ str _ => (maskEngines t m).all fun e => c.bands.any fun b =>
      decide (b.engine = engineHandle e) && decide ((b.block : Int) = i.formed c block.toNat str)
  | _ => true

/-- Address of the first word of any trace that fails a check. -/
def firstBadWord (trs : List Trace) (ok : Trace → Issue → Bool) : Option Nat :=
  trs.findSome? fun tr => (tr.issues.find? fun i => !ok tr i).map fun i => i.addr

/-! ### Declared paths (R202) -/

/-- The cycles and the marked releases of a path walked alone, where its words form one. -/
def pathAlone (c : Container) (p : Placement) (path : Nat × Nat) : Option (Nat × List Nat) :=
  let r := walkFrom { c with variants := [] } p [] longestFrame 0 ⟨path.1, [], some ⟨p.length, path.1, path.1 + path.2, 0⟩⟩
  if r.2 = some (causeNesting, p.length) ∧ r.1.getLast?.any fun l => decide (l.addr + 1 = path.1 + path.2) then
    some (r.1.length, (r.1.filter Issue.releases).map fun i => i.cc)
  else none

/-- The paths of a group have one length, and in each routine the same marked releases, reached or not. A placement whose
words form no path at a declared place takes no part (DEDUCED, log 108: path tables are shared by routines that do not use them). -/
def pathsEqual (c : Container) (g : VariantGroup) : Bool :=
  let per := c.placements.map fun p => g.paths.filterMap (pathAlone c p)
  let lengths := (per.flatMap fun xs => xs.map Prod.fst)
  (lengths.all fun n => lengths.all fun m => decide (n = m)) &&
    per.all fun xs => xs.all fun a => xs.all fun b => decide (a.2 = b.2)

end Sys2Proof.Machine
end

