-- ==== Sys2Proof/Machine/Runtime.lean ====
section
/-!
DEFINITION. What the block reports of itself: the status of units (spec/02, R33), the frame status and device status words
(R207, R516), and the run-time objects of the dictionary, which reads see as they stood at the last frame boundary (R495).
-/
namespace Sys2Proof.Machine

/-! ### Unit status (R33) -/

/-- A cell of the bank waits for absorption (R138). -/
def State.absorbPending (s : State) (b : Nat) : Bool :=
  (s.engine (bankEngine b)).tasks.contains (.absorb b)

/-- The array of a bank is in class B, or has a cell pending absorption. -/
def State.arrayDegraded (s : State) (b : Nat) : Bool :=
  s.arrayClassB b || s.absorbPending (2 * (b / 2)) || s.absorbPending (2 * (b / 2) + 1)

/-- A rewrite or a calibration is under way in the bank. -/
def State.bankBusy (s : State) (b : Nat) : Bool :=
  decide ((s.bank b).state = .writing) || (s.engine (bankEngine b)).cal.any fun c => decide (c.bank = some b)

/-- Code of a bank whose die is in service. -/
def State.bankCode (s : State) (b : Nat) : Nat := if s.bankBusy b then 2 else if s.arrayDegraded b then 1 else 0

def maxOf (xs : List Nat) : Nat := xs.foldl max 0

/-- Banks with contents of interest on an engine. -/
def State.engineBanks (s : State) (e : EngineId) : List Nat :=
  (s.banks.map Prod.fst).filter fun b => decide (b / 2048 = e.val)

def State.engineCode (s : State) (e : EngineId) : Nat :=
  max (if (s.engine e).cal.isSome then 2 else 0) (maxOf ((s.engineBanks e).map s.bankCode))

/-- A tile also shows an adjusted group with more than 1% error, and a rewrite that a worn bank blocks (R140, R154). -/
def State.tileCode (s : State) (t : TileId) : Nat :=
  if !s.tileIn t then 3
  else
    let mine := s.banks.filter fun p => decide (p.1 / 32768 = t.val)
    max (if mine.any fun p => p.2.adjusted || p.2.blocked then 1 else 0) (max
      (maxOf (((s.engines.map Prod.fst).filter fun e => decide (e / 16 = t.val)).map fun e => s.engineCode (Fin.ofNat 4096 e)))
      (maxOf (mine.map fun p => s.bankCode p.1)))

def State.dieCode (s : State) (d : DieId) : Nat :=
  if !s.dieIn d then 3 else max (if (s.die d).stuckFull then 1 else 0) (maxOf ((dieTiles d).map s.tileCode))

/-- Status of a unit on die d: 3 when the die is out. -/
def State.onDie (s : State) (d : DieId) (code : Nat) : Nat := if s.dieIn d then code else 3

/-- Code of a physical unit. -/
def State.unitCode (s : State) (h : Handle) : Nat :=
  match Handle.kind h with
  | 1 => if s.diesIn.isEmpty then 3 else maxOf (s.diesIn.map s.dieCode)
  | 2 => match Handle.die? h with
    | some d => s.dieCode d
    | none => 0
  | 3 => match Handle.tile? h with
    | some t => s.tileCode t
    | none => 0
  | _ => match Handle.inEngine? h with
    | none => 0
    | some e => s.onDie (engineDie e) (
        if Handle.kind h = 6 then match Handle.bank? h with
          | some b => s.bankCode b
          | none => 0
        else if Handle.kind h = 5 then
          maxOf ((List.range 2).map fun k => s.bankCode (e.val * 2048 + 2 * Handle.arrayField h + k))
        else if Handle.kind h = 4 then s.engineCode e else 0)

def State.unitIn (s : State) (h : Handle) : Bool :=
  match Handle.die? h with
  | some d => s.dieIn d
  | none => true

/-- Tiles of a unit that are out of service. -/
def State.outTiles (s : State) (h : Handle) : Nat :=
  match Handle.kind h with
  | 1 => 16 * (allDies.filter fun d => !s.dieIn d).length
  | 2 => match Handle.die? h with
    | some d => if s.dieIn d then 0 else 16
    | none => 0
  | _ => 0

/-- The status word of a unit or group (R33). -/
def State.statusWord (s : State) (h : Handle) : Nat :=
  if Handle.isGroup h then
    let fs := flattened s.prog.groups h
    let live := fs.filter s.unitIn
    let out := if Handle.kind h = 3 then (fs.filter fun x => !s.unitIn x).length
      else if Handle.kind h = 2 then 16 * (fs.filter fun x => !s.unitIn x).length else 0
    (if live.isEmpty then 3 else maxOf (live.map s.unitCode)) + 16 * out
  else s.unitCode h + 16 * s.outTiles h

/-! ### Status words -/

def bit (b : Bool) (k : Nat) : Nat := if b then 2 ^ k else 0

/-- Frame status of R207, for the frame that ended at the last boundary. -/
def State.frameStatus (s : State) : Nat :=
  s.frame.seqCarried % 65536 * 65536 + min s.frame.run 255 * 256 + bit s.frame.slipPrev 2 + bit s.frame.missPrev 1 +
    bit s.frame.pois 0

/-- Code of 0x2000:01; Off cannot be read. -/
def PState.code : PState → Nat
  | .run => 1
  | .idle => 2
  | .doze => 3
  | .off => 0

/-- Dies in service: bit k for Wk. -/
def State.diesWord (s : State) : Nat := (allDies.map fun d => bit (s.dieIn d) d.val).foldl (· + ·) 0

def Segment.inFault (g : Segment) : Bool := g.fault || g.held

/-- Device status word of R516. -/
def State.deviceStatus (s : State) : Nat :=
  bit s.svc.trial 12 + bit (decide (s.sec.alarm = 2) || decide (s.sec.state ≠ .operational)) 11 +
    bit ((List.range 3).any fun k => (mget Segment.init s.ecat.segs k).inFault) 10 + bit s.frame.holdover 9 +
    bit s.frame.throttledPrev 8 + bit s.prog.staged.isSome 7 +
    bit ((List.range 4).any fun k => (mget FlipSet.none s.weights.sets k).armed) 6 +
    bit (!s.weights.residentPresent) 5 + bit (allDies.any fun d => !s.dieIn d && !(s.die d).remapped) 4 +
    bit s.prog.contRuns 3 + bit (allDies.any fun d => !s.dieIn d) 2 +
    bit (s.tilesIn.any fun t => s.tileCode t = 1 || s.tileCode t = 2) 1 + bit s.frame.startedPrev 0

/-! ### Run-time objects -/

/-- Energy in µJ of the last n bins; a bin from before PORST_N release counts as `cap` (R396). -/
def Power.binSum (p : Power) (n : Nat) (cap : Rat) : Rat :=
  ((List.range n).map fun k => p.bins.getD k cap).foldl (· + ·) 0

/-- The caps in mW (R389). -/
def State.cap1 (s : State) : Rat := (s.setting 0x210001 * 250 : Nat)
def State.cap10 (s : State) : Rat := (s.setting 0x210002 * 250 : Nat)

/-- A power in mW counted in 1/4 W. -/
def quarterWatts (x : Rat) : Int := (x / 250).floor

def clampU (n : Nat) (x : Int) : Nat := min (2 ^ n - 1) x.toNat

def State.chan (s : State) (ch : Nat) : Chan := mget Chan.init s.pwr.chans ch

def alCode : AlState → Nat
  | .init => 1
  | .preOp => 2
  | .safeOp => 4
  | .op => 8
  | .boot => 3

def State.segment (s : State) (k : Nat) : Segment := mget Segment.init s.ecat.segs k

def MState.code : MState → Nat
  | .unprovisioned => 0
  | .operational => 1
  | .locked => 2
  | .error => 3
  | .zeroised => 4

/-- Valid entries of a recall bank, and damaged ones. -/
def RBank.count (b : RBank) (st : BitVec 2) : Nat := (b.entries.filter fun p => decide (p.2.state = st)).length

def idOf : Option Container → Nat
  | some c => c.programmeId.toNat
  | none => 0

def State.newestReadable (s : State) : Nat := s.svc.readable.getD 0xFFFFFFFF

/-- Largest programme length of a container's tiles (R247). -/
def longestOf (c : Container) : Nat := maxOf (c.placements.map (Container.longest c))

/-- The container loaded last, whose lengths the objects report (R247). -/
def State.newestContainer (s : State) : Option Container := if s.prog.staged.isSome then s.prog.staged else s.prog.running

/-- Highest of all the die temperatures, hub included. -/
def State.hottest (s : State) : Int :=
  (List.range 17).foldl (fun m ch => max m (s.chan ch).tj) (s.chan 0).tj

/-- The value of a run-time object at this moment: index × 256 + subindex. None where the key names no such object. -/
def State.runtime (s : State) (k : Nat) : Option (List Byte) :=
  let ix := k / 256
  let sub := k % 256
  if k = 0x200001 then some (leBytes 1 s.power.code)
  else if k = 0x200007 then some (leBytes 1 (bit s.svc.activeB 0 + bit s.svc.trial 7))
  else if k = 0x200008 then some (leBytes 1 (bit s.svc.slotA.valid 0 + bit s.svc.slotB.valid 1))
  else if k = 0x20000A then some (leBytes 4 s.svc.minutes)
  else if 0x20000B ≤ k ∧ k ≤ 0x20000D then some (leBytes 4 (s.svc.minutesIn.getD (k - 0x20000B) 0))
  else if k = 0x210007 then some (leBytes 2 (uint 16 (max (-32768) (min 32767 (quarterWatts s.pwr.target)))))
  else if k = 0x210008 then some (leBytes 8 s.pwr.energy)
  else if k = 0x210009 then some (leBytes 8 s.pwr.energyEst)
  else if ix = 0x2101 ∧ 1 ≤ sub ∧ sub ≤ 18 then
    some (leBytes 2 (clampU 16 (quarterWatts (s.chan (sub - 1)).lastBin)))
  else if ix = 0x2103 ∧ 1 ≤ sub ∧ sub ≤ 18 then
    some (leBytes 2 (if sub = 18 then 0 else uint 16 (s.chan (sub - 1)).tj))
  else if ix = 0x2104 ∧ 1 ≤ sub ∧ sub ≤ 16 then some (leBytes 1 (s.die (Fin.ofNat 16 (sub - 1))).limit)
  else if ix = 0x2105 ∧ 1 ≤ sub ∧ sub ≤ 18 then
    let c := s.chan (sub - 1)
    some (leBytes 1 (((List.range 4).map fun b => bit (c.fitted.contains b) b).foldl (· + ·) 0 +
      bit c.disagree 4 + bit c.failed 5))
  else if k = 0x220001 then some (leBytes 2 s.diesWord)
  else if ix = 0x2203 ∧ 1 ≤ sub ∧ sub ≤ 16 then
    let live := s.prog.throttle.filter fun h => !(s.handleDies h).isEmpty
    some (leBytes 4 (live.getD (sub - 1) 0).toNat)
  else if k = 0x230004 then some (leBytes 1 s.weights.status)
  else if k = 0x230005 then some (leBytes 4 s.weights.blocksWritten)
  else if k = 0x230006 then some (leBytes 48 s.weights.liveDigest.toNat)
  else if k = 0x230009 then
    some (leBytes 1 (((List.range 4).map fun j => bit (mget FlipSet.none s.weights.sets j).armed j).foldl (· + ·) 0))
  else if k = 0x240005 then
    some (leBytes 4 ((s.banks.filter fun p => p.2.classB && s.dieIn (bankDie p.1)).map fun p => p.1 / 2).eraseDups.length)
  else if k = 0x240007 then some (leBytes 8 ((s.engines.map fun p => p.2.lifeRun).foldl (· + ·) 0))
  else if k = 0x240008 then some (leBytes 8 ((s.engines.map fun p => p.2.lifeMiss).foldl (· + ·) 0))
  else if ix = 0x2401 ∧ 1 ≤ sub ∧ sub ≤ 16 then some (leBytes 4 (s.die (Fin.ofNat 16 (sub - 1))).classBMinutes)
  else if k = 0x250009 then some (leBytes 1 (bit s.rcl.deepActive 0))
  else if k = 0x25000B then some (leBytes 1 s.rcl.consolidation)
  else if k = 0x25000D then some (leBytes 1 s.rcl.throttle)
  else if ix = 0x2506 ∧ 1 ≤ sub ∧ sub ≤ 16 then
    let b := mget RBank.init s.rcl.banks (sub - 1)
    some (leBytes 4 (b.count 2 * 65536 + b.count 1))
  else if k = 0x260004 then some (leBytes 1 s.prog.status)
  else if k = 0x260005 then some (leBytes 4 (idOf s.prog.running))
  else if k = 0x260006 then some (leBytes 4 (idOf s.prog.staged))
  else if k = 0x260007 then some (leBytes 4 (idOf s.prog.retained))
  else if k = 0x26000E then
    some (leBytes 4 (match s.newestContainer with
      | some c => longestOf c
      | none => 0))
  else if k = 0x270001 then some (leBytes 1 s.sec.state.code)
  else if k = 0x270002 then some (leBytes 1 s.sec.alarm)
  else if k = 0x270003 then some (leBytes 1 s.sec.generation)
  else if k = 0x27000C then some (leBytes 1 s.sec.imageKeys.length)
  else if k = 0x280002 then some (leBytes 1 s.ecat.chosenP3.toNat)
  else if k = 0x280003 then some (leBytes 1 s.ecat.chosenMb.toNat)
  else if k = 0x280004 then some (leBytes 2 s.pcie.hpver.toNat)
  else if ix = 0x2801 ∧ 1 ≤ sub ∧ sub ≤ 16 then
    some (leBytes 2 ((s.die (Fin.ofNat 16 (sub - 1))).goineVersion.getD 0))
  else if k = 0x291004 ∨ k = 0x292004 ∨ k = 0x293004 then
    let g := s.segment (ix / 16 % 16 - 1)
    some (leBytes 1 (alCode g.state + bit g.fault 7))
  else if k = 0x2A0004 then some (leBytes 4 (s.test.loopState * 0x1000000 + min s.test.loopErrors 0xFFFFFF))
  else if k = 0x2A0006 then some (leBytes 4 (s.test.strongPassed * 0x1000000 + min s.test.strongLargest 0xFFFFFF))
  else if k = 0x2E0001 then some (leBytes 4 s.newestReadable)
  else if k = 0x2E0006 then some (leBytes 4 s.svc.lost)
  else if k = 0x600001 then some (leBytes 4 s.frameStatus)
  else if k = 0x600002 then some (leBytes 1 s.power.code)
  else if k = 0x600003 then some (leBytes 4 s.newestReadable)
  else if k = 0x600004 then some (leBytes 2 s.deviceStatus)
  else if k = 0x600005 then some (leBytes 2 (clampU 16 (quarterWatts (s.pwr.binSum 1000 s.cap1 / 1000))))
  else if k = 0x600006 then some (leBytes 2 (uint 16 s.hottest))
  else if k = 0x600007 then some (leBytes 2 s.diesWord)
  else if k = 0x600008 then some (leBytes 2 s.prog.heartbeat.toNat)
  else none

/-- Subindices 1 to n of an index. -/
def subKeys (ix n : Nat) : List Nat := (List.range n).map fun k => ix * 256 + k + 1

/-- Every key of a run-time object. -/
def runtimeKeys : List Nat :=
  [0x200001, 0x200007, 0x200008, 0x20000A, 0x20000B, 0x20000C, 0x20000D, 0x210007, 0x210008, 0x210009, 0x220001,
    0x230004, 0x230005, 0x230006, 0x230009, 0x240005, 0x240007, 0x240008, 0x250009, 0x25000B, 0x25000D] ++
  [0x260004, 0x260005, 0x260006, 0x260007, 0x26000E, 0x270001, 0x270002, 0x270003, 0x27000C, 0x280002, 0x280003,
    0x280004, 0x291004, 0x292004, 0x293004, 0x2A0004, 0x2A0006, 0x2E0001, 0x2E0006] ++
  subKeys 0x2101 18 ++ subKeys 0x2103 18 ++ subKeys 0x2104 16 ++ subKeys 0x2105 18 ++ subKeys 0x2203 16 ++
  subKeys 0x2401 16 ++ subKeys 0x2506 16 ++ subKeys 0x2801 16 ++ subKeys 0x6000 8

/-- The snapshot that reads see until the next frame boundary (R495, R515). -/
def State.takeSnapshot (s : State) : State :=
  { s with dict := { s.dict with
    snapshot := runtimeKeys.foldl (fun m k => match s.runtime k with
      | some b => mput m k b
      | none => m) []
    view := some ⟨s.tiles, s.engines, s.banks, s.dies, s.pwr, s.svc, s.sec⟩ } }

/-- The state as records and unit windows show it: its units as they stood at the last frame boundary. -/
def State.shown (s : State) : State :=
  match s.dict.view with
  | none => s
  | some v => { s with
    tiles := v.tiles, engines := v.engines, banks := v.banks, dies := v.dies, pwr := v.pwr, svc := v.svc, sec := v.sec }

/-- What a read of a run-time object gives: the snapshot, or the present value before the first boundary. -/
def State.readRuntime (s : State) (k : Nat) : Option (List Byte) :=
  match s.runtime k with
  | none => none
  | some now => match mget [] s.dict.snapshot k with
    | [] => some now
    | b => some b

end Sys2Proof.Machine
end

