-- ==== Sys2Proof/Machine/PStates.lean ====
section
/-!
DEFINITION. Power states (spec/20): the conditions of Run, the ways into Idle and Doze, the boot set, the software history
of R441, and the output images with their safe values (R205, R470).
-/
namespace Sys2Proof.Machine

/-- The mask bit of a vector, in its vector control (R531, by the PCIe specification). -/
def Pcie.masked (p : Pcie) (n : Nat) : Bool := decide (fieldAt p.msixTable (16 * n + 12) 1 % 2 = 1)

/-- An MSI-X vector: sent, or pending in the PBA while it is masked. -/
def Pcie.signal (p : Pcie) (n : Nat) : Pcie :=
  if p.masked n then { p with msixPending := if p.msixPending.contains n then p.msixPending else p.msixPending ++ [n] }
  else { p with msix := p.msix ++ [n] }

/-- Signal an MSI-X vector while the link is up (R531). -/
def State.vector (s : State) (n : Nat) : State := if s.pcie.link then { s with pcie := s.pcie.signal n } else s

/-- An entry of the software history: kind 1 firmware, 2 programme, 3 image; outcome 0 taken, 1 refused, 2 reverted; the
newest first, 64 at most (R441, R502). -/
def State.history (s : State) (kind outcome : Nat) (digest : BitVec 384) : State :=
  { s with svc := { s.svc with
    history := ((kind, outcome, s.svc.minutes, BitVec.ofNat 64 digest.toNat) :: s.svc.history).take 64 } }

/-! ### Output images (R205, R470) -/

/-- Bytes of `bs` from offset o replaced by `v`. -/
def putBytes (bs : List Byte) (o : Nat) (v : List Byte) : List Byte := bs.take o ++ v ++ bs.drop (o + v.length)

/-- Safe value of output variable k of a segment: the segment objects' value, else the ENI's default. -/
def State.safeValue (s : State) (seg k : Nat) (e : OutEntry) : List Byte :=
  match s.octets (fallbackKey seg k 5) with
  | [] => sliceBytes e.default 0 e.length
  | v => sliceBytes v 0 e.length

/-- Entries of a segment with their variable numbers. -/
def Segment.numbered (g : Segment) : List (Nat × OutEntry) := (List.range g.entries.length).zip g.entries

/-- An image with the safe value of every entry. -/
def State.safeImage (s : State) (seg : Nat) : List Byte :=
  let g := s.segment seg
  let blank := List.replicate (match g.eni with
    | some e => e.imageBytes
    | none => g.committed.length) (0 : Byte)
  g.numbered.foldl (fun im p => putBytes im p.2.offset (s.safeValue seg p.1 p.2)) blank

def State.setSegment (s : State) (k : Nat) (g : Segment) : State :=
  { s with ecat := { s.ecat with segs := mset Segment.init s.ecat.segs k g } }

def State.modSegment (s : State) (k : Nat) (f : Segment → Segment) : State := s.setSegment k (f (s.segment k))

/-- Every output entry of every segment takes its safe value in the committed image (R484, R562). -/
def State.driveSafe (s : State) : State :=
  forAll (List.range 3) (fun s k => s.modSegment k fun g =>
    { g with committed := s.safeImage k, committedPoison := [], carried := s.safeImage k }) s

/-- An ENI takes effect: the segment leaves INIT only at its start, and its images hold the safe values. -/
def State.applyEni (s : State) (seg : Nat) (n : Eni) : State :=
  let entries := n.outputs.map fun o => (⟨o.offset, o.length, o.default, 0, [], false, false⟩ : OutEntry)
  let s1 := s.modSegment seg fun g => { g with
    eni := some n, nextEni := none, entries := entries, state := .init, held := false, awaiting := false, sync0 := false
    badRun := 0, reported := [], opRetry := false }
  let im := s1.safeImage seg
  s1.modSegment seg fun g => { g with committed := im, committedPoison := [], carried := im, pending := im, pendingPoison := [] }

/-- ENIs loaded outside Idle take effect (R470). -/
def State.takeEnis (s : State) : State :=
  forAll (List.range 3) (fun s k => match (s.segment k).nextEni with
    | some n => s.applyEni k n
    | none => s) s

/-! ### Containers -/

/-- A descriptor as it joins the table: its generation is one more than that of the descriptor it replaces, and 1 where it is
new; the generation and the locked flag that a writer gives are read-only and ignored (R27). -/
def GroupTable.join (g : GroupTable) (d : GroupDesc) : GroupTable :=
  let gen : W32 := match GroupTable.find g d.number with
    | some old => old.generation + 1
    | none => 1
  mput g d.number (some { d with generation := gen, locked := false })

/-- The group table with the descriptors that a container carries (R30). -/
def containerTable (c : Container) (g : GroupTable) : GroupTable := c.groups.foldl GroupTable.join g

/-- Dies that a container's placements reach. -/
def State.containerDies (s : State) (c : Container) : List DieId :=
  allDies.filter fun d => (dieTiles d).any fun t => (placementOf (containerTable c s.prog.groups) c t).isSome

/-- A container whose dies are all in service. -/
def State.intact (s : State) (c : Container) : Bool := (s.containerDies c).all s.dieIn

/-- The programme that the next programme start runs: the one a switch asks for, or the running one. -/
def State.nextProgramme (s : State) : Option Container :=
  match s.prog.switchReq with
  | some true => s.prog.staged
  | some false => s.prog.retained
  | none => s.prog.running

/-! ### Power states (R558, R562, R563) -/

/-- The container's model digest equals the live model digest (R427, R558). -/
def State.digestMatches (s : State) : Bool :=
  match s.nextProgramme with
  | some c => decide (c.modelDigest = s.weights.liveDigest)
  | none => false

/-- Every segment with an ENI is in OP. -/
def State.segmentsInOp (s : State) : Bool :=
  (List.range 3).all fun k => (s.segment k).eni.isNone || (decide ((s.segment k).state = .op) && !(s.segment k).held)

/-- The conditions of R558 but for the requested state. -/
def State.runConditions (s : State) : Bool :=
  !s.svc.weightsInvalid && (decide (s.sec.state = .operational) || decide (s.sec.state = .locked)) && s.digestMatches &&
    s.segmentsInOp

/-- A completed transition: event 0x8031 with the new state, and vector 3 (R562). -/
def State.enter (s : State) (p : PState) : State :=
  ({ s with power := p, toward := none }.raise 0x8031 deviceHandle (eventParam p.code 0) 0xFFFF).vector 3

/-- A new boot set (R556). -/
def State.writeBoot (s : State) : State :=
  { s with svc := { s.svc with
    settingsChanged := false
    boot := {
      present := true, container := s.prog.running, continuity := s.prog.continuity, plans := s.weights.plans
      enis := (List.range 3).map fun k => (s.segment k).nextEni.or (s.segment k).eni
      requested := s.accepted 0x200002, settings := s.dict.accepted.filter fun q => bootKey q.1
      octets := s.dict.octets.filter fun q => bootKey q.1, phases := s.pwr.phases, groups := s.prog.groups } } }

/-- A tile on which no programme runs any more: of what it issued, its MOVEs go on sending. -/
def Tile.halt (x : Tile) : Tile :=
  { x.settleNarrow with
    running := false, loops := [], jump := none, varReturn := none, ending := false, landings := []
    fillOp := none, copyOp := none }

def State.haltTiles (s : State) : State :=
  forAll (s.tiles.map fun p => Fin.ofNat 256 p.1) (fun s t => s.modTile t Tile.halt) s

/-- Run to Idle at a frame start: no programme runs, and the committed images hold safe values (R562). -/
def State.goIdle (s : State) : State :=
  let s1 := s.haltTiles.driveSafe.takeEnis
  { s1 with frame := { s1.frame with programmeFrame := none, notBefore := 0 } }.enter .idle

/-- What Idle to Doze is refused for: a load, restore, remap, consolidation or firmware switch under way, or an armed flip
set (R562). -/
def State.dozeBusy (s : State) : Bool :=
  decide (s.weights.status = 1) || decide (s.weights.status = 2) || s.weights.remapRunning ||
    decide (s.rcl.consolidation = 1) || s.svc.switchReq || s.svc.revertReq.isSome ||
    (List.range 4).any fun k => (mget FlipSet.none s.weights.sets k).armed

/-- A bank whose rewrite is abandoned is free. -/
def Bank.abandon (k : Bank) : Bank := if k.state = .writing then { k with state := .free, fset := none } else k

/-- A tile in Doze: scratchpad, vector registers, turnstiles, booth, statistics and flags are lost. The safety-net pool is
made anew from the record areas at the wake, so its words stay (R564, R566). -/
def Tile.gated (x : Tile) : Tile := { Tile.init with pool := x.pool, corrected := x.corrected, longest := x.longest }

/-- A task that calibrates a bank just written. -/
def Task.afterWrite : Task → Bool
  | .fresh _ => true
  | _ => false

/-- An engine in Doze. Its translation table is made anew from the manifests at the wake (R566). A calibration in progress stays,
to resume after the wake; a rewrite that had begun waits again, and the calibration after it goes with it (R563). -/
def Engine.gated (g : Engine) : Engine :=
  { g with
    stage := Stage.zero, ops := [], lanes := [], pairLanes := false, check := [], badX := [], lastIssue := 0, priorIssue := 0
    tasks := g.tasks.filter fun t => !t.afterWrite, begun := []
    cal := g.cal.filter fun c => !c.task.afterWrite }

def mapValues {α β : Type} (m : SMap α) (f : α → β) : SMap β := m.map fun p => (p.1, f p.2)

/-- Entries equal to the default leave a map. -/
def dropDefault {α : Type} [DecidableEq α] (d : α) (m : SMap α) : SMap α := m.filter fun p => decide (p.2 ≠ d)

/-- Numbers of the flip sets of maintenance rewrites under way. -/
def State.rewriteSets (s : State) : List Nat :=
  (List.range 4).filter fun j =>
    let f := mget FlipSet.none s.weights.sets j
    f.used && f.refresh && !f.armed && !f.held && !f.committing

/-- Every maintenance rewrite is abandoned: its bank is free, or keeps what it holds, and its flip set is unused (R563). -/
def State.abandonRewrites (s : State) : State :=
  let js := s.rewriteSets
  let leave : Bank → Bank := fun k => match k.fset with
    | some j => if js.contains j.val then { k.abandon with fset := none, lane := false } else { k.abandon with lane := false }
    | none => { k.abandon with lane := false }
  { s with
    banks := dropDefault Bank.init (mapValues s.banks leave)
    weights := { s.weights with
      waitingWrites := [], sets := js.foldl (fun m j => mset FlipSet.none m j FlipSet.none) s.weights.sets } }

/-- Idle to Doze (R563, R564). -/
def State.enterDoze (s : State) : State :=
  let s1 := { s.abandonRewrites with svc := { s.svc with savedCoeff := s.pwr.chans } }
  let s2 := s1.writeBoot
  let s3 := { s2 with
    pcie := if s2.pcie.link then { s2.pcie with rate := 1, width := 1 } else s2.pcie
    tiles := dropDefault Tile.init (mapValues s2.tiles Tile.gated)
    engines := dropDefault Engine.init (mapValues s2.engines Engine.gated)
    dies := dropDefault Die.init (mapValues s2.dies fun d => { d with powered := false, shadow := [], shadowQ := [] })
    fabric := { s2.fabric with rows := [], tainted := [], wire := [], globals := [] }
    sec := s2.sec
    rcl := { s2.rcl with banks := dropDefault RBank.init (mapValues s2.rcl.banks fun b => { b with scan := 0 }) } }
  s3.enter .doze

end Sys2Proof.Machine
end

