-- ==== Sys2Proof/Machine/Loop.lean ====
section
/-!
DEFINITION. A loop-back under way (spec/21): its conditions, what it occupies, its progress at frame boundaries, and its end.
-/
namespace Sys2Proof.Machine

/-- A loop-back trains or runs. -/
def Test.looping (x : Test) : Bool := decide (x.loopState = 1) || decide (x.loopState = 2)

/-- The interface is taken by a loop-back at depths 1 to 3. -/
def State.loopHolds (s : State) (iface : Nat) : Bool :=
  s.test.looping && decide (s.test.loopIface = some iface) && decide (s.test.loopDepth ≠ 4)

/-- Interface number of module m of die d (R569). -/
def goineIface (d : DieId) (m : Nat) : Nat := 0x40 + 4 * d.val + m
def ifaceDie (i : Nat) : DieId := Fin.ofNat 16 ((i - 0x40) / 4)
def ifaceModule (i : Nat) : Nat := (i - 0x40) % 4

def State.moduleUp (s : State) (d : DieId) (m : Nat) : Bool := (s.die d).modulesUp.getD m false

/-- Interface codes of R569. -/
def ifaceValid (i : Nat) : Bool :=
  decide (i ≤ 3) || decide (i = 8) || (decide (0x10 ≤ i) && decide (i ≤ 0x17)) || (decide (0x20 ≤ i) && decide (i ≤ 0x2F)) ||
    (decide (0x40 ≤ i) && decide (i ≤ 0x7F))

/-- The column "Allowed" of the table Loop-back conditions, but for the channel that starts it (R570). -/
def State.loopAllowed (s : State) (i depth : Nat) : Bool :=
  if i ≤ 2 then
    if depth = 4 then s.awake && decide ((s.segment i).state = .op)
    else decide (s.power = .idle) && decide ((s.segment i).state = .init)
  else if i = 3 then true
  else if i = 8 then decide (depth ≠ 4) || decide (s.power ≠ .doze)
  else if i < 0x20 then decide (s.power ≠ .doze)
  else if i < 0x40 then
    decide (s.power = .idle) && decide (s.weights.status ≠ 1) && decide (s.weights.status ≠ 2) &&
      decide (s.rcl.consolidation ≠ 1)
  else
    decide (s.power = .idle) && (decide (2 ≤ ifaceModule i) || s.moduleUp (ifaceDie i) (1 - ifaceModule i))

/-- The channel that may start depths 1 to 3 of an interface that a party itself uses (R570). -/
def loopChannelOk (c : Channel) (i depth : Nat) : Bool :=
  decide (depth = 4) || (if i = 3 then decide (c = .mailbox) else if i = 8 then decide (c = .p3) else true)

/-- The retrain that follows a loop-back or an error limit: a link at Goine 1.2 rejoins at the next boundary, any other stays
down (R548). -/
def State.retrainModule (s : State) (d : DieId) (m : Nat) : State :=
  if (s.die d).goineVersion = some 0x0102 then s.modDie d fun x => { x with rejoin := x.rejoin ++ [m] }
  else s.raise 0x4013 (dieHandle d) 0 (BitVec.ofNat 16 m)

/-- What the interface does when its loop-back ends (R572). -/
def State.freeIface (s : State) (i depth : Nat) : State :=
  if depth = 4 then s
  else if i ≤ 2 then s.modSegment i fun g => { g with state := .init, sync0 := false, awaiting := false, opRetry := false }
  else if 0x40 ≤ i then s.retrainModule (ifaceDie i) (ifaceModule i)
  else s

/-- The loop-back ends in a state, and event 0x4070 reports errors or a missing lock (R571, R572, R580). -/
def State.endLoop (s : State) (code : Nat) : State :=
  if !s.test.looping then s else
  match s.test.loopIface with
  | none => s
  | some i =>
    let s1 := { s with test := { s.test with loopState := code } }.freeIface i s.test.loopDepth
    if code = 3 ∨ s.test.loopErrors ≠ 0 then
      s1.raise 0x4070 deviceHandle (eventParam 0 (min 0xFFFFFF s.test.loopErrors)) (BitVec.ofNat 16 i)
    else s1

/-- A request that leads to state `t` ends a loop-back whose conditions it breaks (R573). -/
def State.breakLoop (s t : State) : State :=
  match s.test.loopIface with
  | none => s
  | some i => if s.test.looping && !t.loopAllowed i s.test.loopDepth then s.endLoop 4 else s

/-- A frame boundary of a loop-back: its conditions, the lock of its pattern and the errors it counts, which the part decides
(R571). -/
def State.loopBoundary (s : State) : State :=
  if !s.test.looping then s else
  let s1 := s.breakLoop s
  if !s1.test.looping then s1
  else if s1.test.loopState = 1 then
    { s1.takeFree with test := { s1.test with loopState := if Config.loopLocks s1.free then 2 else 1 } }
  else
    { s1.takeFree with test := { s1.test with loopErrors := min 0xFFFFFF (s1.test.loopErrors + Config.loopErrors s1.free) } }

end Sys2Proof.Machine
end

