-- ==== Sys2Proof/Machine/Trust.lean ====
section
/-!
DEFINITION. What every request of a party shares: the channel that carries it and its answer (R12, R496), the roles of the
security island (R445, R447), the acceptance of signed structures (R451), and the firmware slots (R423).
-/
namespace Sys2Proof.Machine

/-! ### Channels and their answers -/

/-- The answer of an access: an abort code, 0 for none, and the data of a read. -/
def State.answer (s : State) (c : Channel) (abort : W32) (data : List Byte) : State :=
  match c with
  | .p3 => { s with dict := { s.dict with p3Abort := abort, p3Data := data } }
  | .mailbox => { s with dict := { s.dict with mbAbort := abort, mbData := data } }

/-- The ringmaster has an image to run (R452). -/
def State.booted (s : State) : Bool := s.svc.slotA.valid || s.svc.slotB.valid

/-- Secure boot has stopped: P3 stands in BOOT, and firmware images are accepted (R452). -/
def State.startHalted (s : State) : Bool := decide (s.power = .off) && decide (s.ecat.p3 = .boot)

/-- The channel reaches the dictionary: P3 has a CoE mailbox in PRE-OP, SAFE-OP and OP; the PCIe mailbox needs the host
protocol (R487, R518). -/
def State.serves (s : State) (c : Channel) : Bool :=
  decide (s.power ≠ .off) && s.booted &&
    (match c with
    | .p3 => !s.loopHolds 3 && (decide (s.ecat.p3 = .preOp) || decide (s.ecat.p3 = .safeOp) || decide (s.ecat.p3 = .op))
    | .mailbox => s.pcie.link && s.pcie.ready)

/-- After a level-3 alarm every dictionary write but those of enrolment, attestation and the event log is refused (R464). -/
def State.wiped (s : State) : Bool :=
  decide (s.sec.state = .zeroised) || (decide (s.sec.state = .error) && decide (s.sec.before = .zeroised))

/-- A checked access (R496): the first check that holds names the abort code and nothing else changes; else the effect takes
place. An access during a ringmaster restart is cut short (R422). -/
def State.request (s : State) (c : Channel) (checks : List (Bool × W32)) (f : State → State) : State :=
  if !s.serves c then s
  else if s.svc.restarting then s.answer c 0x08000020 []
  else if s.wiped then s.answer c 0x08000022 []
  else match checks.find? fun p => p.1 with
    | some p => s.answer c p.2 []
    | none => (f s).answer c 0 []

/-- A checked write of enrolment, attestation or the event log, which a level-3 alarm leaves open (R464). -/
def State.requestOpen (s : State) (c : Channel) (checks : List (Bool × W32)) (f : State → State) : State :=
  if !s.serves c then s
  else if s.svc.restarting then s.answer c 0x08000020 []
  else match checks.find? fun p => p.1 with
    | some p => s.answer c p.2 []
    | none => (f s).answer c 0 []

/-- A checked read. -/
def State.fetch (s : State) (c : Channel) (checks : List (Bool × W32)) (data : List Byte) (f : State → State) : State :=
  if !s.serves c then s
  else if s.svc.restarting then s.answer c 0x08000020 []
  else match checks.find? fun p => p.1 with
    | some p => s.answer c p.2 []
    | none => (f s).answer c 0 data

/-! ### Roles (R444, R445, R447) -/

def State.auth (s : State) (c : Channel) : Auth :=
  match c with
  | .p3 => s.sec.p3
  | .mailbox => s.sec.mailbox

def State.setAuth (s : State) (c : Channel) (a : Auth) : State :=
  match c with
  | .p3 => { s with sec := { s.sec with p3 := a } }
  | .mailbox => { s with sec := { s.sec with mailbox := a } }

/-- The module state offers the services of the roles: operational, and locked but for enrolment and image key import. -/
def Security.working (v : Security) : Bool := decide (v.state = .operational) || decide (v.state = .locked)

/-- Authenticated as User or Crypto Officer, in a state that offers the service. -/
def State.isUser (s : State) (c : Channel) : Bool := s.sec.working && (s.auth c).role.isSome
def State.isOfficer (s : State) (c : Channel) : Bool := s.sec.working && decide ((s.auth c).role = some .officer)

/-- R499: not authenticated. -/
def State.notUser (s : State) (c : Channel) : Bool × W32 := (!s.isUser c, 0x08000022)
def State.notOfficer (s : State) (c : Channel) : Bool × W32 := (!s.isOfficer c, 0x08000022)

/-- End of an authentication; its nonce and session stay with the channel (R445). -/
def Auth.logout (a : Auth) : Auth := { a with role := none }

def State.endAuthentications (s : State) : State :=
  { s with sec := { s.sec with p3 := s.sec.p3.logout, mailbox := s.sec.mailbox.logout } }

/-! ### Signed structures (R451) -/

/-- Acceptance of a structure of this purpose; firmware also needs the version floor. -/
def State.trailerOk (s : State) (purpose : Nat) (t : Trailer) : Bool :=
  t.ecdsaOk && t.mldsaOk && t.anchorOk && decide (t.purpose = purpose) &&
    (decide (purpose ≠ 1) || decide (s.sec.floor ≤ t.svn))

/-! ### Firmware slots (R423, R452) -/

def State.putSlot (s : State) (toB : Bool) (x : Slot) : State :=
  if toB then { s with svc := { s.svc with slotB := x } } else { s with svc := { s.svc with slotA := x } }

/-- An image into a slot: verified, it becomes valid; else the slot is invalid. -/
def State.writeFirmware (s : State) (toB : Bool) (f : Firmware) : State :=
  if s.trailerOk 1 f.trailer then
    (s.putSlot toB ⟨true, f.version, f.digest⟩).event 0x8020 deviceHandle
  else
    (((s.putSlot toB ⟨false, f.version, f.digest⟩).event 0x6015 deviceHandle).raise 0x8022 deviceHandle (eventParam 1 0)
      0xFFFF).history 1 1 f.digest

end Sys2Proof.Machine
end

