-- ==== Sys2Proof/Machine/EcatOps.lean ====
section
/-!
DEFINITION. EtherCAT (spec/17): returned cyclic frames, inputs to the tiles, outputs from them, sample streams, the state of
each segment, and the service port P3.
-/
namespace Sys2Proof.Machine

/-! ### Input blocks (R261, R472, R479) -/

/-- Input image of a segment in the hub buffer. The spec gives the images the first 4 MiB and no place in it (DESIGN CHOICE, log
98). -/
def inputImage (seg : Nat) : Nat := seg * 0x1000

/-- An input block entry. -/
structure InBlock where
  offset : Nat
  length : Nat
  tile : Handle
  row : Nat
  scope : Nat
  ts : Nat
  value : Nat
  deriving DecidableEq, Repr

def InBlock.parse (b : List Byte) : InBlock :=
  ⟨fieldAt b 0 2, fieldAt b 2 2, BitVec.ofNat 32 (fieldAt b 4 4), fieldAt b 8 2, fieldAt b 10 1, fieldAt b 11 1, fieldAt b 12 2⟩

/-- Object that holds input block entry n of a segment. -/
def inBlockKey (seg n : Nat) : Nat := (0x2911 + 16 * seg) * 256 + n + 1

/-- Entries of a segment in use, in entry order. -/
def State.inBlocks (s : State) (seg : Nat) : List InBlock :=
  ((List.range 128).map fun n => InBlock.parse (s.octets (inBlockKey seg n))).filter fun b => decide (b.length ≠ 0)

/-- The rows of n bytes at a hub offset, the last one filled up with zeros. -/
def State.hubRows (s : State) (a n : Nat) : List Row :=
  let bytes := s.hub.read a n
  (List.range ((n + 255) / 256)).map fun r =>
    let bad := BitVec.ofNat 32 (packNat 1 ((List.range 32).map fun w =>
      if (List.range 8).any fun k => decide (256 * r + 8 * w + k < n) && s.hub.poisoned (a + 256 * r + 8 * w + k) then 1 else 0))
    Row.ofBytes (sliceBytes bytes (256 * r) 256) bad

def InBlock.done (b : InBlock) (t : TileId) : DoneTo :=
  if b.scope = 2 then .global (BitVec.ofNat 8 b.ts) b.value else .tile t (BitVec.ofNat 8 b.ts) b.value

/-- The forwarder requests tickets for every input block; after a frame that is not good every word is poisoned. -/
def State.forwardInputs (s : State) (seg : Nat) (bad : Bool) : State :=
  forAll (s.inBlocks seg) (fun s b =>
    match Handle.tile? b.tile with
    | none => s
    | some t =>
      let rows := (s.hubRows (inputImage seg + b.offset) b.length).map fun r => if bad then r.allPoison else r
      s.agentRequest 0x100 seg t b.row rows (b.done t)) s

/-- PROCESS_DATA_FORWARD: the oldest granted block of the segment is written, then its done add is applied. -/
def execProcessDataForward (seg : Fin 3) (s : State) : Host.Outcome State Fault Refusal :=
  .next (
    match s.agents.find? fun a => decide (a.holder = 0x100) && decide (a.unit = seg.val) && a.granted with
    | none => s
    | some a => s.agentWrite a false)

/-! ### Outputs (R480, R481) -/

/-- The bytes of n source rows from a tile, and of each whether its word is poisoned. Rows of a lost die read poisoned. -/
def State.outputBytes (s : State) (t : TileId) (first n : Nat) : List (Byte × Bool) :=
  let x := s.tile t
  (List.range n).map fun k =>
    let r := x.row (first + k / 256)
    (BitVec.ofNat 8 (elemAt 8 r.data.toNat (k % 256)), r.poison.getLsbD (k % 256 / 8) || !s.tileIn t ||
      s.ecat.badBeats.contains ((tileDie t).val, first + k / 256, k % 256 / 32))

/-- Collected bytes enter the pending image, with their poison. -/
def Segment.collect (g : Segment) (offset : Nat) (bs : List (Byte × Bool)) : Segment :=
  let at' := (List.range bs.length).zip bs
  { g with
    pending := putBytes g.pending offset (bs.map Prod.fst)
    pendingPoison := (g.pendingPoison.filter fun b => decide (b < offset) || decide (offset + bs.length ≤ b)) ++
      (at'.filter fun p => p.2.2).map fun p => offset + p.1 }

/-- OUTPUT_COLLECT: the collector serves output map entry `entry` if its ready turnstile has completed. -/
def execOutputCollect (entry : Fin 256) (s : State) : Host.Outcome State Fault Refusal :=
  .next (
    match s.ecat.due.find? fun p => decide (p.1 = entry.val) with
    | none => s
    | some d =>
      let m := OutMap.parse (s.octets (outMapKey entry.val))
      let s1 := { s with ecat := { s.ecat with due := s.ecat.due.erase d } }
      match Handle.tile? m.tile with
      | none => s1
      | some t =>
        let done := DoneTo.tile t (BitVec.ofNat 8 m.doneTs) m.doneValue
        if d.2 then
          (s1.modSegment m.segment fun g => { g with lateCollections := g.lateCollections + 1 }).applyHubDone done true
        else
          let bs := s1.outputBytes t m.row m.length
          let s2 := { s1 with ecat := { s1.ecat with
            badBeats := s1.ecat.badBeats.filter fun b => decide (b.1 ≠ (tileDie t).val) } }
          (s2.modSegment m.segment fun g => g.collect m.offset bs).applyHubDone done (bs.any Prod.snd))

/-! ### Sample streams (R486) -/

/-- A sample stream context. -/
structure Stream where
  segment : Nat
  enable : Bool
  size : Nat
  maxCount : Nat
  countAt : Nat
  samplesAt : Nat
  ring : Nat
  depth : Nat
  ts : Nat
  value : Nat
  deriving DecidableEq, Repr

def Stream.parse (b : List Byte) : Stream :=
  ⟨fieldAt b 0 1, decide (fieldAt b 1 1 % 2 = 1), fieldAt b 2 1, fieldAt b 3 1, fieldAt b 4 2, fieldAt b 6 2, fieldAt b 8 4,
    fieldAt b 12 4, fieldAt b 16 1, fieldAt b 18 2⟩

def State.stream (s : State) (k : Nat) : Stream := Stream.parse (s.octets (0x296001 + k))

/-- The header of a ring: write index, gap count, time of the last append. -/
def State.streamHeader (s : State) (k : Nat) (h : Nat × Nat × Nat) : State :=
  let c := s.stream k
  { s with
    hub := s.hub.write (routineArea + c.ring) (leBytes 4 h.1 ++ leBytes 4 h.2.1 ++ leBytes 8 h.2.2)
    ecat := { s.ecat with streams := mset (0, 0, 0) s.ecat.streams k h } }

/-- Samples i to i + n − 1 of the frame go to their ring positions, from write index w on. -/
def State.streamSamples (s : State) (c : Stream) (w : Nat) (n : Nat) : State :=
  forAll (List.range n) (fun s i =>
    let src := inputImage c.segment + c.samplesAt + i * c.size
    { s with hub := s.hub.write (routineArea + c.ring + 256 + (w + i) % c.depth * c.size) (s.hub.read src c.size) }) s

/-- After a good frame: count, samples, header, done add. -/
def State.appendStream (s : State) (k : Nat) : State :=
  let c := s.stream k
  let h := mget (0, 0, 0) s.ecat.streams k
  let count := (s.hub.get (inputImage c.segment + c.countAt)).toNat
  let n := min count c.maxCount
  let s1 := if c.maxCount < count then s.deviceEvent 0x4056 k else s
  let s2 := s1.streamSamples c h.1 n
  let s3 := s2.streamHeader k ((h.1 + n) % 0x100000000, h.2.1, if n = 0 then h.2.2 else s.nowNs)
  s3.applyHubDone (.global (BitVec.ofNat 8 c.ts) c.value) false

/-- After a frame that is not good: one gap more. -/
def State.gapStream (s : State) (k : Nat) : State :=
  let h := mget (0, 0, 0) s.ecat.streams k
  s.streamHeader k (h.1, (h.2.1 + 1) % 0x100000000, h.2.2)

/-- Enabled contexts of a segment. -/
def State.streamsOf (s : State) (seg : Nat) : List Nat :=
  (List.range 8).filter fun k =>
    (s.stream k).enable && decide ((s.stream k).segment = seg) && decide ((s.stream k).depth ≠ 0)

/-! ### Returned frames (R472, R477, R482, R483) -/

/-- P0's reference clock is lost: the calliope holds over (R295, R477). -/
def State.loseLock (s : State) : State :=
  if s.frame.locked then
    ({ s with frame := { s.frame with
      locked := false, holdover := true, dcLost := true, lockRun := 0 } }).event 0x4030 deviceHandle
  else { s with frame := { s.frame with dcLost := true, lockRun := 0 } }

/-- The segment is in fault. -/
def State.failSegment (s : State) (seg : Nat) : State :=
  if (s.segment seg).fault then s
  else (s.modSegment seg fun g => { g with fault := true }).deviceEvent 0x4052 seg

/-- A frame that is not good: inputs forwarded poisoned, gaps counted, and fault after three in a row. -/
def State.badFrame (s : State) (seg : Nat) : State :=
  let s1 := s.modSegment seg fun g => { g with awaiting := false, badRun := g.badRun + 1 }
  let s2 := (s1.forwardInputs seg true).deviceEvent 0x4051 seg
  let s3 := forAll (s2.streamsOf seg) State.gapStream s2
  if 3 ≤ (s3.segment seg).badRun then s3.failSegment seg else s3

/-- A good frame: the input image, the input blocks, the sample streams. -/
def State.goodFrame (s : State) (seg : Nat) (inputs : List Byte) : State :=
  let s1 := s.modSegment seg fun g => { g with awaiting := false, badRun := 0 }
  let s2 := { s1 with hub := s1.hub.write (inputImage seg) inputs }
  let s3 := s2.forwardInputs seg false
  forAll (s3.streamsOf seg) State.appendStream s3

/-- What the BRD shows (R483). -/
def State.alStatus (s : State) (seg : Nat) (r : CyclicReturn) : State :=
  if r.allInOp then s.modSegment seg fun g => { g with reported := [], opRetry := false }
  else if (s.segment seg).reported.contains r.station then s
  else
    (s.modSegment seg fun g => { g with reported := g.reported ++ [r.station], opRetry := true }).raise 0x4054 deviceHandle
      (eventParam 0 r.station) (BitVec.ofNat 16 seg)

/-- The clock datagram of P0 (R477). -/
def State.clockDatagram (s : State) (seg : Nat) (ok : Bool) : State :=
  if seg ≠ 0 then s
  else
    let n := if ok then 0 else (s.segment 0).dcBad + 1
    let s1 := s.modSegment 0 fun g => { g with dcBad := n }
    if n = 8 then s1.loseLock
    else if ok then { s1 with frame := { s1.frame with dcLost := false } }
    else s1

/-- Key of the return limit of a segment. -/
def returnLimitKey (seg : Nat) : Nat := 0x291005 + 0x1000 * seg

/-- CYCLIC_FRAME_RETURN. -/
def execCyclicFrameReturn (seg : Fin 3) (r : CyclicReturn) (s : State) : Host.Outcome State Fault Refusal :=
  .next (
    if !(s.segment seg.val).awaiting then s else
    let good := r.wkcOk && decide (r.delayUs ≤ s.setting (returnLimitKey seg.val))
    let s1 := if good then s.goodFrame seg.val r.inputs else s.badFrame seg.val
    (s1.alStatus seg.val r).clockDatagram seg.val r.dcOk)

/-- FRAME_RETURN_TIMEOUT: the frame has not returned within the limit. Its clock datagram is bad. -/
def execFrameReturnTimeout (seg : Fin 3) (s : State) : Host.Outcome State Fault Refusal :=
  .next (
    if !(s.segment seg.val).awaiting then s else (s.badFrame seg.val).clockDatagram seg.val false)

/-- PORT_LINK_LOSS (R477, R482). -/
def execPortLinkLoss (seg : Fin 3) (s : State) : Host.Outcome State Fault Refusal :=
  .next (
    if !(s.segment seg.val).linkUp then s else
    let s1 := (s.modSegment seg.val fun g => { g with linkUp := false }).failSegment seg.val
    if seg.val = 0 then s1.loseLock else s1)

/-- PORT_LINK_RETURN: the segment restarts from INIT with its ENI. -/
def execPortLinkReturn (seg : Fin 3) (s : State) : Host.Outcome State Fault Refusal :=
  .next (
    let g := s.segment seg.val
    if g.linkUp then s
    else s.setSegment seg.val { g with linkUp := true, state := .init, awaiting := false, sync0 := false })

/-- SUBDEVICE_OP_RETRY: every 100 ms the device asks for OP again, in acyclic frames (R483). -/
def execSubdeviceOpRetry (seg : Fin 3) (s : State) : Host.Outcome State Fault Refusal :=
  .next (if (s.segment seg.val).opRetry then s.modSegment seg.val fun g => { g with acyclicWaits := true } else s)

/-- ACYCLIC_FRAME leaves only after the cyclic frame has returned, and 100 µs before the next frame start at the latest (R473). -/
def execAcyclicFrame (seg : Fin 3) (s : State) : Host.Outcome State Fault Refusal :=
  .next (
    if (s.segment seg.val).awaiting || decide (s.nextStart < s.now + 80000) then s
    else s.modSegment seg.val fun g => { g with acyclicWaits := false })

/-- DC_REFERENCE_LOST (R477). -/
def execDcReferenceLost (s : State) : Host.Outcome State Fault Refusal := .next s.loseLock

/-! ### Network configuration (R469, R470, R476) -/

/-- What R469 refuses a file for, in its order; 0 for nothing. -/
def State.eniReason (s : State) (n : Eni) : Nat :=
  if !n.featuresOk then 1
  else if n.cycleUs ≠ s.accepted 0x200003 then 2
  else if 256 < n.subdevices ∨ 4096 < n.vars then 3
  else if 1434 < n.imageBytes then 4
  else 0

/-- LOAD_ENI. A loaded file takes effect in Idle only. -/
def execLoadEni (c : Channel) (seg : Fin 3) (eni : Eni) (s : State) : Host.Outcome State Fault Refusal :=
  .next (s.request c [] fun s =>
    let r := s.eniReason eni
    if r ≠ 0 then s.raise 0x4050 deviceHandle (openParam 0x4050 r 0) (BitVec.ofNat 16 seg.val)
    else
      let s := if s.test.loopIface = some seg.val then s.endLoop 4 else s
      let s1 := if s.power = .idle then s.applyEni seg.val eni
        else s.modSegment seg.val fun g => { g with nextEni := some eni }
      s1.writeBoot)

/-- SEGMENT_START: INIT to OP with distributed clocks, 15,000 drift frames and SYNC0. -/
def execSegmentStart (seg : Fin 3) (s : State) : Host.Outcome State Fault Refusal :=
  .next (
    let g := s.segment seg.val
    if s.power = .off ∨ s.ecat.stopped ∨ g.eni.isNone ∨ g.held ∨ !g.linkUp ∨ s.loopHolds seg.val ∨ (g.state = .op ∧ !g.fault) then s else
    let s1 := s.setSegment seg.val { g with
      state := .op, fault := false, badRun := 0, dcBad := 0, sync0 := true, driftFrames := 15000
      shift := s.setting (0x291006 + 0x1000 * seg.val), reported := [], opRetry := false, awaiting := false }
    if g.fault then s1.deviceEvent 0x4053 seg.val else s1)

/-! ### The service port (R437, R487 to R490, R517) -/

/-- P3_LINK_LOSS: link loss, or the SM2 watchdog. -/
def execP3LinkLoss (s : State) : Host.Outcome State Fault Refusal :=
  .next (
    ({ s with ecat := { s.ecat with p3Link := false }, svc := { s.svc with emergency := [] } }).event 0x4055 deviceHandle)

/-- RXPDO_RECEIVE: new process data in OP. -/
def execRxpdoReceive (variant : Byte) (useVariant : Bool) (heartbeat : W16) (s : State) : Host.Outcome State Fault Refusal :=
  .next (
    if s.ecat.p3 ≠ .op ∨ s.loopHolds 3 then s
    else { s with
      ecat := { s.ecat with p3Link := true }
      prog := { s.prog with rxVariant := variant, useRx := useVariant, heartbeat := heartbeat } })

/-- EMERGENCY_SEND: one message leaves from the head of the queue, while P3 has a CoE mailbox. -/
def execEmergencySend (s : State) : Host.Outcome State Fault Refusal :=
  .next (
    match s.svc.emergency with
    | [] => s
    | (code, q) :: rest => if !s.serves .p3 then s else { s with
        svc := { s.svc with emergency := rest }
        ecat := { s.ecat with emergencySent := [0x00, 0xFF, 0x80] ++ leBytes 2 code ++ leBytes 3 (q % 0x1000000) } })

/-- AL transitions that a SubDevice takes on request. -/
def alLegal : AlState → AlState → Bool
  | .init, r => decide (r = .init) || decide (r = .preOp) || decide (r = .boot)
  | .preOp, r => decide (r = .init) || decide (r = .preOp) || decide (r = .safeOp)
  | .safeOp, r => decide (r ≠ .boot)
  | .op, r => decide (r ≠ .boot)
  | .boot, r => decide (r = .init) || decide (r = .boot)

/-- P3_STATE_TRANSITION. At SAFE-OP the device chooses the dictionary revision (R438, R488). -/
def execP3StateTransition (request : AlState) (s : State) : Host.Outcome State Fault Refusal :=
  .next (
    if s.power = .off ∨ !alLegal s.ecat.p3 request ∨ s.loopHolds 3 then s else
    let chosen := if s.ecat.offerMade then min 5 s.ecat.offered.toNat else 5
    { s with ecat := { s.ecat with
      p3 := request, p3Link := true
      chosenP3 := if s.ecat.p3 = .preOp ∧ request = .safeOp then BitVec.ofNat 8 chosen else s.ecat.chosenP3
      offerMade := s.ecat.offerMade && decide (request ≠ .init) } })

/-- REVISION_OFFER: a write of 0x2800:01. -/
def execRevisionOffer (c : Channel) (rev : Byte) (s : State) : Host.Outcome State Fault Refusal :=
  .next (s.request c [(decide (c ≠ .p3) || decide (s.ecat.p3 ≠ .preOp), 0x08000022), (decide (rev.toNat < 4), 0x06090032)]
    fun s => ({ s with ecat := { s.ecat with offered := rev, offerMade := true } }).acceptSetting 0x280001 rev.toNat)

/-- FOE_WRITE (R452, R489): in BOOT the image goes to slot A, else to the inactive slot. A refused write answers with its FoE error
code. -/
def execFoeWrite (c : Channel) (nameOk : Bool) (isRead : Bool) (image : Firmware) (s : State) :
    Host.Outcome State Fault Refusal :=
  .next (
    let halted := s.startHalted
    if s.ecat.p3 = .init ∨ (c ≠ .p3 ∧ !halted) ∨ s.loopHolds 3 then s
    else if isRead then s.answer c 0x8004 []
    else if !nameOk then s.answer c 0x8001 []
    else if !halted && !s.isUser c then s.answer c 0x8002 []
    else
      let s1 := s.writeFirmware (decide (s.ecat.p3 ≠ .boot) && !s.svc.activeB) image
      let s2 := if halted && s.trailerOk 1 image.trailer then { s1 with svc := { s1.svc with activeB := false } } else s1
      s2.answer c (if s.trailerOk 1 image.trailer then 0 else 0x800B) [])

end Sys2Proof.Machine
end

