-- ==== Sys2Proof/Machine/HdWord.lean ====
section
/-!
DEFINITION. The encoding of HD and recall commands (R341, R364), and the registers that they read.
-/
namespace Sys2Proof.Machine

/-! ### The 128-bit command (R341) -/

/-- The fields that a command uses: those of registers, and masks over IMM, IMM2 and HBO. -/
structure HdUse where
  w : Bool
  d : Bool
  a : Bool
  b : Bool
  acc : Bool
  imm : Nat
  imm2 : Nat
  hbo : Bool
  deriving DecidableEq, Repr

/-- Every field outside the used ones is 0. -/
def HdUse.clean (u : HdUse) (x : BitVec 128) : Bool :=
  let z : Nat → Nat → Bool := fun lo n => decide (bitsOf x.toNat lo n = 0)
  z 96 5 && (u.w || z 118 2) && (u.d || z 113 5) && (u.a || z 108 5) && (u.b || z 103 5) && (u.acc || z 101 2) &&
    decide (BitVec.ofNat 32 (bitsOf x.toNat 64 32) &&& ~~~BitVec.ofNat 32 u.imm = 0) &&
    decide (BitVec.ofNat 32 (bitsOf x.toNat 32 32) &&& ~~~BitVec.ofNat 32 u.imm2 = 0) && (u.hbo || z 0 32)

def hdWidthOf (n : Nat) : Option HdWidth :=
  match n with
  | 0 => some .w2048
  | 1 => some .w4096
  | 2 => some .w8192
  | _ => none

def signFmtOf (n : Nat) : Option SignFmt :=
  match n with
  | 0 => some .int8
  | 1 => some .int16
  | 2 => some .int32
  | _ => none

/-- The tables of R341 and R364: what a word of this OP uses, and its command. None for an undefined code. -/
def hdRow (o : HdOrigin) (x : BitVec 128) : Option (HdUse × Instr) :=
  let f : Nat → Nat → Nat := fun lo n => bitsOf x.toNat lo n
  let d : Fin 32 := Fin.ofNat 32 (f 113 5)
  let a : Fin 32 := Fin.ofNat 32 (f 108 5)
  let b : Fin 32 := Fin.ofNat 32 (f 103 5)
  let acc : Fin 4 := Fin.ofNat 4 (f 101 2)
  let imm : Nat → Nat → Nat := fun lo n => f (64 + lo) n
  let imm2 : Nat → Nat → Nat := fun lo n => f (32 + lo) n
  let hbo : W32 := BitVec.ofNat 32 (f 0 32)
  let bank : Fin 16 := Fin.ofNat 16 (imm 0 4)
  let lowCursor : Fin 16 := Fin.ofNat 16 (imm 0 4)
  let highCursor : Fin 16 := Fin.ofNat 16 (imm 16 4)
  let enables : BitVec 4 := BitVec.ofNat 4 (imm 24 4)
  let dmin : BitVec 14 := BitVec.ofNat 14 (imm2 0 14)
  let dmax : BitVec 14 := BitVec.ofNat 14 (imm2 16 14)
  match hdWidthOf (f 118 2) with
  | none => none
  | some w =>
    match f 120 8 with
    | 0x00 => some (⟨false, false, false, false, false, 0, 0, false⟩, .hdNop o)
    | 0x01 => some (⟨true, true, false, false, false, 0xFFFFFFFF, 3, false⟩,
        .gen o w d (BitVec.ofNat 32 (imm 0 32)) (Fin.ofNat 4 (imm2 0 2)))
    | 0x02 => some (⟨true, true, true, true, false, 0, 0, false⟩, .bind o w d a b)
    | 0x03 => some (⟨true, true, true, false, false, 0, 0, false⟩, .not o w d a)
    | 0x04 => some (⟨true, true, true, false, false, 0, 0, false⟩, .hdCopy o w d a)
    | 0x05 => some (⟨true, true, true, false, false, 0x1FFF, 0, false⟩, .hdRot o w d a (BitVec.ofNat 13 (imm 0 13)))
    | 0x06 => some (⟨true, true, true, false, false, 0xF, 0, false⟩,
        .car o w d a (Fin.ofNat 8 (imm 0 3)) (decide (imm 3 1 = 1)))
    | 0x08 => some (⟨false, false, false, false, true, 0, 0, false⟩, .bclr o acc)
    | 0x09 => some (⟨true, false, true, false, true, 0x1FF, 0, false⟩,
        .badd o w acc a (BitVec.ofNat 8 (imm 0 8)) (decide (imm 8 1 = 1)))
    | 0x0A => some (⟨true, false, true, true, true, 0x1FF, 0, false⟩,
        .baddx o w acc a b (BitVec.ofNat 8 (imm 0 8)) (decide (imm 8 1 = 1)))
    | 0x0B => some (⟨true, true, false, false, true, 0, 0, false⟩, .bthr o w d acc)
    | 0x10 => some (⟨true, true, false, false, false, 0xF, 0, true⟩, .level o w d (Fin.ofNat 16 (imm 0 4)) hbo)
    | 0x11 => some (⟨true, true, false, false, true, 0, 0, true⟩, .record o w d acc hbo)
    | 0x12 => some (⟨true, true, true, false, decide (imm 31 1 = 1), 0x8001FFFF, 0, false⟩,
        .seq o w d a acc (Fin.ofNat 16 (imm 0 4)) (BitVec.ofNat 13 (imm 4 13)) (decide (imm 31 1 = 1)))
    | 0x20 => some (⟨true, true, false, false, false, 0, 0, true⟩, .loadv o w d hbo)
    | 0x21 => some (⟨true, false, true, false, false, 0, 0, true⟩, .storev o w a hbo)
    | 0x22 => (signFmtOf (imm 0 2)).map fun m => (⟨true, true, false, false, false, 3, 0, true⟩, .sign o w d m hbo)
    | 0x23 =>
      if f 13 19 ≠ 0 then none
      else some (⟨true, false, true, false, false, 0xFFFFFFFF, 0x3FFF00FF, true⟩,
        .outv o w a (BitVec.ofNat 32 (imm 0 32)) (BitVec.ofNat 13 (f 0 13)) (BitVec.ofNat 8 (imm2 0 8))
          (BitVec.ofNat 14 (imm2 16 14)))
    | 0x30 => some (⟨false, false, false, false, false, 0xFF, 0x3FFF, false⟩,
        .addg o (BitVec.ofNat 8 (imm 0 8)) (BitVec.ofNat 14 (imm2 0 14)))
    | 0x31 => some (⟨false, false, false, false, false, 0xFF, 0, false⟩, .waitg o (BitVec.ofNat 8 (imm 0 8)))
    | 0x40 => some (⟨true, decide (imm 31 1 = 1), true, false, false, 0x8F1FFFFF, 0x3FFF3FFF, true⟩,
        .srch o w a d (BitVec.ofNat 16 (imm 0 16)) highCursor (decide (imm 20 1 = 1)) enables (decide (imm 31 1 = 1)) dmin dmax
          hbo)
    | 0x41 => some (⟨false, false, false, false, false, 0xFF010F, 0, true⟩,
        .cstep o lowCursor (decide (imm 8 1 = 1)) (BitVec.ofNat 8 (imm 16 8)) hbo)
    | 0x42 => some (⟨false, false, false, false, false, 0, 0, false⟩, .glist o)
    | 0x43 => some (⟨false, false, false, false, false, 0xF, 0, false⟩, .cfree o lowCursor)
    | 0x48 => some (⟨true, false, true, false, false, 0xF, 0, true⟩, .ins o w a bank hbo)
    | 0x49 => some (⟨false, false, false, false, false, 0xF, 0x3FFF3FFF, false⟩, .del o bank dmin dmax)
    | 0x4A => some (⟨decide (imm 4 1 = 1), false, decide (imm 4 1 = 1), false, false, 0x1F, 0x3FFF, true⟩,
        .upd o w a bank (decide (imm 4 1 = 1)) dmin hbo)
    | 0x4B => some (⟨true, false, false, false, false, 0xF, 0x3FFF, true⟩, .rde o w bank dmin hbo)
    | 0x50 => some (⟨false, false, false, false, false, 0xF1F0000, 0x3FFF3FFF, true⟩,
        .dcoll o highCursor (decide (imm 20 1 = 1)) enables dmin dmax hbo)
    | _ => none

/-- The command of a word whose OP and width are defined and whose unused fields are 0. -/
def hdDecode (o : HdOrigin) (x : BitVec 128) : Option Instr :=
  match hdRow o x with
  | some (u, i) => if u.clean x then some i else none
  | none => none

/-! ### What a command reads (R344) -/

/-- Registers that a command reads. -/
def hdReads : Instr → List (Fin 32)
  | .bind _ _ _ a b => [a, b]
  | .not _ _ _ a => [a]
  | .hdCopy _ _ _ a => [a]
  | .hdRot _ _ _ a _ => [a]
  | .car _ _ _ a _ _ => [a]
  | .badd _ _ _ a _ _ => [a]
  | .baddx _ _ _ a b _ _ => [a, b]
  | .seq _ _ _ a _ mM1 _ _ => (List.range (mM1.val + 1)).map fun j => Fin.ofNat 32 (a.val + j)
  | .storev _ _ a _ => [a]
  | .outv _ _ a _ _ _ _ => [a]
  | .srch _ _ a _ _ _ _ _ _ _ _ _ => [a]
  | .ins _ _ a _ _ => [a]
  | .upd _ _ a _ withKey _ _ => if withKey then [a] else []
  | _ => []

end Sys2Proof.Machine
end

