-- ==== Sys2Proof/Machine/Hd.lean ====
section
/-!
DEFINITION. The hyperdimensional engine (spec/12): the item generator, the operations and encoders, OUTV, and lists with their
triggers.
-/
namespace Sys2Proof.Machine

/-! ### Issue (R344, R351) -/

/-- aux of an HD or recall event: the list, or 0xFF for a host command (R353). -/
def originAux : HdOrigin → Nat
  | .list n => n.val
  | .host => 0xFF

/-- No list runs or waits, so a host command may start (R351). -/
def State.hdIdle (s : State) : Bool := s.hd.running.isNone && s.hd.queue.isEmpty && s.hd.triggered.isEmpty

/-- Commands of the running list that have not issued, with their positions. A word that is no command is passed over (DESIGN CHOICE,
log 92: such a list was refused when it was written, R348). -/
def State.listRest (s : State) (n : Fin 16) : List (Nat × Instr) :=
  let l := s.hd.listEntry
  (List.range l.count).filterMap fun k =>
    if k < s.hd.listPos then none
    else (hdDecode (.list n) (BitVec.ofNat 128 (leNat (s.hub.read (l.offset + 16 * k) 16)))).map fun i => (k, i)

/-- A search that is not complete will still write register r (R344, R366). -/
def State.regPending (s : State) (r : Fin 32) : Bool :=
  (s.rcl.queries.any fun q => match q with
    | .search _ _ _ _ d _ _ _ _ bestKey _ _ _ => bestKey && decide (d = r)
    | .read .. => false) ||
  s.rcl.results.any fun x => x.reg.any fun p => decide (p.1 = r)

/-- Command k of the running list leaves it. -/
def State.passCommand (s : State) (k : Nat) : State := { s with hd := { s.hd with listPos := k + 1 } }

/-- Issue of a command. It waits until the registers that it reads hold their final results. A list command issues while its list
runs, in list order; one that breaks a rule does nothing, since a list that held it was refused when it was written (R348). A
host command starts only between lists, and a bad one is refused (R325, R344, R351). -/
def State.hdIssue (s : State) (o : HdOrigin) (i : Instr) (ok : Bool) (f : HdSettings → State → State) : State :=
  if !s.awake || s.hd.waiting.isSome || (hdReads i).any s.regPending then s else
  match o with
  | .list n =>
    if s.hd.running ≠ some n then s else
    match (s.listRest n).head? with
    | some (k, j) =>
      if j ≠ i then s
      else if ok then f s.hd.listSettings (s.passCommand k) else s.passCommand k
    | none => s
  | .host =>
    if !s.hdIdle then s
    else if ok then f s.hd.settings s
    else s.deviceEvent 0x7013 0xFF

def State.hreg (s : State) (r : Fin 32) : HReg := mget HReg.zero s.hd.regs r.val
def State.hacc (s : State) (a : Fin 4) : HAcc := mget HAcc.zero s.hd.accs a.val

/-- The first n dimensions. -/
def lowDims (n : Nat) (x : BitVec 8192) : BitVec 8192 := BitVec.ofNat 8192 (x.toNat % 2 ^ n)

/-- A result goes to register d; a poisoned result of a list poisons the list's done add (R346, R350). -/
def State.setHreg (s : State) (o : HdOrigin) (d : Fin 32) (x : BitVec 8192) (poison : Bool) : State :=
  { s with hd := { s.hd with
    regs := mset HReg.zero s.hd.regs d.val ⟨x, poison⟩
    listPoison := s.hd.listPoison || (poison && decide (o ≠ .host))
    hostPoison := s.hd.hostPoison || (poison && decide (o = .host)) } }

def State.setHacc (s : State) (o : HdOrigin) (a : Fin 4) (x : HAcc) : State :=
  { s with hd := { s.hd with
    accs := mset HAcc.zero s.hd.accs a.val x
    listPoison := s.hd.listPoison || (x.poison && decide (o ≠ .host))
    hostPoison := s.hd.hostPoison || (x.poison && decide (o = .host)) } }

/-! ### Item generator (R326, R327) -/

def mix (z : W64) : W64 :=
  let a := (z ^^^ (z >>> 30)) * 0xBF58476D1CE4E5B9
  let b := (a ^^^ (a >>> 27)) * 0x94D049BB133111EB
  b ^^^ (b >>> 31)

/-- Word k of the item stream for a seed and an identifier. -/
def itemWord (seed : W64) (id : W32) (k : Nat) : W64 :=
  let s0 := seed ^^^ (BitVec.ofNat 64 id.toNat * 0xD1B54A32D192ED03)
  mix (s0 + BitVec.ofNat 64 (k + 1) * 0x9E3779B97F4A7C15)

/-- item(s, id) of width n. -/
def itemVector (seed : W64) (id : W32) (n : Nat) : BitVec 8192 :=
  BitVec.ofNat 8192 (packNat 64 ((List.range (n / 64)).map fun k => (itemWord seed id k).toNat))

/-- Identifier reserved for the tie vector. -/
def tieId : W32 := 0xFFFFFFFF

/-- T of R327. -/
def HdSettings.tieVector (st : HdSettings) (n : Nat) : BitVec 8192 := itemVector st.tie tieId n
def HdSettings.seed (st : HdSettings) (k : Nat) : W64 := st.seeds.getD k 0

def execHdNop (o : HdOrigin) (s : State) : Host.Outcome State Fault Refusal := .next (s.hdIssue o (.hdNop o) true fun _ s => s)

/-- GEN: D ← item(s, id) (R326, R327). -/
def execGen (o : HdOrigin) (w : HdWidth) (d : Fin 32) (id : W32) (slot : Fin 4) (s : State) :
    Host.Outcome State Fault Refusal :=
  .next (s.hdIssue o (.gen o w d id slot) (HdOrigin.regOk o d && decide (id ≠ tieId)) fun st s =>
    s.setHreg o d (itemVector (st.seed slot.val) id (HdWidth.bits w)) false)

/-! ### Bind, complement, copy, rotation, carousel (R328, R331, R332) -/

def execBind (o : HdOrigin) (w : HdWidth) (d a b : Fin 32) (s : State) : Host.Outcome State Fault Refusal :=
  .next (s.hdIssue o (.bind o w d a b) (HdOrigin.regOk o d && HdOrigin.regOk o a && HdOrigin.regOk o b) fun _ s =>
    s.setHreg o d (lowDims (HdWidth.bits w) ((s.hreg a).bits ^^^ (s.hreg b).bits)) ((s.hreg a).poison || (s.hreg b).poison))

def execNot (o : HdOrigin) (w : HdWidth) (d a : Fin 32) (s : State) : Host.Outcome State Fault Refusal :=
  .next (s.hdIssue o (.not o w d a) (HdOrigin.regOk o d && HdOrigin.regOk o a) fun _ s =>
    s.setHreg o d (lowDims (HdWidth.bits w) (~~~(s.hreg a).bits)) (s.hreg a).poison)

def execHdCopy (o : HdOrigin) (w : HdWidth) (d a : Fin 32) (s : State) : Host.Outcome State Fault Refusal :=
  .next (s.hdIssue o (.hdCopy o w d a) (HdOrigin.regOk o d && HdOrigin.regOk o a) fun _ s =>
    s.setHreg o d (lowDims (HdWidth.bits w) (s.hreg a).bits) (s.hreg a).poison)

/-- Rotation by k at width n: dimension i moves to (i + k) mod n. -/
def rotDims (n k : Nat) (x : BitVec 8192) : BitVec 8192 :=
  let v := x.toNat % 2 ^ n
  BitVec.ofNat 8192 (v * 2 ^ k % 2 ^ n + v / 2 ^ (n - k))

def execHdRot (o : HdOrigin) (w : HdWidth) (d a : Fin 32) (k : BitVec 13) (s : State) :
    Host.Outcome State Fault Refusal :=
  .next (s.hdIssue o (.hdRot o w d a k) (HdOrigin.regOk o d && HdOrigin.regOk o a && decide (k.toNat < HdWidth.bits w)) fun _ s =>
    s.setHreg o d (rotDims (HdWidth.bits w) k.toNat (s.hreg a).bits) (s.hreg a).poison)

/-- Draw i of a carousel permutation. -/
def carouselDraw (key : W64) (i : Nat) : Nat :=
  let x := (itemWord key 0 (i / 2)).toNat
  if i % 2 = 0 then x % 2 ^ 32 else x / 2 ^ 32

/-- π_c of R332. -/
def carouselPerm (key : W64) : List Nat := shuffle 2048 (carouselDraw key)

/-- The carousel permutation of one unit, forward or inverse. -/
def permuteUnit (p : List Nat) (inverse : Bool) (x : Nat) : Nat :=
  ((List.range 2048).zip p).foldl (fun acc q =>
    let src := if inverse then q.2 else q.1
    let dst := if inverse then q.1 else q.2
    acc + bitsOf x src 1 * 2 ^ dst) 0

def carouselDims (key : W64) (inverse : Bool) (n : Nat) (x : BitVec 8192) : BitVec 8192 :=
  let p := carouselPerm key
  BitVec.ofNat 8192 (packNat 2048 ((List.range (n / 2048)).map fun u => permuteUnit p inverse (bitsOf x.toNat (2048 * u) 2048)))

def execCar (o : HdOrigin) (w : HdWidth) (d a : Fin 32) (c : Fin 8) (inverse : Bool) (s : State) :
    Host.Outcome State Fault Refusal :=
  .next (s.hdIssue o (.car o w d a c inverse) (HdOrigin.regOk o d && HdOrigin.regOk o a) fun st s =>
    s.setHreg o d (carouselDims (st.carousel.getD c.val 0) inverse (HdWidth.bits w) (s.hreg a).bits) (s.hreg a).poison)

/-! ### Bundles (R329, R330) -/

def execBclr (o : HdOrigin) (acc : Fin 4) (s : State) : Host.Outcome State Fault Refusal :=
  .next (s.hdIssue o (.bclr o acc) (HdOrigin.accOk o acc) fun _ s => s.setHacc o acc HAcc.zero)

/-- A bundle add of the first n dimensions of x with a signed weight. The Boolean says that a counter saturated. -/
def HAcc.bundle (c : HAcc) (n : Nat) (x : BitVec 8192) (weight : Int) (poison : Bool) : HAcc × Bool :=
  let raw : Nat → Int := fun i =>
    mget 0 c.counters i + (if i < n then (if x.getLsbD i then weight else -weight) else 0)
  let sat := (List.range n).any fun i => decide ((raw i).natAbs > 32767)
  (⟨(List.range 8192).filterMap fun i =>
      let v := clampInt (-32767) 32767 (raw i)
      if v = 0 then none else some (i, v), c.poison || poison⟩, sat)

/-- The threshold at width n (R330). -/
def HAcc.threshold (c : HAcc) (n : Nat) (tie : BitVec 8192) : BitVec 8192 :=
  BitVec.ofNat 8192 (packNat 1 ((List.range n).map fun i =>
    let v := mget 0 c.counters i
    if 0 < v then 1 else if v < 0 then 0 else if tie.getLsbD i then 1 else 0))

/-- A bundle add into an accumulator, with event 0x7012 on saturation. -/
def State.bundleInto (s : State) (o : HdOrigin) (acc : Fin 4) (n : Nat) (x : BitVec 8192) (weight : Byte)
    (subtract poison : Bool) : State :=
  let (c, sat) := (s.hacc acc).bundle n x (if subtract then -(weight.toNat : Int) else weight.toNat) poison
  let s1 := s.setHacc o acc c
  if sat then s1.deviceEvent 0x7012 (originAux o) else s1

def execBadd (o : HdOrigin) (w : HdWidth) (acc : Fin 4) (a : Fin 32) (weight : Byte) (subtract : Bool) (s : State) :
    Host.Outcome State Fault Refusal :=
  .next (s.hdIssue o (.badd o w acc a weight subtract) (HdOrigin.accOk o acc && HdOrigin.regOk o a && decide (weight ≠ 0)) fun _ s =>
    s.bundleInto o acc (HdWidth.bits w) (s.hreg a).bits weight subtract (s.hreg a).poison)

def execBaddx (o : HdOrigin) (w : HdWidth) (acc : Fin 4) (a b : Fin 32) (weight : Byte) (subtract : Bool) (s : State) :
    Host.Outcome State Fault Refusal :=
  .next (s.hdIssue o (.baddx o w acc a b weight subtract) (HdOrigin.accOk o acc && HdOrigin.regOk o a && HdOrigin.regOk o b && decide (weight ≠ 0)) fun _ s =>
    s.bundleInto o acc (HdWidth.bits w) ((s.hreg a).bits ^^^ (s.hreg b).bits) weight subtract
      ((s.hreg a).poison || (s.hreg b).poison))

def execBthr (o : HdOrigin) (w : HdWidth) (d : Fin 32) (acc : Fin 4) (s : State) : Host.Outcome State Fault Refusal :=
  .next (s.hdIssue o (.bthr o w d acc) (HdOrigin.regOk o d && HdOrigin.accOk o acc) fun st s =>
    let n := HdWidth.bits w
    s.setHreg o d ((s.hacc acc).threshold n (st.tieVector n)) (s.hacc acc).poison)

/-! ### Hub-buffer access (R342) -/

/-- The HD part of the work areas, the routine area, and for reads the input images where the model lays them (DESIGN CHOICE, log
98); the output images are not read. -/
def hdReadOk (a n : Nat) : Bool :=
  decide (a + n ≤ 0x3000) || (decide (0x600000 ≤ a) && decide (a + n ≤ 0x680000)) ||
    (decide (routineArea ≤ a) && decide (a + n ≤ hubSize))

def hdWriteOk (a n : Nat) : Bool :=
  (decide (0x600000 ≤ a) && decide (a + n ≤ 0x680000)) || (decide (routineArea ≤ a) && decide (a + n ≤ hubSize))

/-- LOADV: D ← n / 8 bytes at HBO. -/
def execLoadv (o : HdOrigin) (w : HdWidth) (d : Fin 32) (hbo : W32) (s : State) : Host.Outcome State Fault Refusal :=
  let n := HdWidth.bits w / 8
  .next (s.hdIssue o (.loadv o w d hbo) (HdOrigin.regOk o d && decide (hbo.toNat % 32 = 0) && hdReadOk hbo.toNat n) fun _ s =>
    s.setHreg o d (BitVec.ofNat 8192 (leNat (s.hub.read hbo.toNat n))) (s.hub.anyPoison hbo.toNat n))

/-- Write bytes to the hub buffer; poisoned bytes poison every word they touch. -/
def State.hubWrite (s : State) (a : Nat) (bs : List Byte) (poison : Bool) : State :=
  let m := s.hub.write a bs
  { s with hub := if poison then m.taint a bs.length else m }

/-- A result of a command of this origin was poisoned (R350, R525). -/
def State.noteHdPoison (s : State) (o : HdOrigin) (poison : Bool) : State :=
  { s with hd := { s.hd with
    listPoison := s.hd.listPoison || (poison && decide (o ≠ .host))
    hostPoison := s.hd.hostPoison || (poison && decide (o = .host)) } }

/-- STOREV: n / 8 bytes at HBO ← A (R346). -/
def execStorev (o : HdOrigin) (w : HdWidth) (a : Fin 32) (hbo : W32) (s : State) : Host.Outcome State Fault Refusal :=
  let n := HdWidth.bits w / 8
  .next (s.hdIssue o (.storev o w a hbo) (HdOrigin.regOk o a && decide (hbo.toNat % 32 = 0) && hdWriteOk hbo.toNat n) fun _ s =>
    (s.hubWrite hbo.toNat (leBytes n (s.hreg a).bits.toNat) (s.hreg a).poison).noteHdPoison o (s.hreg a).poison)

def signBytes : SignFmt → Nat
  | .int8 => 1
  | .int16 => 2
  | .int32 => 4

/-- SIGN: the signs of n elements (R340). -/
def execSign (o : HdOrigin) (w : HdWidth) (d : Fin 32) (fmt : SignFmt) (hbo : W32) (s : State) :
    Host.Outcome State Fault Refusal :=
  let n := HdWidth.bits w
  let b := signBytes fmt
  .next (s.hdIssue o (.sign o w d fmt hbo) (HdOrigin.regOk o d && decide (hbo.toNat % 32 = 0) && hdReadOk hbo.toNat (n * b)) fun st s =>
    let tie := st.tieVector n
    let x := packNat 1 ((List.range n).map fun i =>
      let v := sint (8 * b) (leNat (s.hub.read (hbo.toNat + i * b) b))
      if 0 < v then 1 else if v < 0 then 0 else if tie.getLsbD i then 1 else 0)
    s.setHreg o d (BitVec.ofNat 8192 x) (s.hub.anyPoison hbo.toNat (n * b)))

/-! ### Encoders (R333 to R338) -/

/-- Bytes of a level encoder's input format. -/
def Encoder.bytes (e : Encoder) : Nat := if e.format < 2 then 2 else 4

/-- fp32(x) of an input value's bits. -/
def Encoder.toFp (e : Encoder) (x : Nat) : Nat :=
  match e.format with
  | 0 => (fp32.ofInt (sint 16 x)).bits
  | 1 => (fp32.ofInt x).bits
  | 2 => (fp32.ofInt (sint 32 x)).bits
  | _ => x

/-- q of R334 step 1; none when a NaN stands in its way. -/
def Encoder.quant (e : Encoder) (x : Nat) : Option Nat :=
  let p := (fp32.mul (fp32.sub x e.lo.toNat).bits e.kq.toNat).bits
  match fp32.decode p with
  | .nan => none
  | _ => some (clampInt 0 e.top (sint 32 (fp32.toInt 32 p).bits)).toNat

/-- Rank of dimension i (R334). -/
def Encoder.rank (e : Encoder) (st : HdSettings) (i : Nat) : Nat :=
  bitsOf (itemWord (st.seed e.seed) (e.base + 1) (i / 4)).toNat (16 * (i % 4)) 16

/-- L_q at width n. -/
def Encoder.level (e : Encoder) (st : HdSettings) (n q : Nat) : BitVec 8192 :=
  let t := q * 32768 / e.top
  let flips := packNat 1 ((List.range n).map fun i => if e.rank st i < t then 1 else 0)
  itemVector (st.seed e.seed) e.base n ^^^ BitVec.ofNat 8192 flips

/-- What a level encoder makes of a value: q, whether the result is poisoned with event 0x7011, and whether q is a free value.
A NaN that arises from a value that is none is not covered by R334 or R335, so q is then free. -/
def State.levelOf (s : State) (e : Encoder) (a : Nat) : Nat × Bool × Bool :=
  let x := e.toFp (leNat (s.hub.read a e.bytes))
  if fp32.decode x = .nan ∨ s.hub.anyPoison a e.bytes then (0, true, false)
  else match e.quant x with
    | some q => (q, false, false)
    | none => (s.freeElem a % (e.top + 1), false, true)

def execLevel (o : HdOrigin) (w : HdWidth) (d : Fin 32) (slot : Fin 16) (hbo : W32) (s : State) :
    Host.Outcome State Fault Refusal :=
  let fmt : State → Encoder := fun s => mget Encoder.zero
    (if o = .host then s.hd.settings.encoders else s.hd.listSettings.encoders) slot.val
  .next (s.hdIssue o (.level o w d slot hbo) (HdOrigin.regOk o d && decide (hbo.toNat % (fmt s).bytes = 0) && hdReadOk hbo.toNat (fmt s).bytes)
    fun st s =>
      let e := mget Encoder.zero st.encoders slot.val
      let (q, bad, free) := s.levelOf e hbo.toNat
      let s1 := s.setHreg o d (e.level st (HdWidth.bits w) q) bad
      let s2 := if bad then s1.deviceEvent 0x7011 (originAux o) else s1
      if free then s2.takeFree else s2)

/-- One field of a record descriptor (R336). -/
structure RecordField where
  key : W32
  value : Nat
  slot : Nat
  weight : Byte
  deriving DecidableEq, Repr

def State.recordField (s : State) (a : Nat) : RecordField :=
  let b := s.hub.read a 12
  ⟨BitVec.ofNat 32 (fieldAt b 0 4), fieldAt b 4 4, fieldAt b 8 1 % 16, BitVec.ofNat 8 (fieldAt b 9 1)⟩

/-- One field enters the accumulator (R337). The Booleans collect poison and free values. -/
def State.addField (st : HdSettings) (o : HdOrigin) (acc : Fin 4) (n seed : Nat) (p : State × Bool × Bool)
    (f : RecordField) : State × Bool × Bool :=
  if f.weight = 0 then p else
  let e := mget Encoder.zero st.encoders f.slot
  let (q, bad, free) := p.1.levelOf e f.value
  let x := itemVector (st.seed seed) f.key n ^^^ e.level st n q
  (p.1.bundleInto o acc n x f.weight false bad, p.2.1 || bad, p.2.2 || free)

/-- A record descriptor as it stands: header, fields and values lie where reads may address, each value aligned to the format of its
slot (R336, R342). -/
def State.recordReadable (s : State) (st : HdSettings) (a : Nat) : Bool :=
  let count := min 256 (fieldAt (s.hub.read a 16) 0 2)
  hdReadOk a (16 + 12 * count) && (List.range count).all fun k =>
    let f := s.recordField (a + 16 + 12 * k)
    let n := (mget Encoder.zero st.encoders f.slot).bytes
    decide (f.value % n = 0) && hdReadOk f.value n

/-- Settings that a command of this origin uses (R352). -/
def State.hdSettingsOf (s : State) (o : HdOrigin) : HdSettings := if o = .host then s.hd.settings else s.hd.listSettings

/-- RECORD: the record of the descriptor at HBO (R336, R337). -/
def execRecord (o : HdOrigin) (w : HdWidth) (d : Fin 32) (acc : Fin 4) (hbo : W32) (s : State) :
    Host.Outcome State Fault Refusal :=
  .next (s.hdIssue o (.record o w d acc hbo) (HdOrigin.regOk o d && HdOrigin.accOk o acc && decide (hbo.toNat % 16 = 0) &&
      s.recordReadable (s.hdSettingsOf o) hbo.toNat)
    fun st s =>
      let n := HdWidth.bits w
      let h := s.hub.read hbo.toNat 16
      let count := min 256 (fieldAt h 0 2)
      let descBad := s.hub.anyPoison hbo.toNat (16 + 12 * count)
      let fields := (List.range count).map fun k => s.recordField (hbo.toNat + 16 + 12 * k)
      let (s1, bad, free) := fields.foldl (State.addField st o acc n (fieldAt h 2 1 % 4)) (s.setHacc o acc HAcc.zero, false, false)
      let s1' := if descBad then s1.setHacc o acc { s1.hacc acc with poison := true } else s1
      let s2 := s1'.setHreg o d ((s1.hacc acc).threshold n (st.tieVector n)) (bad || descBad)
      let s3 := if bad then s2.deviceEvent 0x7011 (originAux o) else s2
      if free then s3.takeFree else s3)

/-- Register number a + j. -/
def regPlus (a : Fin 32) (j : Nat) : Fin 32 := Fin.ofNat 32 (a.val + j)

/-- SEQ: a sequence of m registers with rotation step r, in bind or bundle mode (R338). -/
def execSeq (o : HdOrigin) (w : HdWidth) (d a : Fin 32) (acc : Fin 4) (mM1 : Fin 16) (r : BitVec 13) (bundle : Bool)
    (s : State) : Host.Outcome State Fault Refusal :=
  let m := mM1.val + 1
  let n := HdWidth.bits w
  let ok := HdOrigin.regOk o d && HdOrigin.regOk o a && decide (a.val + mM1.val < 32) &&
    HdOrigin.regOk o (regPlus a mM1.val) && (!bundle || HdOrigin.accOk o acc)
  .next (s.hdIssue o (.seq o w d a acc mM1 r bundle) ok fun st s =>
    let elems := (List.range m).map fun j =>
      rotDims n (r.toNat * (m - 1 - j) % n) (lowDims n (s.hreg (regPlus a j)).bits)
    let bad := (List.range m).any fun j => (s.hreg (regPlus a j)).poison
    if bundle then
      let s1 := elems.foldl (fun s x => s.bundleInto o acc n x 1 false false) (s.setHacc o acc HAcc.zero)
      let s2 := if bad then s1.setHacc o acc { s1.hacc acc with poison := true } else s1
      s2.setHreg o d ((s2.hacc acc).threshold n (st.tieVector n)) bad
    else s.setHreg o d (elems.foldl (· ^^^ ·) 0) bad)

/-! ### OUTV, ADDG, WAITG (R341, R343, R344) -/

/-- Rows of a hypervector. -/
def hvRows (n : Nat) (x : HReg) : List Row :=
  (List.range (n / 2048)).map fun k =>
    let r : Row := ⟨BitVec.ofNat 2048 (bitsOf x.bits.toNat (2048 * k) 2048), 0⟩
    if x.poison then r.allPoison else r

/-- OUTV copies A and requests tickets as holder 0x101. The done turnstile has 8 bits and is taken as a global one
(DEDUCED, log 46). A fifth transfer waits at issue. -/
def execOutv (o : HdOrigin) (w : HdWidth) (a : Fin 32) (tile : Handle) (row : BitVec 13) (ts : Byte) (value : BitVec 14)
    (s : State) : Host.Outcome State Fault Refusal :=
  let n := HdWidth.bits w
  let ok := HdOrigin.regOk o a && decide (value ≠ 0) && Handle.physValid tile && (Handle.tile? tile).isSome &&
    decide (row.toNat + n / 2048 ≤ 8192)
  .next (
    if 4 ≤ s.hd.outvs.length then s else
    s.hdIssue o (.outv o w a tile row ts value) ok fun _ s =>
      match Handle.tile? tile with
      | none => s
      | some t =>
        let tag := s.fabric.nextTag
        let s1 := s.agentRequest 0x101 (originAux o) t row.toNat (hvRows n (s.hreg a)) (.global ts value.toNat)
        { s1 with hd := { s1.hd with outvs := s1.hd.outvs ++ [tag] } }.noteHdPoison o (s.hreg a).poison)

/-- The oldest granted OUTV writes its rows and applies its done add. -/
def State.writeOutv (s : State) : State :=
  match s.agents.find? (fun a => decide (a.holder = 0x101) && a.granted) with
  | none => s
  | some a =>
    let s1 := s.agentWrite a false
    { s1 with hd := { s1.hd with outvs := s1.hd.outvs.erase a.tag } }

/-- Recall searches, reads and records of lists that are not complete (R366). -/
def Query.ofList : Query → Bool
  | .search l .. => l
  | .read l .. => l

def State.recallBusy (s : State) (fromList : Bool) : Bool :=
  s.rcl.queries.any (fun q => q.ofList == fromList) || s.rcl.results.any (fun r => r.fromList == fromList)

/-- An OUTV of this origin has not applied its done add. -/
def State.outvBusy (s : State) (o : HdOrigin) : Bool :=
  s.agents.any fun a => decide (a.holder = 0x101) && decide (a.unit = originAux o)

/-- ADDG waits for the list's OUTVs and recall commands (R344, R366). -/
def execAddg (o : HdOrigin) (ts : Byte) (value : BitVec 14) (s : State) : Host.Outcome State Fault Refusal :=
  .next (
    if s.outvBusy o || s.recallBusy (decide (o ≠ .host)) then s else
    s.hdIssue o (.addg o ts value) (decide (value ≠ 0)) fun _ s => s.globalUpdate ts (.add value.toNat) false)

def execWaitg (o : HdOrigin) (ts : Byte) (s : State) : Host.Outcome State Fault Refusal :=
  .next (s.hdIssue o (.waitg o ts) true fun _ s =>
    if (mget Ts.zero s.globals.ts ts.toNat).done then s
    else { s with hd := { s.hd with waiting := some (o, ts) } })

/-! ### Lists (R347 to R352) -/

/-- A list starts, with its entry as it stands and the settings in force when it was triggered. -/
def State.startList (s : State) (n : Fin 16) (st : HdSettings) : State :=
  { s with hd := { s.hd with
    running := some n, listEntry := mget HdList.zero s.hd.lists n.val, listPos := 0, listSettings := st, listPoison := false } }

/-- The next waiting list starts; one that was triggered while it waited is queued once more. -/
def State.nextList (s : State) : State :=
  match s.hd.queue with
  | [] => { s with hd := { s.hd with running := none } }
  | (n, st) :: rest =>
    let more := s.hd.again.contains n
    let s1 := { s with hd := { s.hd with
      queue := if more then rest ++ [(n, s.hd.settings)] else rest
      again := s.hd.again.erase n } }
    s1.startList n st

/-- A trigger of list n is taken: it starts the list, queues it, or makes it run once more. Triggers are taken in the order of their
cycles, and those of one cycle in the order of the list numbers (R349). Without a trigger to take, the waiting list n starts if a
host command that has ended was in its way (R351). -/
def execListTrigger (n : Fin 16) (s : State) : Host.Outcome State Fault Refusal :=
  .next (
    match s.hd.triggered with
    | [] =>
      if s.hd.running.isNone ∧ s.hd.waiting.isNone ∧ (s.hd.queue.map Prod.fst).head? = some n then s.nextList else s
    | x :: rest =>
      if x.2 ≠ n then s else
      let s1 := { s with hd := { s.hd with triggered := rest } }
      let h := s1.hd
      let queued := h.queue.any fun q => decide (q.1 = n)
      if h.running = some n then
        let s2 := if queued then s1 else { s1 with hd := { h with queue := h.queue ++ [(n, h.settings)] } }
        s2.deviceEvent 0x7010 n.val
      else if queued then
        let s2 := if h.again.contains n then s1 else { s1 with hd := { h with again := h.again ++ [n] } }
        s2.deviceEvent 0x7010 n.val
      else if h.running.isNone ∧ h.queue.isEmpty ∧ h.waiting.isNone then s1.startList n h.settings
      else { s1 with hd := { h with queue := h.queue ++ [(n, h.settings)] } })

/-- The last command of list n has completed, its recall commands too (R350, R366). -/
def State.endList (s : State) (n : Fin 16) : State :=
  if s.hd.running ≠ some n ∨ s.hd.waiting.isSome ∨ s.recallBusy true ∨ !(s.listRest n).isEmpty then s else
  let l := s.hd.listEntry
  (s.globalUpdate l.doneTs (.add l.doneValue) s.hd.listPoison).nextList

/-- CAROUSEL_REBUILD_COMPLETE: the permutation of key 0 to 7 or the rank table of encoder slot item − 8 is rebuilt; it takes
effect at the next frame boundary (R352). -/
def execCarouselRebuildComplete (item : Fin 24) (s : State) : Host.Outcome State Fault Refusal :=
  .next (
    if s.hd.rebuilding.contains item.val then
      { s with hd := { s.hd with
          rebuilding := s.hd.rebuilding.filter fun k => decide (k ≠ item.val)
          rebuilt := s.hd.rebuilt ++ [item.val] } }
    else s)

end Sys2Proof.Machine
end

