-- ==== Sys2Proof/Machine/Recall.lean ====
section
/-!
DEFINITION. The recall store (spec/13): searches, cursors and the gather list, updates and re-spreads, the slots, the parity
scan and the deep store's candidates.
-/
namespace Sys2Proof.Machine

/-! ### Banks and entries (R354 to R356) -/

def State.rbank (s : State) (b : Nat) : RBank := mget RBank.init s.rcl.banks b
def State.setRbank (s : State) (b : Nat) (x : RBank) : State :=
  { s with rcl := { s.rcl with banks := mset RBank.init s.rcl.banks b x } }
def State.modRbank (s : State) (b : Nat) (f : RBank → RBank) : State := s.setRbank b (f (s.rbank b))

/-- Units per entry and bits of an entry of a width code (R354). -/
def unitsOf (width : Nat) : Nat := if width = 0 then 1 else if width = 1 then 2 else 4
def widthCode : HdWidth → Nat
  | .w2048 => 0
  | .w4096 => 1
  | .w8192 => 2

/-- Positions of a bank. -/
def RBank.size (b : RBank) : Nat := 16384 / unitsOf b.width
def RBank.entry (b : RBank) (p : Nat) : Entry := mget Entry.hole b.entries p
def RBank.put (b : RBank) (p : Nat) (e : Entry) : RBank := { b with entries := mset Entry.hole b.entries p e }

/-- States of R356. -/
def Entry.isHole (e : Entry) : Bool := e.state = 0
def Entry.isValid (e : Entry) : Bool := e.state = 1

def Entry.skey (e : Entry) : Nat := bitsOf e.w1.toNat 32 32
def Entry.pay (e : Entry) : Nat := bitsOf e.w1.toNat 0 32
/-- Tag range field f. -/
def Entry.tag (e : Entry) (f : Nat) : Nat := bitsOf e.w0.toNat (16 * f) 16

/-- The 24 descriptor bytes (R356). -/
def Entry.bytes (e : Entry) : List Byte :=
  leBytes 8 e.w0.toNat ++ leBytes 8 e.w1.toNat ++ leBytes 4 e.state.toNat ++ leBytes 4 e.aux.toNat

/-- An entry with key 0 from descriptor bytes. -/
def Entry.ofBytes (b : List Byte) : Entry :=
  ⟨0, BitVec.ofNat 64 (fieldAt b 0 8), BitVec.ofNat 64 (fieldAt b 8 8), BitVec.ofNat 32 (fieldAt b 20 4),
    BitVec.ofNat 2 (fieldAt b 16 1)⟩

/-- Store position (R355). -/
def storePos (b p : Nat) : Nat := 16384 * b + p

/-! ### Cursors (R367, R368) -/

def State.cursor (s : State) (c : Nat) : Cursor := mget Cursor.empty s.rcl.cursors c
def State.setCursor (s : State) (c : Nat) (x : Cursor) : State :=
  { s with rcl := { s.rcl with cursors := mset Cursor.empty s.rcl.cursors c x } }

/-- Change the marks of every fast-store cursor. -/
def State.mapCursors (s : State) (f : Cursor → Cursor) : State :=
  { s with rcl := { s.rcl with
    cursors := dropDefault Cursor.empty (mapValues s.rcl.cursors fun c => if c.deep then c else f c) } }

/-- A mark leaves the cursor; one that was stepped already no longer counts. -/
def Cursor.clearMark (c : Cursor) (p : Nat) : Cursor :=
  let before := (c.marks.takeWhile fun q => decide (q ≠ p)).length
  if c.marks.contains p then
    { c with marks := c.marks.erase p, next := if before < c.next then c.next - 1 else c.next }
  else c

/-- A mark follows its entry. -/
def Cursor.moveMark (c : Cursor) (p q : Nat) : Cursor := { c with marks := c.marks.map fun x => if x = p then q else x }

/-- An entry moves within a bank, with its marks (R368, R374). -/
def State.moveEntry (s : State) (b p q : Nat) : State :=
  let k := s.rbank b
  let s1 := s.setRbank b ((k.put q (k.entry p)).put p Entry.hole)
  s1.mapCursors fun c => c.moveMark (storePos b p) (storePos b q)

/-- An entry becomes a hole. -/
def State.dropEntry (s : State) (b p : Nat) : State :=
  (s.modRbank b fun k => k.put p Entry.hole).mapCursors fun c => c.clearMark (storePos b p)

/-- A valid entry with a bad word becomes damaged (R381). -/
def State.damageEntry (s : State) (b p : Nat) : State :=
  let k := s.rbank b
  let s1 := (s.setRbank b (k.put p { k.entry p with state := 2 })).mapCursors fun c => c.clearMark (storePos b p)
  s1.raise 0x7020 deviceHandle (eventParam 0 p) (BitVec.ofNat 16 b)

/-! ### Matching (R358, R359) -/

/-- Hamming distance over the first n dimensions. -/
def hamming (n : Nat) (x y : BitVec 8192) : Nat :=
  let d := x ^^^ y
  ((List.range n).filter fun i => d.getLsbD i).length

/-- A tag field lies in its range, which wraps when its low end is above its high end. -/
def tagInRange (lo hi x : Nat) : Bool :=
  if lo ≤ hi then decide (lo ≤ x) && decide (x ≤ hi) else decide (lo ≤ x) || decide (x ≤ hi)

/-- The enabled fields pass; `ranges` are the 16 bytes of lo and hi that software wrote. -/
def tagsPass (e : Entry) (enables : BitVec 4) (ranges : List Byte) : Bool :=
  (List.range 4).all fun f =>
    !enables.getLsbD f || tagInRange (fieldAt ranges (4 * f) 2) (fieldAt ranges (4 * f + 2) 2) (e.tag f)

/-- The best of (position, distance): the lowest distance, then the lowest position. -/
def bestOf (xs : List (Nat × Nat)) : Option (Nat × Nat) :=
  xs.foldl (fun m x => match m with
    | none => some x
    | some y => if x.2 < y.2 then some x else some y) none

/-- Bytes 16 to 31 of a search record (R363). -/
def searchRecord (best : Option (Nat × Nat)) (count flags pay : Nat) : List Byte :=
  (match best with
    | some (p, d) => leBytes 4 p ++ leBytes 2 d
    | none => leBytes 4 0xFFFFFFFF ++ leBytes 2 0xFFFF) ++
  leBytes 2 (min count 65535) ++ leBytes 1 flags ++ leBytes 3 0 ++ leBytes 4 pay

/-! ### Commands (R364 to R366) -/

/-- The SRCH or DCOLL that last filled the cursor has completed. -/
def State.cursorReady (s : State) (c : Nat) : Bool := !(s.cursor c).filling

/-- SRCH joins the queue of searches (R360, R364, R366). -/
def execSrch (o : HdOrigin) (w : HdWidth) (a d : Fin 32) (mask : W16) (cursor : Fin 16) (fill : Bool) (enables : BitVec 4)
    (bestKey : Bool) (dmin dmax : BitVec 14) (hbo : W32) (s : State) : Host.Outcome State Fault Refusal :=
  let ok := HdOrigin.regOk o a && (!bestKey || HdOrigin.regOk o d) && HdOrigin.cursorOk o cursor && decide (mask ≠ 0) &&
    decide (dmin.toNat ≤ dmax.toNat) && decide (dmax.toNat ≤ HdWidth.bits w) && decide (hbo.toNat % 32 = 0) &&
    hdWriteOk hbo.toNat 32
  .next (
    if !s.cursorReady cursor.val || decide (16 ≤ s.rcl.queries.length) then s else
    s.hdIssue o (.srch o w a d mask cursor fill enables bestKey dmin dmax hbo) ok fun _ s =>
      let q : Query := .search (decide (o ≠ .host)) o (s.hreg a) w (if bestKey then d else 0) mask cursor fill enables bestKey
        dmin.toNat dmax.toNat hbo.toNat
      let s1 := { s with rcl := { s.rcl with queries := s.rcl.queries ++ [q] } }
      if fill then s1.setCursor cursor.val { s1.cursor cursor.val with filling := true } else s1)

/-- RDE joins the queue of searches and reads. -/
def execRde (o : HdOrigin) (w : HdWidth) (bank : Fin 16) (pos : BitVec 14) (hbo : W32) (s : State) :
    Host.Outcome State Fault Refusal :=
  let ok := decide (hbo.toNat % 32 = 0) && hdWriteOk hbo.toNat (24 + HdWidth.bits w / 8)
  .next (
    if 16 ≤ s.rcl.queries.length then s else
    s.hdIssue o (.rde o w bank pos hbo) ok fun _ s =>
      { s with rcl := { s.rcl with
          queries := s.rcl.queries ++ [.read (decide (o ≠ .host)) w bank pos.toNat hbo.toNat] } })

/-- A refused update (R377). -/
def State.refuseUpdate (s : State) (bank reason : Nat) : State :=
  s.raise 0x7023 deviceHandle (eventParam reason 0) (BitVec.ofNat 16 bank)

/-- An update joins the queue of 64. -/
def State.acceptUpdate (s : State) (u : Update) : State :=
  { s with rcl := { s.rcl with updates := s.rcl.updates ++ [u] } }

def State.updatesFull (s : State) : Bool := decide (64 ≤ s.rcl.updates.length)

/-- INS: h_A with the descriptor at HBO (R364, R373). Poison and a wrong width are refused as the command runs. -/
def execIns (o : HdOrigin) (w : HdWidth) (a : Fin 32) (bank : Fin 16) (hbo : W32) (s : State) :
    Host.Outcome State Fault Refusal :=
  let ok := HdOrigin.regOk o a && decide (hbo.toNat % 8 = 0) && hdReadOk hbo.toNat 24
  .next (
    if s.updatesFull then s else
    s.hdIssue o (.ins o w a bank hbo) ok fun _ s =>
      if (s.hreg a).poison || s.hub.anyPoison hbo.toNat 24 then s.refuseUpdate bank.val 3
      else if (s.rbank bank.val).width ≠ widthCode w then s.refuseUpdate bank.val 4
      else
        let e := { Entry.ofBytes (s.hub.read hbo.toNat 24) with
          key := lowDims (HdWidth.bits w) (s.hreg a).bits, state := 1 }
        s.acceptUpdate (.ins bank e))

def execDel (o : HdOrigin) (bank : Fin 16) (first : BitVec 14) (countM1 : BitVec 14) (s : State) :
    Host.Outcome State Fault Refusal :=
  .next (
    if s.updatesFull then s else
    s.hdIssue o (.del o bank first countM1) true fun _ s => s.acceptUpdate (.del bank first.toNat (first.toNat + countM1.toNat)))

/-- UPD: the descriptor at HBO, and the key from h_A when asked (R364). -/
def execUpd (o : HdOrigin) (w : HdWidth) (a : Fin 32) (bank : Fin 16) (withKey : Bool) (pos : BitVec 14) (hbo : W32)
    (s : State) : Host.Outcome State Fault Refusal :=
  let ok := (!withKey || HdOrigin.regOk o a) && decide (hbo.toNat % 8 = 0) && hdReadOk hbo.toNat 24
  .next (
    if s.updatesFull then s else
    s.hdIssue o (.upd o w a bank withKey pos hbo) ok fun _ s =>
      if (withKey && (s.hreg a).poison) || s.hub.anyPoison hbo.toNat 24 then s.refuseUpdate bank.val 3
      else if withKey && decide ((s.rbank bank.val).width ≠ widthCode w) then s.refuseUpdate bank.val 4
      else
        let e := { Entry.ofBytes (s.hub.read hbo.toNat 24) with state := 1 }
        s.acceptUpdate (.upd bank pos.toNat (if withKey then some (lowDims (HdWidth.bits w) (s.hreg a).bits) else none) e))

def execCfree (o : HdOrigin) (cursor : Fin 16) (s : State) : Host.Outcome State Fault Refusal :=
  .next (
    if !s.cursorReady cursor.val then s else
    s.hdIssue o (.cfree o cursor) (HdOrigin.cursorOk o cursor) fun _ s => s.setCursor cursor.val Cursor.empty)

/-! ### CSTEP and GLIST (R369 to R371) -/

/-- The index record of deep entry e in the active copy (R385). -/
def State.deepBase (s : State) (copy : Bool) : Nat := s.setting (if copy then 0x250008 else 0x250007)
def State.deepRecord (s : State) (e : Nat) : Entry :=
  Entry.ofBytes (s.lpddr.read (s.deepBase s.rcl.deepActive + 24 * e) 24)

/-- Descriptor of a marked entry. -/
def State.marked (s : State) (c : Cursor) (p : Nat) : Entry :=
  if c.deep then s.deepRecord p else (s.rbank (p / 16384)).entry (p % 16384)

/-- A step record (R369). -/
def State.stepRecord (s : State) (c : Cursor) (p : Nat) : List Byte :=
  let e := s.marked c p
  let dm := match c.dist.find? (fun q => decide (q.1 = p)) with
    | some q => (q.2.1, q.2.2)
    | none => (0xFFFF, false)
  leBytes 4 p ++ leBytes 4 e.pay ++ leBytes 4 e.aux.toNat ++ leBytes 2 dm.1 ++ leBytes 2 (if dm.2 then 1 else 0)

/-- One payload is appended to the gather list; the Boolean says that it was dropped (R370, R371). -/
def Recall.append (r : Recall) (pay : W32) (poison : Bool) : Recall × Bool :=
  if r.glistDone then (r, true)
  else if r.gather.any fun q => decide (q.1 = pay) then ({ r with gatherSkipped := r.gatherSkipped + 1 }, false)
  else if 256 ≤ r.gather.length then (r, true)
  else ({ r with gather := r.gather ++ [(pay, poison)] }, false)

/-- CSTEP: up to k marked entries, as records or appended payloads (R369). -/
def execCstep (o : HdOrigin) (cursor : Fin 16) (append : Bool) (kM1 : Byte) (hbo : W32) (s : State) :
    Host.Outcome State Fault Refusal :=
  let c0 := s.cursor cursor.val
  let steps := (c0.marks.drop c0.next).take (kM1.toNat + 1)
  let size := if append then 16 else 16 + 16 * (kM1.toNat + 1)
  let ok := HdOrigin.cursorOk o cursor && decide (hbo.toNat % 16 = 0) && hdWriteOk hbo.toNat size
  .next (
    if !s.cursorReady cursor.val then s else
    s.hdIssue o (.cstep o cursor append kM1 hbo) ok fun _ s =>
      let (r, dropped) := if append then
          steps.foldl (fun (p : Recall × Bool) x =>
            let (r1, d) := p.1.append (BitVec.ofNat 32 (s.marked c0 x).pay) c0.poison
            (r1, p.2 || d)) (s.rcl, false)
        else (s.rcl, false)
      let next := c0.next + steps.length
      let rest := c0.marks.length - next
      let header := leBytes 2 steps.length ++
        leBytes 1 (bit (decide (rest = 0)) 0 + bit dropped 1 + bit c0.poison 2) ++ leBytes 1 0 ++ leBytes 4 rest ++
        leBytes 2 r.gather.length ++ leBytes 6 0
      let recs := if append then [] else steps.flatMap fun x => s.stepRecord c0 x
      let s1 := ({ s with rcl := r }.setCursor cursor.val { c0 with next := next }).hubWrite hbo.toNat (header ++ recs)
        c0.poison
      let s2 := s1.noteHdPoison o c0.poison
      if dropped then s2.deviceEvent 0x7025 cursor.val else s2)

/-- GLIST hands the gather list to the KV engine, once per frame (R371). -/
def execGlist (o : HdOrigin) (s : State) : Host.Outcome State Fault Refusal :=
  .next (s.hdIssue o (.glist o) true fun _ s =>
    if s.rcl.glistDone then s.deviceEvent 0x7025 (originAux o)
    else { s with
      rcl := { s.rcl with glistDone := true, handed := some s.rcl.gather }
      kv := { s.kv with gatherDue := true } })

/-! ### DCOLL (R385, R386) -/

/-- An array that carries a block of a deep group is in class B. -/
def State.groupClassB (s : State) (g : DeepGroup) : Bool :=
  match Handle.engine? g.engine with
  | none => false
  | some e => (List.range 64).any fun k =>
    let x := mget XEntry.zero (s.engine e).xlat (g.b0 + k)
    x.v && s.arrayClassB (bankId e x.array x.bank)

/-- What DCOLL finds of one entry: its number, distance, whether it is marginal, and its payload. -/
structure Candidate where
  number : Nat
  distance : Nat
  marginal : Bool
  pay : Nat
  deriving DecidableEq, Repr

/-- DCOLL: the candidates among the present deep groups. Poisoned ranges poison the result (R346); a cursor that is not filled is
not truncated. -/
def execDcoll (o : HdOrigin) (cursor : Fin 16) (fill : Bool) (enables : BitVec 4) (dmin dmax : BitVec 14) (hbo : W32)
    (s : State) : Host.Outcome State Fault Refusal :=
  let ok := HdOrigin.cursorOk o cursor && decide (dmin.toNat ≤ dmax.toNat) && decide (dmax.toNat ≤ 8192) &&
    decide (hbo.toNat % 32 = 0) && hdWriteOk hbo.toNat 32
  .next (
    if !s.cursorReady cursor.val then s else
    s.hdIssue o (.dcoll o cursor fill enables dmin dmax hbo) ok fun _ s =>
      let base := s.setting 0x250006
      let ranges := s.hub.read hbo.toNat 16
      let groups := s.rcl.deep.filter fun g => decide (g.2.engine ≠ 0)
      let numbers := if s.rcl.deepValid then groups.flatMap fun g => (List.range 256).map fun j => g.1 * 256 + j else []
      let bad := numbers.filter fun e => s.hub.poisoned (routineArea + base + 2 * e)
      let cands := (numbers.filter fun e => !bad.contains e).filterMap fun e =>
        let d := sint 16 (leNat (s.hub.read (routineArea + base + 2 * e) 2))
        let x := s.deepRecord e
        let lo : Int := max 0 ((dmin.toNat : Int) - 64)
        let hi : Int := min 8192 ((dmax.toNat : Int) + 64)
        if x.isValid && tagsPass x enables ranges && decide (lo ≤ d) && decide (d ≤ hi) then
          some (⟨e, d.toNat, decide (d < dmin.toNat) || decide ((dmax.toNat : Int) < d), x.pay⟩ : Candidate)
        else none
      let skip := numbers.any fun e => decide ((s.deepRecord e).state = 2)
      let best := bestOf (cands.map fun c => (c.number, c.distance))
      let trunc := fill && decide (4096 < cands.length)
      let dirty := s.hub.anyPoison hbo.toNat 16
      let classB := groups.any fun g => s.groupClassB g.2
      let pay := match best with
        | some (p, _) => (s.deepRecord p).pay
        | none => 0
      let flags := bit (decide (2 ≤ cands.length)) 0 + bit (!bad.isEmpty || dirty) 1 + bit skip 2 +
        bit (cands.any fun c => c.marginal) 4 + bit classB 5 + bit trunc 6
      let s1 := s.hubWrite (hbo.toNat + 16) (searchRecord best cands.length flags pay) false
      let held := cands.take 4096
      let s2 := if fill then s1.setCursor cursor.val {
          marks := held.map fun c => c.number, next := 0, deep := true
          dist := held.map fun c => (c.number, c.distance, c.marginal), poison := dirty, filling := false }
        else s1
      let s3 := s2.noteHdPoison o dirty
      if trunc || classB then s3.deviceEvent 0x7026 cursor.val else s3)

/-! ### Updates (R372 to R377) -/

/-- Insertion point of a sort key (R373): occupied positions lie in rising order. -/
def RBank.insertPoint (b : RBank) (key : Nat) : Nat :=
  (b.entries.filter fun q => decide (q.2.skey ≤ key)).foldl (fun m q => max m (q.1 + 1)) 0

/-- The nearest hole below p within 64 positions, and the nearest at or above it. -/
def RBank.holeBelow (b : RBank) (p : Nat) : Option Nat :=
  ((List.range 64).map fun k => p - 1 - k).find? fun h => decide (h < p) && decide (p ≤ h + 64) && (b.entry h).isHole
def RBank.holeAbove (b : RBank) (p : Nat) : Option Nat :=
  ((List.range 65).map fun k => p + k).find? fun h => decide (h < b.size) && (b.entry h).isHole

/-- Moves that make room through the hole h. -/
def movesBelow (h p : Nat) : InsertPlan := ⟨(List.range (p - 1 - h)).map fun k => (h + 1 + k, h + k), p - 1, Entry.hole⟩
def movesAbove (h p : Nat) : InsertPlan := ⟨(List.range (h - p)).map fun k => (h - 1 - k, h - k), p, Entry.hole⟩

/-- How an entry is inserted; none when the hole region is exhausted. On equal cost the upper side is used. -/
def RBank.plan (b : RBank) (e : Entry) : Option InsertPlan :=
  let p := b.insertPoint e.skey
  let q := match b.holeBelow p, b.holeAbove p with
    | some l, some h => some (if p - 1 - l < h - p then movesBelow l p else movesAbove h p)
    | some l, none => some (movesBelow l p)
    | none, some h => some (movesAbove h p)
    | none, none => none
  q.map fun x => { x with entry := e }

/-- The bank has a hole. -/
def RBank.hasHole (b : RBank) : Bool := decide (b.entries.length < b.size)

/-- A re-spread begins: damaged entries become holes, and every valid entry gets its target (R376). -/
def State.startRespread (s : State) (b : Nat) : State :=
  let damaged := ((s.rbank b).entries.filter fun q => !q.2.isValid).map Prod.fst
  let s1 := damaged.foldl (fun s p => s.dropEntry b p) s
  let k := s1.rbank b
  let ps := k.entries.map Prod.fst
  let v := ps.length
  let h := k.size - v
  let pitch := (s.setting (0x250501 + b)) / 256 % 256
  let target : Nat → Nat := fun j => j + min (j / (pitch - 1)) (j * h / v)
  s1.setRbank b { k with pitch := pitch, respread := some ((List.range v).zip ps |>.map fun q => (q.2, target q.1)) }

def Update.bankOf : Update → Nat
  | .ins b _ => b.val
  | .del b .. => b.val
  | .upd b .. => b.val

/-- The next move of an insert in progress, or its write. A re-spread of the bank that was asked for meanwhile counts its targets
anew after the write. -/
def State.insertStep (s : State) (bank : Fin 16) (p : InsertPlan) : State :=
  match p.moves with
  | (a, b) :: rest =>
    let s1 := s.moveEntry bank.val a b
    { s1 with rcl := { s1.rcl with inserting := some (bank, { p with moves := rest }) } }
  | [] =>
    let s1 := s.modRbank bank.val fun k => k.put p.pos p.entry
    let s2 := { s1 with rcl := { s1.rcl with inserting := none } }
    if (s2.rbank bank.val).respread.isSome then s2.startRespread bank.val else s2

/-- An update joins the re-spread queue of its bank, 256 at most. -/
def State.queueRespread (s : State) (u : Update) : State :=
  let b := u.bankOf
  if 256 ≤ (s.rbank b).respreadQ.length then s.refuseUpdate b 2
  else s.modRbank b fun k => { k with respreadQ := k.respreadQ ++ [u] }

/-- An update at the head of the queue in a slot that serves: the Boolean says that it took the slot. -/
def State.serveUpdate (s : State) (u : Update) : State × Bool :=
  let b := u.bankOf
  let k := s.rbank b
  if !k.enable then (s.refuseUpdate b 6, false)
  else if k.respread.isSome then (s.queueRespread u, false)
  else match u with
    | .ins bank e =>
      if !k.hasHole then (s.refuseUpdate b 1, false)
      else match k.plan e with
        | some p => (s.insertStep bank p, true)
        | none => (((s.startRespread b).queueRespread u).deviceEvent 0x7022 b, false)
    | .del _ first last =>
      if k.size ≤ last then (s.refuseUpdate b 5, false)
      else (((k.entries.map Prod.fst).filter fun p => decide (first ≤ p) && decide (p ≤ last)).foldl
        (fun s p => s.dropEntry b p) s, true)
    | .upd _ pos key e =>
      if k.size ≤ pos ∨ (k.entry pos).isHole then (s.refuseUpdate b 5, false)
      else (s.setRbank b (k.put pos { e with key := key.getD (k.entry pos).key }), true)

/-- Updates from the head of the queue until one takes the slot. -/
def State.serveUpdates (s : State) : Nat → State × Bool
  | 0 => (s, false)
  | n + 1 =>
    match s.rcl.updates with
    | [] => (s, false)
    | u :: rest =>
      let (s1, took) := { s with rcl := { s.rcl with updates := rest } }.serveUpdate u
      if took then (s1, true) else s1.serveUpdates n

/-- One re-spread move: an entry whose way to its target is free goes there, entries that move up from the last one on, then
entries that move down from the first (R376). The order within a re-spread is the model's choice. -/
def respreadMove (k : RBank) (ps : List (Nat × Nat)) : Option (Nat × Nat) :=
  let free : Nat → Nat → Bool := fun lo n => (List.range n).all fun j => (k.entry (lo + j)).isHole
  match ps.reverse.find? fun q => decide (q.1 < q.2) && free (q.1 + 1) (q.2 - q.1) with
  | some q => some q
  | none => ps.find? fun q => decide (q.2 < q.1) && free q.2 (q.1 - q.2)

/-- The re-spread of bank b ends when every entry stands at its target; the updates that waited go to the head of the
queue. -/
def State.endRespread (s : State) (b : Nat) : State :=
  let k := s.rbank b
  match k.respread with
  | some ps =>
    if ps.all fun q => decide (q.1 = q.2) then
      let s1 := s.setRbank b { k with respread := none, respreadQ := [] }
      { s1 with rcl := { s1.rcl with updates := k.respreadQ ++ s1.rcl.updates } }
    else s
  | none => s

/-- A background slot for the first bank that is being re-spread. -/
def State.respreadSlot (s : State) : State :=
  match (List.range 16).find? fun b => (s.rbank b).respread.isSome with
  | none => s
  | some b =>
    let k := s.rbank b
    match k.respread with
    | none => s
    | some ps =>
      match respreadMove k ps with
      | none => s.endRespread b
      | some (p, q) =>
        ((s.moveEntry b p q).modRbank b fun k => { k with
          respread := some (ps.map fun x => if x.1 = p then (q, x.2) else x) }).endRespread b

/-! ### Searches and reads (R358 to R363, R381, R382) -/

/-- Entries of the searched banks in ascending store position. -/
def State.searchSpace (s : State) (banks : List Nat) : List (Nat × Entry) :=
  banks.flatMap fun b => (s.rbank b).entries.map fun q => (storePos b q.1, q.2)

/-- A query is served in this slot. `bad`: store positions of entries in which the search finds a bad word. -/
def State.serveQuery (s : State) (bad : List Nat) : Query → State
  | .search fromList _ key w d mask cursor fill enables bestKey dmin dmax hbo =>
    let n := HdWidth.bits w
    let named := (List.range 16).filter fun b => mask.getLsbD b
    let wrong := named.filter fun b => decide ((s.rbank b).width ≠ widthCode w)
    let banks := named.filter fun b => decide ((s.rbank b).width = widthCode w) && (s.rbank b).enable
    let ranges := s.hub.read hbo 16
    let space := s.searchSpace banks
    let found := (space.filter fun q => q.2.isValid && bad.contains q.1).map Prod.fst
    let skip := !found.isEmpty || space.any fun q => decide (q.2.state = 2)
    let hits := (space.filter fun q => q.2.isValid && !bad.contains q.1 && tagsPass q.2 enables ranges).filterMap fun q =>
      let dist := hamming n key.bits q.2.key
      if dmin ≤ dist ∧ dist ≤ dmax then some (q.1, dist) else none
    let best := bestOf hits
    let pois := key.poison || s.hub.anyPoison hbo 16
    let bestEntry := best.map fun p => (s.rbank (p.1 / 16384)).entry (p.1 % 16384)
    let rec1 := searchRecord best hits.length
      (bit (decide (2 ≤ hits.length)) 0 + bit pois 1 + bit skip 2 + bit (!wrong.isEmpty) 3)
      (match bestEntry with
        | some e => e.pay
        | none => 0)
    -- without a match the manual names no best key, so D takes a free value
    let keyBits : BitVec 8192 := match bestEntry with
      | some e => e.key
      | none => lowDims n (BitVec.ofNat 8192 (s.freeElem 0))
    let res : SearchResult := {
      fromList := fromList, place := hbo + 16, bytes := rec1, poison := false
      reg := if bestKey then some (d, ⟨keyBits, pois⟩) else none
      cursor := if fill then some cursor else none }
    let s1 := if fill then s.setCursor cursor.val {
        marks := hits.map Prod.fst, next := 0, deep := false, dist := [], poison := pois, filling := true }
      else s
    let s2 := { s1 with
      rcl := { s1.rcl with results := s1.rcl.results ++ [res] }
      hd := { s1.hd with
        listPoison := s1.hd.listPoison || (pois && fromList), hostPoison := s1.hd.hostPoison || (pois && !fromList) } }
    let s3 := found.foldl (fun s p => s.damageEntry (p / 16384) (p % 16384)) s2
    let s4 := wrong.foldl (fun s b => s.deviceEvent 0x7021 b) s3
    if bestKey ∧ best.isNone then s4.takeFree else s4
  | .read fromList w bank pos hbo =>
    let k := s.rbank bank.val
    if k.width ≠ widthCode w then s.refuseUpdate bank.val 4
    else if k.size ≤ pos ∨ (k.entry pos).isHole then s.refuseUpdate bank.val 5
    else
      let e := k.entry pos
      let res : SearchResult := {
        fromList := fromList, place := hbo, bytes := e.bytes ++ leBytes (HdWidth.bits w / 8) e.key.toNat
        poison := !e.isValid, reg := none, cursor := none }
      { s with rcl := { s.rcl with results := s.rcl.results ++ [res] } }

/-- The next slot of the grid ends before the next frame start (R361). -/
def State.recallSlotFits (s : State) : Bool :=
  decide ((256 * (s.rcl.slot + 1) : Nat) ≤ (800 * s.frame.period : Nat) + s.frame.lastCorr)

/-- RECALL_SLOT: a slot of the grid opens, unless it would cross a frame start. In a throttled step only indices that are
multiples of the divisor serve (R361, R378, R379). `badWords`: bank and position of entries in which a search of this slot finds a bad word. -/
def execRecallSlot (badWords : List (Fin 16 × Nat)) (s : State) : Host.Outcome State Fault Refusal :=
  .next (
    if !s.awake || !s.recallSlotFits then s else
    let i := s.rcl.slot
    let s0 := { s with rcl := { s.rcl with slot := i + 1 } }
    if i % s.rcl.throttle ≠ 0 then s0 else
    match s0.rcl.inserting with
    | some (b, p) => s0.insertStep b p
    | none =>
      let (s1, took) := s0.serveUpdates (s0.rcl.updates.length + 1)
      if took then s1 else
      match s1.rcl.queries with
      | q :: rest =>
        { s1 with rcl := { s1.rcl with queries := rest } }.serveQuery
          (badWords.map fun (x : Fin 16 × Nat) => storePos x.1.val x.2) q
      | [] => s1.respreadSlot)

/-- The oldest result becomes visible: record or entry in the hub buffer, best key in D, cursor ready (R363, R366). -/
def State.completeSearch (s : State) : State :=
  match s.rcl.results with
  | [] => s
  | r :: rest =>
    let s1 := { s with rcl := { s.rcl with results := rest } }.hubWrite r.place r.bytes r.poison
    let s2 := match r.reg with
      | some (d, x) => { s1 with hd := { s1.hd with regs := mset HReg.zero s1.hd.regs d.val x } }
      | none => s1
    match r.cursor with
    | some c => s2.setCursor c.val { s2.cursor c.val with filling := false }
    | none => s2

/-! ### Parity scan (R380, R381) -/

/-- Words of a bank: key memory, then descriptor memory. -/
def scanWords : Nat := 573440

/-- The position that word i of a bank belongs to. -/
def RBank.wordPos (b : RBank) (i : Nat) : Nat :=
  if i < 524288 then i / 32 / unitsOf b.width else (i - 524288) / 3

/-- PARITY_SCAN_WORD: the scan port of a bank reads its next word, in Run and Idle. -/
def execParityScanWord (bank : Fin 16) (bad : Bool) (s : State) : Host.Outcome State Fault Refusal :=
  .next (
    if !s.awake then s else
    let k := s.rbank bank.val
    let p := k.wordPos k.scan
    let s1 := s.setRbank bank.val { k with scan := (k.scan + 1) % scanWords }
    if !bad then s1
    else if (k.entry p).isValid then s1.damageEntry bank.val p
    else if (k.entry p).isHole then s1.modRbank bank.val fun k => { k with rewritten := k.rewritten + 1 }
    else s1)

end Sys2Proof.Machine
end

