-- ==== Sys2Proof/Machine/Flips.lean ====
section
/-!
DEFINITION. The trapeze flip (spec/06): flip sets, the atomic rebind of their blocks, cancellation, and commit records.
-/
namespace Sys2Proof.Machine

/-! ### Flip sets and bindings -/

def State.flipSet (s : State) (j : Nat) : FlipSet := mget FlipSet.none s.weights.sets j
def State.setFlip (s : State) (j : Nat) (f : FlipSet) : State :=
  { s with weights := { s.weights with sets := mset FlipSet.none s.weights.sets j f } }

/-- A binding of a flip set: engine, block, bank, and whether it binds. -/
abbrev Binding := EngineId × Nat × Nat × Bool

/-- The translation table entry of a block. -/
def State.entryOf (s : State) (e : EngineId) (block : Nat) : XEntry := mget XEntry.zero (s.engine e).xlat block
def State.setEntry (s : State) (e : EngineId) (block : Nat) (x : XEntry) : State :=
  s.modEngine e fun g => { g with xlat := mset XEntry.zero g.xlat block x }

/-- Bank number that an entry binds. -/
def XEntry.bankOf (x : XEntry) (e : EngineId) : Nat := e.val * 2048 + 2 * x.array.val + (if x.bank then 1 else 0)
def arrayOf (b : Nat) : Fin 1024 := Fin.ofNat 1024 (b / 2 % 1024)
def isY (b : Nat) : Bool := decide (b % 2 = 1)

/-- The bank that carries a bound block. -/
def State.boundBank (s : State) (e : EngineId) (block : Nat) : Option Nat :=
  let x := s.entryOf e block
  if x.v then some (x.bankOf e) else none

/-- Every bound block: engine, block and bank. -/
def State.allBindings (s : State) : List (EngineId × Nat × Nat) :=
  s.engines.flatMap fun p => (p.2.xlat.filter fun x => x.2.v).map fun x =>
    (Fin.ofNat 4096 p.1, x.1, x.2.bankOf (Fin.ofNat 4096 p.1))

/-- Dies that a set touches. -/
def FlipSet.dies (f : FlipSet) : List DieId := (f.bindings.map fun b => bankDie b.2.2.1).eraseDups

/-- A pending binding enters the table (R147). -/
def State.pendBlock (s : State) (j : Nat) (b : Binding) : State :=
  let x := s.entryOf b.1 b.2.1
  (s.setEntry b.1 b.2.1 { x with
    pend := true, fset := Fin.ofNat 4 j, nv := b.2.2.2, narray := arrayOf b.2.2.1, nbank := isY b.2.2.1 }).modBank b.2.2.1
    fun k => { k with state := .pending, fset := some (Fin.ofNat 4 j) }

/-- A set whose banks are all ready or retained is armed: its banks become pending (R149, R168). -/
def State.armSet (s : State) (j : Nat) : State :=
  let f := s.flipSet j
  (forAll f.bindings (fun s b => s.pendBlock j b) s).setFlip j { f with armed := true, held := false, armedBeforeDeadline := !s.frame.deadlinePassed }

/-- Every bank of the set is ready or retained. -/
def State.setReady (s : State) (f : FlipSet) : Bool :=
  f.bindings.all fun b => decide ((s.bank b.2.2.1).state = .ready) || decide ((s.bank b.2.2.1).state = .retained)

/-! ### The flip (R157) -/

/-- The rewrites of a bank are done: its absorption and its refresh leave the tasks (R125, R138). -/
def Engine.dropRewrites (g : Engine) (b : Nat) : Engine :=
  let keep : Task → Bool := fun t => decide (t ≠ .absorb b) && decide (t ≠ .refresh b)
  { g with tasks := g.tasks.filter keep, begun := g.begun.filter keep }

/-- The bank of a block whose binding the set replaces: it becomes retained, or free after a refresh (R143, R157). Nothing waits
for a rewrite of it any more, and a rewrite that a worn bank blocked is cured (R154). -/
def State.unbindOld (s : State) (refresh : Bool) (b : Binding) : State :=
  match s.boundBank b.1 b.2.1 with
  | some old => (s.modBank old fun k => { k with
      state := if refresh then .free else .retained, fset := none, blocked := false }).modEngine b.1 fun g => g.dropRewrites old
  | none => s

/-- The new binding. -/
def State.bindNew (s : State) (b : Binding) : State :=
  let k := s.bank b.2.2.1
  let x := s.entryOf b.1 b.2.1
  let x1 : XEntry := { x with
    v := b.2.2.2, pend := false, array := arrayOf b.2.2.1, bank := isY b.2.2.1
    set := if b.2.2.2 then k.contents.set else x.set, gs := if b.2.2.2 then k.contents.gs else x.gs }
  let s1 := s.setEntry b.1 b.2.1 x1
  if b.2.2.2 then
    s1.modBank b.2.2.1 fun k => { k with
      state := .live, block := b.2.1, fset := none, refreshQueued := false, driftB := false, blocked := false }
  else s1

/-- Marked entries of the hidden cursor that follows a consolidation become host DEL updates (R387). -/
def State.deleteConsolidated (s : State) : State :=
  let marks := (mget Cursor.empty s.rcl.cursors 16).marks
  let dels := marks.map fun p => Update.del (Fin.ofNat 16 (p / 16384)) (p % 16384) (p % 16384)
  { s with rcl := { s.rcl with
    updates := s.rcl.updates ++ dels, cursors := mset Cursor.empty s.rcl.cursors 16 Cursor.empty } }

/-- The end of a remap at its flip (R176, R177): reserved flags are cleared, the die's record is completed, and a new plan set
is asked for. -/
def State.finishRemap (s : State) (d : DieId) : State :=
  let s1 := { s with
    banks := dropDefault Bank.init (mapValues s.banks fun k => { k with reserved := false })
    weights := { s.weights with remapRunning := false, plansStale := true } }
  let s2 := s1.modDie d fun x => { x with
    remapped := true, remapMinute := s1.svc.minutes, remapMs := (s1.now - x.outAt) / 800000 }
  (s2.event 0x8017 (dieHandle d)).event 0x8018 deviceHandle

/-- A flip set is taken (R157, R161). -/
def State.takeSet (s : State) (j : Nat) : State :=
  let f := s.flipSet j
  let s1 := forAll f.bindings (fun s b => s.unbindOld f.refresh b) s
  let s2 := forAll f.bindings State.bindNew s1
  let s3 := s2.setFlip j { f with armed := false, armedBeforeDeadline := false, committing := true }
  let s4 := if s3.weights.loadSet = some (Fin.ofNat 4 j) then { s3 with weights := { s3.weights with status := 7 } } else s3
  let s5 := if f.consolidation then
      ({ s4 with rcl := { s4.rcl with
        deepActive := !s4.rcl.deepActive, deepValid := true, consolidation := 2 } }).deleteConsolidated.raise 0x7027 deviceHandle (openParam 0x7027 0 0) (BitVec.ofNat 16 s4.rcl.consBank)
    else s4
  match f.remapOf with
  | some d => s5.finishRemap d
  | none => s5

/-- The container that a tied set switches to (R159). -/
def State.tiedContainer (s : State) (f : FlipSet) : Option Container :=
  match f.container with
  | none => none
  | some h =>
    let here := match s.prog.staged with
      | some c => if c.digest = h then some c else none
      | none => none
    match here with
    | some c => some c
    | none => s.prog.remapped.find? fun c => decide (c.digest = h)

/-- R156: the set is taken at this flip point. A tied set needs a programme start there that can switch to its container: after a
die loss the continuity copy takes that start (R159, R175). -/
def State.qualifies (s : State) (starts : Bool) (j : Nat) : Bool :=
  let f := s.flipSet j
  f.armed && f.armedBeforeDeadline && (f.bindings.all fun b => decide ((s.bank b.2.2.1).state = .pending)) &&
    (f.container.isNone || (starts && !s.prog.contDue && (s.tiedContainer f).isSome))

/-- Sets taken at a boundary, in FSET order (R158). A boundary has one programme switch, so of tied sets that qualify together only
the first is taken there, and another waits (R159). -/
def State.qualifying (s : State) (starts : Bool) : List Nat :=
  if s.frame.flipPoint && !s.svc.restarting then
    let js := (List.range 4).filter (s.qualifies starts)
    let tied := js.find? fun j => (s.flipSet j).container.isSome
    js.filter fun j => (s.flipSet j).container.isNone || decide (tied = some j)
  else []

/-- Deep group table changes take effect at a flip point (R383). -/
def State.applyDeepTable (s : State) : State :=
  if s.frame.flipPoint then
    { s with rcl := { s.rcl with
      deep := s.rcl.deepNext.foldl (fun m g => mset ⟨0, 0⟩ m g.1 g.2) s.rcl.deep, deepNext := [] } }
  else s

/-! ### Cancellation (R160) -/

/-- A bank of a cancelled set: its lane is free again. -/
def Bank.released (k : Bank) : Bank :=
  match k.state with
  | .pending => { k with state := .ready, fset := none, lane := false }
  | .writing => { k with state := .free, fset := none, lane := false }
  | _ => { k with fset := none, lane := false }

/-- Rewrites that have begun for a cancelled set wait again; calibrations of its banks that still were being written end (R125,
R160). -/
def Engine.abandonTasks (g : Engine) (b : Nat) : Engine :=
  { g with
    tasks := g.tasks.filter fun t => decide (t ≠ .fresh b)
    begun := g.begun.filter fun t => !t.onArray b
    cal := if g.cal.any fun c => decide (c.task = .fresh b) then none else g.cal }

/-- A set not yet taken is cancelled. -/
def State.cancelSet (s : State) (j : Nat) : State :=
  let f := s.flipSet j
  if !f.used || f.committing then s else
  let banks := f.bindings.map fun b => b.2.2.1
  let s1 := forAll f.bindings (fun s b =>
    let x := s.entryOf b.1 b.2.1
    let s' := if x.pend then s.setEntry b.1 b.2.1 { x with pend := false } else s
    (s'.modBank b.2.2.1 Bank.released).modEngine (bankEngine b.2.2.1) fun g => g.abandonTasks b.2.2.1) s
  let s2 := s1.setFlip j FlipSet.none
  let mine := s2.weights.loadSet = some (Fin.ofNat 4 j)
  let s3 := { s2 with weights := { s2.weights with
    waitingWrites := s2.weights.waitingWrites.filter fun w => !banks.contains w.1
    status := if mine then 6 else s2.weights.status
    loadSet := if mine then none else s2.weights.loadSet
    remapRunning := s2.weights.remapRunning && f.remapOf.isNone } }
  let s4 := if f.consolidation then
      ({ s3 with rcl := { s3.rcl with
        consolidation := 3, cursors := mset Cursor.empty s3.rcl.cursors 16 Cursor.empty } }).raise 0x7027 deviceHandle (openParam 0x7027 2 0) (BitVec.ofNat 16 s3.rcl.consBank)
    else s3
  s4.event 0x8013 deviceHandle

/-! ### Commit records (R161) -/

/-- Bindings of a commit record after those of a set (R161): a block is bound as the set says. -/
def FlipSet.recorded (f : FlipSet) (bs : List (EngineId × Nat × Nat)) : List (EngineId × Nat × Nat) :=
  (bs.filter fun x => !f.bindings.any fun b => decide (b.1 = x.1) && decide (b.2.1 = x.2.1)) ++
    (f.bindings.filter fun b => b.2.2.2).map fun b => (b.1, b.2.1, b.2.2.1)

/-- COMMIT_RECORDS_COMPLETE: the records of a taken set are complete on every die. -/
def execCommitRecordsComplete (set : Fin 4) (s : State) : Host.Outcome State Fault Refusal :=
  .next (
    let f := s.flipSet set.val
    if !f.committing then s else
    let mine := decide (s.weights.loadSet = some set)
    let s1 := (s.setFlip set.val FlipSet.none).event 0x8012 deviceHandle
    let s2 := { s1 with weights := { s1.weights with
      status := if mine then 5 else s1.weights.status
      loadSet := if mine then none else s1.weights.loadSet
      liveDigest := if f.image = 0 then s1.weights.liveDigest else f.image
      lastCommitted := f.recorded s1.weights.lastCommitted } }
    (if f.image = 0 then s2 else s2.history 3 0 f.image).writeBoot)

end Sys2Proof.Machine
end

