-- ==== Sys2Proof/Machine/Start.lean ====
section
/-!
DEFINITION. Programme switch and programme start (spec/07, spec/08, spec/15): what a switch resets, variant select, the
rearming of the three turnstiles, and the accuracy class of arrays (spec/05).
-/
namespace Sys2Proof.Machine

/-! ### Accuracy class (R118 to R120) -/

/-- The live bank is in class B: its recorded band differs by two or more from the declared one, or its drift exceeds half a
level. A block without a declared band has no band difference, and only its drift counts (DESIGN CHOICE, log 95: R119 gives such an array
no class by band). -/
def State.bankClassB (s : State) (b : Nat) : Bool :=
  let k := s.bank b
  decide (k.state = .live) && (k.driftB || (match s.declaredBand (bankEngine b) k.block with
    | some d => decide (2 ≤ max k.part.band d - min k.part.band d)
    | none => false))

/-- Class evaluation of one array, named by its X bank (R119, R120). -/
def State.evalClass (s : State) (x : Nat) : State :=
  let old := (s.bank x).classB || (s.bank (x + 1)).classB
  let nx := s.bankClassB x
  let ny := s.bankClassB (x + 1)
  let s1 := (s.modBank x fun k => { k with classB := nx }).modBank (x + 1) fun k => { k with classB := ny }
  let h := arrayHandle (bankEngine x) (x / 2)
  if (nx || ny) && !old then
    (s1.modEngine (bankEngine x) fun g => g.addTask (.classB (if nx then x else x + 1))).event 0x2030 h
  else if !(nx || ny) && old then s1.event 0x2031 h
  else s1

/-- Every array with contents. -/
def State.evalClasses (s : State) : State :=
  forAll ((s.banks.map fun p => 2 * (p.1 / 2)).eraseDups) State.evalClass s

/-! ### Variant select (R201, R221) -/

/-- The HOST field of R201 (R517). -/
def State.hostVariant (s : State) : Nat := if s.prog.useRx then s.prog.rxVariant.toNat else s.setting 0x260008

/-- The frame condition word. -/
def State.conditionWord (s : State) : W32 :=
  BitVec.ofNat 32 (s.hostVariant % 256 * 0x1000000 + (65535 - s.diesWord) * 256 + bit s.frame.slipPrev 7 + bit s.frame.missPrev 6 +
    bit s.frame.pois 5)

/-- The path that the first matching rule chooses, or path 0. -/
def chooseVariant (g : VariantGroup) (input : BitVec 48) : Nat :=
  match g.rules.find? fun r => decide (input &&& r.mask = r.value) with
  | some r => r.path
  | none => 0

def selectorInput (fcw : W32) (miss : BitVec 16) : BitVec 48 := fcw ++ miss

/-! ### Programme start (R208, R224, R292, R481) -/

/-- A tile at a programme start: its entry word is next, and every group's path is chosen. A MOVE that a stopped programme left
goes on sending (R210). -/
def Tile.begin (x : Tile) (entry : Nat) (paths : List Nat) : Tile :=
  { x.settleNarrow with
    running := true, pc := entry, entry := entry, pcyc := 0, phase := 0, loops := [], varReturn := none, jump := none
    ending := false, paths := paths, latches := [], hintPhase := none, hintStart := 0, landings := []
    fillOp := none, copyOp := none, holdDebt := 0, statSeen := x.stats, statQ := [], lastObs := none }

def State.beginTile (s : State) (c : Container) (t : TileId) : State :=
  let input := selectorInput s.conditionWord (s.tile t).missBits
  let entry := match placementOf s.prog.groups c t with
    | some p => p.entry
    | none => 0
  s.modTile t fun x => x.begin entry (c.variants.map fun g => chooseVariant g input)

/-- The hub resets a turnstile with a TARGET before cc 0, and the first wait samples see it (R292). -/
def State.rearm (s : State) (n : Byte) (target : Nat) : State :=
  let x : Ts := ⟨false, false, BitVec.ofNat 14 target, 0⟩
  let s1 := { s with globals := ⟨mset Ts.zero s.globals.ts n.toNat x, s.globals.arrived.filter fun a => decide (a.1 ≠ n.toNat)⟩ }
  forAll allDies (fun s d => s.modDie d fun y => { y with
    shadow := mset Ts.zero y.shadow n.toNat x, shadowQ := y.shadowQ.filter fun q => decide (q.2.1 ≠ n.toNat) }) s1

/-- A dictionary write or a setup of a statistics register. -/
def Tile.writeStat (x : Tile) (r : Nat) (ctl clip : W32) : Tile :=
  { x with
    stats := mmod Stat.reset x.stats r fun y => y.write ctl clip
    statSeen := mmod Stat.reset x.statSeen r fun y => y.write ctl clip
    statQ := x.statQ.filter fun q => decide (q.2.1 ≠ r) }

/-- The pending image of every segment takes the committed one, poisoned bytes and all (R481). -/
def State.openImages (s : State) : State :=
  forAll (List.range 3) (fun s k => s.modSegment k fun g =>
    { g with pending := g.committed, pendingPoison := g.committedPoison }) s

/-- The new slot grid of a group: slot 0 of the frame begins at the frame start, with its hold decision (R56, R209). -/
def State.restartGrid (s : State) (ds : List DieId) : State :=
  let s1 := s.openSlot ds s.frame.start
  let s2 := forAll ds (fun s d => s.modDie d fun x => { x with slot := 0, waitSlot := false }.takeLimits s.pwr.nCur) s1
  s2.markSlot ds (ds.any s2.asksHold)

/-- The throttle groups as die lists. -/
def State.throttleGroups (s : State) : List (List DieId) := (s.diesIn.map s.throttleDies).eraseDups

/-- Groups that take the frame start: all of them at a programme start, else those on which no programme runs (R209). -/
def State.gridGroups (s : State) (starts : Bool) : List (List DieId) :=
  s.throttleGroups.filter fun ds => starts || !(ds.flatMap dieTiles).any fun t => (s.tile t).running

/-- The slot grids of these groups restart; in any other a frame counts its slots from 0. -/
def State.restartGrids (s : State) (gs : List (List DieId)) : State :=
  forAll s.throttleGroups (fun s ds =>
    if gs.contains ds then s.restartGrid ds else forAll ds (fun s d => s.modDie d fun x => { x with slot := 0 }) s) s

/-- Programme start: variant select, rearmed turnstiles, the pending image, and the entry words (R224, R292, R481). -/
def State.startProgramme (s : State) (c : Container) : State :=
  let n := s.tilesIn.length
  let s1 := ((s.rearm c.frameTs n).rearm c.commitTs n).rearm c.flipTs n
  let s2 := forAll s1.tilesIn (fun s t => s.beginTile c t) s1
  let s3 := s2.openImages
  { s3 with
    frame := { s3.frame with started := true, programmeFrame := some s3.frame.number, notBefore := 0 } }

/-! ### Programme switch (R428) -/

/-- Queued ticket requests are dropped with poisoned done adds (R258). -/
def State.dropRequests (s : State) : State :=
  forAll allTiles (fun s t =>
    let rs := (s.tile t).requests
    rs.foldl (fun s r => s.endTicket r true) (s.modTile t fun x => { x with requests := [] })) s

/-- A tile at a switch: turnstiles, booth and regions of the new programme, registers whose contents are undefined, and
statistics registers at their reset values (R98, R234, R255, R292). -/
def Tile.switched (x : Tile) (free t : Nat) (p : Option Placement) (rows : Nat) : Tile :=
  { x with
    turnstiles := [], tsSeen := [], tsQ := [], booth := []
    stats := [], statSeen := [], statQ := [], lastObs := none, statRows := [], missBits := 0, winTested := 0
    vregs := (List.range 32).map fun r => (r, ⟨Config.undefinedVReg free (32 * t + r), 0⟩)
    longest := rows
    regions := match p with
      | some q => ⟨q.constFirst, q.constRows, q.workFirst, q.workRows⟩
      | none => ⟨0, 0, 0, 0⟩ }

/-- Programme length of a placement's longest path; the implicit routine of a tile without one is one word (R224, R247). -/
def lengthOf (c : Container) (p : Option Placement) : Nat :=
  match p with
  | none => 1
  | some q => Container.longest c q

/-- Statistics setup of a container (R243). -/
def State.setupStats (s : State) (c : Container) : State :=
  forAll c.stats (fun s e => forAll (s.handleTiles e.handle) (fun s t =>
    s.modTile t fun x => x.writeStat e.reg.val e.ctl e.clip) s) s

/-- The default throttle grouping: one die each (R36). -/
def defaultThrottle : List Handle := (List.range 16).map fun k => BitVec.ofNat 32 (0x82000000 + 32 + k)

/-- What the first programme start after a switch or a wake finds: undefined vector registers, closed rows, turnstiles with
TARGET 0 (R234, R255, R292). -/
def State.renewTiles (s : State) (c : Container) : State :=
  let s1 := forAll s.tilesIn (fun s t => s.modTile t fun x =>
    x.switched s.free t.val (placementOf s.prog.groups c t) (lengthOf c (placementOf s.prog.groups c t))) s
  let s2 := forAll allDies (fun s d => s.modDie d fun x => { x with shadow := [], shadowQ := [] }) s1.takeFree
  { s2 with globals := ⟨[], []⟩, prog := { s2.prog with wakeStart := false } }

/-- What a switch resets, without its reports. -/
def State.switchEffects (s : State) (c : Container) : State :=
  let s0 := s.dropRequests
  let s1 := { s0 with prog := { s0.prog with
    groups := containerTable c s0.prog.groups
    throttle := if c.throttle.isEmpty then defaultThrottle else c.throttle
    areaBase := s0.setting 0x260009, areaSize := s0.setting 0x26000A, gatherMap := s0.setting 0x26000B
    firstStart := false } }
  let s2 := s1.renewTiles c
  let s3 := forAll allDies (fun s d => s.modDie d fun x => { x with limits := [] }) s2
  let s4 := { s3 with
    rcl := { s3.rcl with cursors := s3.rcl.cursors.filter fun q => decide (q.1 = 16) }
    pwr := { s3.pwr with phases := s3.pwr.phases.filter fun q => q.2.frozen } }
  s4.setupStats c

/-- A programme switch to c; `old` is kept as the retained programme (R428, R429). -/
def State.switchTo (s : State) (c : Container) (old : Option Container) : State :=
  let s1 := { s with prog := { s.prog with
    running := some c, retained := old, contRuns := c.continuity, switchReq := none, switchReady := false } }
  ((s1.switchEffects c).event 0x8025 deviceHandle).history 2 0 c.digest |>.writeBoot

end Sys2Proof.Machine
end

