-- ==== Sys2Proof/Machine/FrameOps.lean ====
section
/-!
DEFINITION. The frame (spec/07, spec/10, spec/15): the calliope, everything that a frame boundary changes in the order of
R431, the start or slip of the frame programme, and the commit deadline.
-/
namespace Sys2Proof.Machine

/-! ### The calliope (R294 to R296) -/

/-- Largest correction of a frame: floor(F / 2,048). -/
def Frame.bound (f : Frame) : Int := (800 * f.period / 2048 : Nat)

/-- Distributed-clock time is there. -/
def Frame.timed (f : Frame) (e : EdgeInput) : Bool := e.dcAvailable && !f.dcLost

/-- The calliope lost lock to needs beyond the bound and keeps its last correction: until a need lies within the bound again, or
distributed-clock time goes (DESIGN CHOICE, log 91: R295 does not say how such a holdover ends). -/
def Frame.holdsOver (f : Frame) (e : EdgeInput) : Bool :=
  f.overBound && f.timed e && decide (f.bound < e.needed.natAbs)

/-- The correction of the frame that starts: what the edge needs within the bound, or the last one in a holdover (R294, R295,
R477). -/
def Frame.correction (f : Frame) (e : EdgeInput) : Int :=
  if f.timed e && !f.holdsOver e then clampInt (-f.bound) f.bound e.needed else f.lastCorr

/-- The lock after a frame start: consecutive starts within 2 cc, and consecutive needs beyond the bound. -/
def Frame.track (f : Frame) (e : EdgeInput) : Frame :=
  let run := if f.timed e && decide (e.late.natAbs ≤ 2) then f.lockRun + 1 else 0
  let need := if f.timed e && decide (f.bound < e.needed.natAbs) then f.needRun + 1 else 0
  let lost := f.locked && (!f.timed e || decide (16 ≤ need))
  let lock := !lost && (f.locked || decide (16 ≤ run))
  { f with
    overBound := f.holdsOver e || (lost && f.timed e)
    lastCorr := if lost then f.lastCorr else f.correction e, lockRun := if lost then 0 else run, needRun := need, locked := lock
    holdover := if lost then true else if lock then false else f.holdover }

/-- Length in cc of the frame that ends at an edge: F and its correction; at the edge on which a new period opens, what lies
between the two edges (R294, R296). -/
def Frame.lengthTo (f : Frame) (e : EdgeInput) : Int :=
  let usual := (800 * f.period : Nat) + f.lastCorr
  match f.nextPeriod with
  | some (t, at') =>
    if at' + 1 ≤ f.number ∧ t ≠ f.period ∧ (e.sysTime - f.phase) % (1000 * t) = 0 then ((e.sysTime - f.sysTime) * 4 / 5 : Nat)
    else usual
  | none => usual

/-- The new frame opens: number, start, system time, lock, and its events. -/
def State.openFrame (s : State) (e : EdgeInput) : State :=
  let f := s.frame
  let start := ((f.start : Int) + f.lengthTo e).toNat
  let f1 := { f with number := f.number + 1, start := start, sysTime := e.sysTime, missedStarts := 0 }
  let f2 := f1.track e
  let s1 := { s with frame := f2, now := max s.now start }
  if f2.holdover && !f.holdover then s1.event 0x4030 deviceHandle
  else if f.holdover && !f2.holdover then s1.event 0x4031 deviceHandle
  else s1

/-- A written value takes effect at the first edge that suits it, at least one frame after the write (R296, R475). -/
def Frame.due (f : Frame) (w : Option (Nat × Nat)) (fits : Nat → Bool) : Option Nat :=
  match w with
  | some (v, at') => if at' + 2 ≤ f.number ∧ fits v then some v else none
  | none => none

/-- The restart of the body network at a new period (R478): segments with an ENI go to INIT; those whose ENI gives another
cycle time stay there. -/
def State.restartNetwork (s : State) (period : Nat) : State :=
  forAll (List.range 3) (fun s k =>
    match (s.segment k).eni with
    | none => s
    | some n =>
      let bad := decide (n.cycleUs ≠ period)
      let s1 := (s.modSegment k fun g => { g with state := .init, sync0 := false, held := bad, awaiting := false }).deviceEvent
        0x4052 k
      if bad then s1.raise 0x4050 deviceHandle (openParam 0x4050 7 0) (BitVec.ofNat 16 k) else s1) s

/-- Period and phase that take effect at this edge. -/
def State.takePeriod (s : State) : State :=
  let f := s.frame
  let s1 := match f.due f.nextPhase (fun p => decide ((f.sysTime - p) % (1000 * f.period) = 0)) with
    | some p => { s with frame := { f with phase := p, nextPhase := none } }
    | none => s
  let g := s1.frame
  match g.due g.nextPeriod (fun t => decide ((g.sysTime - g.phase) % (1000 * t) = 0)) with
  | some t =>
    let s2 := { s1 with frame := { g with period := t, nextPeriod := none } }
    if t = g.period then s2 else s2.restartNetwork t
  | none => s1

/-! ### What a boundary closes -/

/-- The statistics registers of a tile at a frame boundary: snapshot, MISS bits, FRC clear, dictionary writes (R101, R103,
R107). -/
def Tile.closeStats (x : Tile) : Tile :=
  let bits := BitVec.ofNat 16 (packNat 1 ((List.range 16).map fun r => if (x.stat r).miss then 1 else 0))
  let y : Tile := { x with statSnap := x.stats, flagSnap := x.flags, missBits := bits, winTested := 0 }
  let z := (List.range 16).foldl (fun y r => if (y.stat r).frc then
      { y with
        stats := mmod Stat.reset y.stats r Stat.clear, statSeen := mmod Stat.reset y.statSeen r Stat.clear
        statQ := y.statQ.filter fun q => decide (q.2.1 ≠ r), statRows := mset StatRow.start y.statRows r StatRow.start }
    else y) y
  { z.statPend.foldl (fun y p => y.writeStat p.1.val p.2.1 p.2.2) z with statPend := [] }

/-- Registers whose MISS no window tested report it (R106, R107): at the frame boundary, under the new frame's number and time, and
again in each frame at whose end MISS is still set (DESIGN CHOICE, log 89: R106 gives no time). -/
def State.reportMisses (s : State) (t : TileId) : State :=
  let x := s.tile t
  forAll (List.range 16) (fun s r =>
    if (x.stat r).miss && !x.winTested.getLsbD r then s.raise 0x2021 (tileHandle t) (eventParam 0 r) 0xFFFF else s) s

/-- A tile at a frame boundary: statistics, and the ringmaster's rewrite of what SECDED could not correct, which ends frame
poison (R131, R193, R290). -/
def State.closeTile (s : State) (t : TileId) : State :=
  (s.reportMisses t).modTile t fun x =>
    { x.closeStats with framePoison := false, badWords := [], badPool := [] }

def State.closeTiles (s : State) : State :=
  let s1 := forAll (s.tiles.map fun p => Fin.ofNat 256 p.1) State.closeTile s
  { s1 with engines := dropDefault Engine.init (mapValues s1.engines fun g => { g with badX := [] }) }

/-- Entries of the frame that ended become readable, and go to the emergency queue when their class is enabled (R435,
R437). -/
def State.publishLog (s : State) : State :=
  let v := s.svc
  if v.nextSeq = 0 then s else
  let from' := match v.readable with
    | some n => n + 1
    | none => 0
  let mask := s.setting 0x2E0002
  let fresh := (v.log.filter fun e => decide (from' ≤ e.sequence) && decide (bitsOf mask (e.code.toNat / 0x1000) 1 = 1)).map
    fun e => (e.code.toNat, e.sequence)
  { s with svc := { v with readable := some (v.nextSeq - 1), emergency := (v.emergency ++ fresh).take 256 } }

/-- HD settings and the list table (R348, R352): carousel keys and encoder slots wait for their rebuild. -/
def Hd.boundary (h : Hd) : Hd :=
  let enc := (List.range 16).foldl (fun m k =>
    if h.rebuilt.contains (8 + k) then mset Encoder.zero m k (mget Encoder.zero h.written.encoders k) else m) h.settings.encoders
  let car := (List.range 8).map fun k =>
    if h.rebuilt.contains k then h.written.carousel.getD k 0 else h.settings.carousel.getD k 0
  { h with
    settings := ⟨h.written.seeds, h.written.tie, car, enc⟩, rebuilt := []
    lists := h.nextLists.getD h.lists, nextLists := none }

/-- An update that carries a key. -/
def Update.hasKey : Update → Bool
  | .ins .. => true
  | .del .. => false
  | .upd _ _ key _ => key.isSome

/-- A changed width makes every position of bank b a hole and clears its cursor marks (R357). Updates that wait with a key of
the old width are refused with reason 4 (R377), an insert in progress among them. -/
def State.changeWidth (s : State) (b width : Nat) : State :=
  let k := s.rbank b
  let waiting := k.respreadQ ++ s.rcl.updates
  let old : Update → Bool := fun u => decide (u.bankOf = b) && u.hasKey
  let cut := match s.rcl.inserting with
    | some (x, _) => decide (x.val = b)
    | none => false
  let s1 := s.setRbank b { k with width := width, entries := [], respread := none, respreadQ := [] }
  let s2 := { s1 with rcl := { s1.rcl with
    updates := waiting.filter fun u => !old u
    inserting := if cut then none else s1.rcl.inserting } }
  let s3 := forAll (waiting.filter old) (fun s _ => s.refuseUpdate b 4) (if cut then s2.refuseUpdate b 4 else s2)
  s3.mapCursors fun c => (c.marks.filter fun p => decide (p / 16384 = b)).foldl Cursor.clearMark c

/-- Settings of recall bank b: width and enable; a changed pitch starts a re-spread (R357, R376). -/
def State.bankSettings (s : State) (b : Nat) : State :=
  let v := s.setting (0x250501 + b)
  let s1 := s.modRbank b fun k => { k with enable := decide (bitsOf v 16 1 = 1) }
  let s2 := if (s1.rbank b).width = v % 4 then s1 else s1.changeWidth b (v % 4)
  if (s2.rbank b).respread.isNone ∧ (s2.rbank b).pitch ≠ v / 256 % 256 then s2.startRespread b else s2

/-- Threshold of a search throttle step in 1/4 °C, and the step of a temperature. -/
def throttleThreshold (step : Nat) : Int := if step = 2 then 400 else if step = 4 then 412 else if step = 8 then 420 else -10000
def throttleStep (tj : Int) : Nat := if tj < 400 then 1 else if tj < 412 then 2 else if tj < 420 then 4 else 8

/-- The next search throttle step: up at once; down when the temperature lies 2 °C below the present threshold (R379). -/
def nextThrottle (old : Nat) (tj : Int) : Nat :=
  let new := throttleStep tj
  if old ≤ new then new
  else if tj ≤ throttleThreshold old - 8 then max new (throttleStep (tj + 8)) else old

def State.searchThrottle (s : State) : State :=
  let n := nextThrottle s.rcl.throttle (s.chan 0).tj
  let s1 := { s with rcl := { s.rcl with throttle := n } }
  if n = s.rcl.throttle then s1 else s1.deviceEvent 0x7024 0xFFFF

/-- Settings written since the last boundary (R495, R399, R313). -/
def State.takeSettings (s : State) : State :=
  let ctx := dropDefault ImgContext.init (mapValues s.ingress.contexts fun c =>
    match c.next with
    | some g => if c.settings.enable then c else { c with settings := g, next := none }
    | none => c)
  let s1 := { s with
    dict := { s.dict with inForce := s.dict.accepted, octetsInForce := s.dict.octets }
    pwr := { s.pwr with
      phases := s.pwr.phaseWrites.foldl (fun m p => mset Phase.zero m p.1 p.2) s.pwr.phases, phaseWrites := []
      nCurEvent := false }
    ingress := { s.ingress with contexts := ctx }
    hd := s.hd.boundary }
  (forAll (List.range 16) State.bankSettings s1).searchThrottle

/-- The gather list is emptied, and the slot grid of the fast store restarts (R361, R370). -/
def State.openRecall (s : State) : State :=
  { s with rcl := { s.rcl with gather := [], glistDone := false, slot := 0 } }

/-- Retrained modules rejoin (R440, R548). -/
def State.rejoinModules (s : State) : State :=
  forAll allDies (fun s d =>
    let x := s.die d
    x.rejoin.foldl (fun s m =>
      let s1 := s.modDie d fun x => x.raiseModule m
      let s2 := match ringPeer d m with
        | some (e, n) => s1.modDie e fun x => x.raiseModule n
        | none => s1
      s2.raise 0x4012 (dieHandle d) 0 (BitVec.ofNat 16 m)) (s.modDie d fun x => { x with rejoin := [] })) s

/-- The per-frame marks pass to their previous-frame fields. -/
def Frame.close (f : Frame) : Frame :=
  { f with
    slipPrev := f.slip, missPrev := f.miss, startedPrev := f.started, throttledPrev := f.throttled, slip := false, miss := false
    started := false, throttled := false, deadlinePassed := false, dieLost := false }

/-- Process-data blocks whose tickets were not granted by the frame start are discarded: the done add carries poison and the
request leaves the booth (R261). -/
def State.dropBlocks (s : State) : State :=
  let late := s.agents.filter fun a => decide (a.holder = 0x100) && !a.granted
  let gone : TicketReq → Bool := fun r => late.any fun a => decide (r.agent = some a.tag)
  let s1 := { s with
    agents := s.agents.filter fun a => !(decide (a.holder = 0x100) && !a.granted)
    fabric := { s.fabric with wire := s.fabric.wire.filter fun p => !gone p.2 } }
  late.foldl (fun s a =>
    ((s.modTile a.tile fun x => { x with requests := x.requests.filter fun r => !gone r }).applyHubDone a.done true).event 0x4020
      (tileHandle a.tile)) s1

/-- Sample stream contexts that the new settings enable start with an empty ring (R486). -/
def State.openStreams (s : State) : State :=
  let on : SMap (List Byte) → Nat → Bool := fun m k => decide (fieldAt (mget [] m (0x296001 + k)) 1 1 % 2 = 1)
  let fresh := (List.range 8).filter fun k => on s.dict.octets k && !on s.dict.octetsInForce k
  { s with ecat := { s.ecat with streams := fresh.foldl mdel s.ecat.streams } }

/-- Age steps change at a frame boundary, per die (R411, R412). -/
def State.ageSteps (s : State) : State :=
  let a := min 2 (s.svc.minutes / 1576800)
  let s1 := if s.pwr.hubAge = a then s
    else ({ s with pwr := { s.pwr with hubAge := a } }).event 0x1034 hubHandle
  forAll allDies (fun s d => if (s.die d).ageStep = a then s
    else (s.modDie d fun x => { x with ageStep := a }).event 0x1034 (dieHandle d)) s1

/-- What ends with the old frame and is read anew in the next. -/
def State.closeFrame (s : State) : State :=
  let s1 := { s with frame := s.frame.close }.dropBlocks.openStreams.loopBoundary
  s1.closeTiles.takeSettings.openRecall.rejoinModules.ageSteps

/-! ### Calibration and safety-net lists (R123, R133) -/

/-- The four engine parts of a calibration take effect together: none does while the calibration goes on. -/
def Engine.activate (g : Engine) : Engine :=
  if g.cal.any fun c => decide (c.task = .recalEngine) then g
  else { g with
    parts := g.nextParts.foldl (fun m p => mset EnginePart.nominal m p.1 p.2) g.parts, nextParts := [] }

def Bank.activate (k : Bank) : Bank :=
  let k1 := match k.nextPart with
    | some p => { k with part := p, nextPart := none }
    | none => k
  match k1.nextNet with
  | some (b, n) => { k1 with netBase := b, netCount := n, nextNet := none }
  | none => k1

def State.activateRecords (s : State) : State :=
  { s with
    engines := dropDefault Engine.init (mapValues s.engines Engine.activate)
    banks := dropDefault Bank.init (mapValues s.banks Bank.activate) }

/-! ### Firmware (R424, R425) -/

/-- A load or remap is in progress. -/
def State.loading (s : State) : Bool :=
  decide (s.weights.status = 1) || decide (s.weights.status = 2) || s.weights.remapRunning

def State.firmwareBoundary (s : State) (quiet : Bool) : State :=
  if !quiet || s.loading || s.svc.restarting || decide (s.sec.state = .error) then s else
  match s.svc.revertReq with
  | some reason =>
    let s1 := { s with svc := { s.svc with activeB := !s.svc.activeB, trial := false, revertReq := none } }
    (s1.raise 0x8022 deviceHandle (openParam 0x8022 reason 0) 0xFFFF).history 1 2
      (if s.svc.activeB then s.svc.slotB.digest else s.svc.slotA.digest)
  | none =>
    if s.svc.switchReq then
      let s1 := { s with svc := { s.svc with activeB := !s.svc.activeB, trial := true, confirm := 0, switchReq := false } }
      (s1.event 0x8021 deviceHandle).history 1 0 (if s.svc.activeB then s.svc.slotA.digest else s.svc.slotB.digest)
    else s

/-! ### Programme at a boundary (R175, R208 to R210, R428, R558, R562) -/

/-- Every in-service group arrived at the frame barrier, or no programme is in progress (R208). -/
def State.barrierReached (s : State) : Bool :=
  s.frame.programmeFrame.isNone || (mget Ts.zero s.globals.ts s.frameTs.toNat).done

/-- The start that follows a stop is taken whatever the barrier says (R210). -/
def State.forcedStart (s : State) : Bool := decide (s.frame.notBefore ≠ 0) && decide (s.frame.notBefore ≤ s.frame.number)

/-- The first intact continuity copy, copy 0 before copy 1 (R175). -/
def State.continuityCopy (s : State) : Option Container :=
  match (s.prog.continuity.filter fun c => decide (c.copyIndex = 0)).find? s.intact with
  | some c => some c
  | none => s.prog.continuity.find? s.intact

/-- A part that failed its check at start-up is still to be calibrated (R116). -/
def State.calibrating (s : State) : Bool :=
  s.svc.startCal.any fun p => s.dieIn (engineDie p.1) && (s.engine p.1).tasks.contains p.2

/-- The power state with which the frame opens: transitions that complete at a frame start (R558, R562). -/
def State.takeTransition (s : State) : State :=
  let want := decide (s.accepted 0x200002 = 1)
  if s.calibrating && decide (s.power = .idle) && (s.svc.bootRun || decide (s.toward = some .run)) then s
  else if s.svc.bootRun then
    let s1 := { s with svc := { s.svc with bootRun := false, startCal := [] } }
    if want && decide (s.power = .idle) && s.runConditions && s.toward.isNone then s1.enter .run else s1
  else match s.toward with
    | some .run => if s.power = .idle then { s with svc := { s.svc with startCal := [] } }.enter .run else s
    | some .idle => if s.power = .run then s.goIdle else s
    | some .doze => if s.power = .run then s.goIdle.enterDoze else s
    | _ => s

/-- A lost die in Run without an intact continuity copy sends the device to Idle (R177). -/
def State.coverLoss (s : State) : State :=
  if s.prog.contDue ∧ s.power = .run ∧ s.continuityCopy.isNone then
    ({ s with prog := { s.prog with contDue := false } }.goIdle).event 0x8018 deviceHandle
  else s

/-- The switch that this programme start takes: to the continuity copy, the container of a flip set taken here, or the one
requested (R175, R159, R428). -/
def State.switchAt (s : State) (tied : Option Container) : State :=
  let old := s.prog.running
  if s.prog.contDue then
    let s1 := { s with prog := { s.prog with contDue := false } }
    match s.continuityCopy with
    | some c => if old = some c then s1 else s1.switchTo c none
    | none => s1
  else match tied with
    | some c =>
      let staged := if s.prog.staged = some c then none else s.prog.staged
      { s with prog := { s.prog with staged := staged } }.switchTo c old
    | none =>
      match s.prog.switchReq, s.prog.switchReady && decide (s.sec.state ≠ .error) with
      | some true, true =>
        match s.prog.staged with
        | some c => ({ s with prog := { s.prog with staged := none, status := 0 } }).switchTo c old
        | none => s
      | some false, true =>
        match s.prog.retained with
        | some c => s.switchTo c old
        | none => s
      | _, _ => s

/-- A programme start that counts as following a switch, or that follows a wake, finds what a switch leaves (R557, R566). -/
def State.prepareProgramme (s : State) : State :=
  match s.prog.running with
  | none => s
  | some c => if s.prog.firstStart then s.switchEffects c else if s.prog.wakeStart then s.renewTiles c else s

/-- Programme start. -/
def State.runProgramme (s : State) : State :=
  match s.prog.running with
  | none => s
  | some c => s.startProgramme c

/-- A frame without a programme start in Run (R208, R210). -/
def State.slipFrame (s : State) : State :=
  let s1 := ({ s with frame := { s.frame with slip := true } }).event 0x5022 deviceHandle
  if s1.overruns ∧ s1.frame.notBefore = 0 then
    ({ s1 with frame := { s1.frame with notBefore := s1.frame.number + 1 } }).event 0x5023 deviceHandle
  else s1

/-! ### Cyclic frames and pins (R471, R485, R596) -/

/-- The segments transmit at this frame start: always in Run and Idle, in Doze at whole multiples of the Doze period. -/
def State.transmits (s : State) (k : Nat) : Bool :=
  let t := s.frame.sysTime - s.frame.phase
  s.awake || (decide (s.power = .doze) && decide (t % (1000000 * s.setting (0x291007 + 0x1000 * k)) = 0))

def State.transmit (s : State) (k : Nat) : State :=
  let g := s.segment k
  if s.ecat.stopped ∨ g.state ≠ .op ∨ !s.transmits k then s else
  let image := if s.power = .run then g.carried else s.safeImage k
  s.setSegment k { g with awaiting := true, sent := image, sentCount := g.sentCount + 1 }

/-- FRAME_OUT of the frame that opens; 0 where it does not rise. -/
def State.frameOutWidth (s : State) : Nat :=
  if s.frame.started then 800
  else if s.awake || (List.range 3).any fun k => (s.segment k).eni.isSome && s.transmits k then 1600 else 0

/-- Sets and switches requested before the next deadline count for the boundary that follows it (R156, R428). -/
def State.openRequests (s : State) : State :=
  { s with
    weights := { s.weights with sets := mapValues s.weights.sets fun f => { f with armedBeforeDeadline := f.armed } }
    prog := { s.prog with switchReady := s.prog.switchReq.isSome } }

/-! ### FRAME_START -/

/-- Dies taken out of service leave their throttle groups (R38). -/
def State.dissolveLeft (s : State) : State := { s with dies := dropDefault Die.init (mapValues s.dies fun d => { d with leaving := false }) }

/-- Slot 0 of the groups that take the frame start. `edge` names the tiles whose entry word SECDED cannot correct, and what
the TDCs of free engines capture (R58, R193). -/
def State.openSlots (s : State) (gs : List (List DieId)) (edge : EdgeInput) : State :=
  forAll gs (fun s ds => s.enterSlot ds edge.free) (s.spoilWords (edge.badEntries.filter fun t => gs.any fun ds => ds.contains (tileDie t)))

/-- The order of R431 at a boundary: losses, flips, records, the programme, firmware. -/
def State.boundary (s : State) (edge : EdgeInput) : State :=
  let s1 := s.takeTransition.coverLoss.dissolveLeft
  let runs := decide (s1.power = .run)
  let starts := runs && (s1.barrierReached || s1.forcedStart)
  let js := s1.qualifying starts
  let tied := (js.filterMap fun j => s1.tiedContainer (s1.flipSet j)).head?
  let s2 := (js.foldl State.takeSet s1).applyDeepTable.activateRecords
  let s3 := if starts then s2.switchAt tied else s2
  let switched := decide (s3.prog.running ≠ s2.prog.running) || decide (s3.prog.switchReq ≠ s2.prog.switchReq)
  let s4 := s3.evalClasses
  let s5 := s4.firmwareBoundary (js.isEmpty && !switched)
  let s5a := if starts then s5.prepareProgramme else s5
  let gs := s5a.gridGroups starts
  let s6 := { s5a with frame := { s5a.frame with flipPoint := false } }.restartGrids gs
  (if starts then s6.runProgramme else if runs then s6.slipFrame else s6).openSlots gs edge

/-- The calliope opens a frame (R294). Entries of the frame that ends become readable first (R435). -/
def State.frameStart (s : State) (edge : EdgeInput) : State :=
    if s.power = .off ∨ s.ecat.stopped then s else
    let s1 := (s.publishLog.openFrame edge).takePeriod
    if s.power = .doze then
      let s2 := forAll (List.range 3) State.transmit s1
      { s2 with
        frame := { s2.frame with frameOut := s2.frameOutWidth }
        dict := { s2.dict with inForce := s2.dict.accepted, octetsInForce := s2.dict.octets } }.takeSnapshot
    else
    let s2 := s1.closeFrame.boundary edge
    let s3 := forAll (List.range 3) State.transmit s2
    ({ s3 with frame := { s3.frame with frameOut := s3.frameOutWidth } }).openRequests.takeSnapshot

/-! ### COMMIT_DEADLINE (R203 to R206) -/

/-- A fallback of an entry: the Boolean says that it first takes its safe value after holds (R205). -/
def State.fallback (s : State) (seg k : Nat) (e : OutEntry) : OutEntry × List Byte × Bool :=
  if s.setting (fallbackKey seg k 3) = 0 ∧ e.heldRun < s.setting (fallbackKey seg k 4) then
    ({ e with heldRun := e.heldRun + 1 }, sliceBytes e.lastGood 0 e.length, false)
  else
    ({ e with inSafe := true }, s.safeValue seg k e, !e.inSafe && decide (s.setting (fallbackKey seg k 3) = 0))

/-- Entry k of a segment at the deadline: its value from the image, or its fallback. -/
def State.commitEntry (s : State) (seg : Nat) (missed : Bool) (p : Nat × OutEntry) : OutEntry × List Byte × Bool × Bool :=
  let g := s.segment seg
  let e := p.2
  let bad := !missed && g.pendingPoison.any fun b => decide (e.offset ≤ b) && decide (b < e.offset + e.length)
  if missed || bad then
    let (e1, v, low) := s.fallback seg p.1 e
    ({ e1 with poisoned := bad }, v, low, true)
  else
    let v := sliceBytes g.pending e.offset e.length
    ({ e with heldRun := 0, inSafe := false, lastGood := v, poisoned := false }, v, false, false)

/-- A segment at the deadline: its pending image becomes the committed one as a whole, or the committed one stays as it was
(R203); frames carry it with the fallback values in place (R206). The Booleans say: an entry first took its safe value; an entry took a
fallback; an entry was poisoned. -/
def State.commitSegment (s : State) (missed : Bool) (p : State × Bool × Bool × Bool) (seg : Nat) :
    State × Bool × Bool × Bool :=
  let g := s.segment seg
  let rs := g.numbered.map (s.commitEntry seg missed)
  let whole := if missed then g.committed else g.pending
  let image := rs.foldl (fun im r => putBytes im r.1.offset r.2.1) whole
  let poison := if missed then g.committedPoison else g.pendingPoison
  (p.1.modSegment seg fun g =>
      { g with entries := rs.map fun r => r.1, committed := whole, committedPoison := poison, carried := image },
    p.2.1 || rs.any fun r => r.2.2.1, p.2.2.1 || rs.any fun r => r.2.2.2, p.2.2.2 || rs.any fun r => r.1.poisoned)

/-- The images of every segment at the deadline of a frame in Run. -/
def State.commitImages (s : State) (missed : Bool) : State :=
  let (s1, low, fell, bad) := (List.range 3).foldl (s.commitSegment missed) (s, false, false, false)
  let s2 := { s1 with frame := { s1.frame with
    miss := missed, run := if fell then s1.frame.run + 1 else 0
    pois := if missed then s1.frame.pois else bad
    seqCarried := if missed then s1.frame.seqCarried else s1.frame.number } }
  if low then s2.event 0x5024 deviceHandle else s2

/-- COMMIT_DEADLINE: the pending image becomes the committed image when the commit turnstile is complete; else the frame
missed (R203, R204). A level-3 alarm has discarded the pending outputs (R463). -/
def execCommitDeadline (s : State) : Host.Outcome State Fault Refusal :=
  .next (
    if s.frame.deadlinePassed then s else
    let s1 := { s with frame := { s.frame with deadlinePassed := true } }
    if s1.power ≠ .run then s1
    else if s1.frame.started && decide (s1.sec.state ≠ .zeroised) && (mget Ts.zero s1.globals.ts s1.commitTs.toNat).done then s1.commitImages false
    else (s1.commitImages true).event 0x5021 deviceHandle)

end Sys2Proof.Machine
end

