-- ==== Sys2Proof/Machine/Adjust.lean ====
section
/-!
DEFINITION. Neighbour adjustment (spec/05, R139, R140): the least-squares problem of a group over the calibration set, its
rounding to codes, the passes over single codes, and the relative error.
-/
namespace Sys2Proof.Machine

/-! ### Linear equations -/

def sumOf (xs : List Rat) : Rat := xs.foldl (· + ·) 0

/-- Row r without its part in column c, by a row p with a 1 there. -/
def clearColumn (c : Nat) (p r : List Rat) : List Rat :=
  let a := r.getD c 0
  (r.zip p).map fun q => q.1 - a * q.2

/-- Elimination of columns c, c + 1, …: rows with a pivot, by column, and the rows left. A column without a pivot is free. -/
def eliminate : Nat → Nat → List (Nat × List Rat) → List (List Rat) → List (Nat × List Rat)
  | 0, _, done, _ => done
  | k + 1, c, done, rest =>
    match rest.find? fun r => decide (r.getD c 0 ≠ 0) with
    | none => eliminate k (c + 1) done rest
    | some r =>
      let p := r.map fun x => x / r.getD c 0
      eliminate k (c + 1) ((done.map fun q => (q.1, clearColumn c p q.2)) ++ [(c, p)]) ((rest.erase r).map (clearColumn c p))

/-- A solution of n equations in n unknowns, each row with its right side last; an unknown that they leave open is `free`. -/
def solveEquations (n : Nat) (free : Nat → Rat) (rows : List (List Rat)) : List Rat :=
  let ps := eliminate n 0 [] rows
  let bound := ps.map Prod.fst
  (List.range n).map fun c =>
    match ps.find? fun q => decide (q.1 = c) with
    | none => free c
    | some (_, r) => r.getD n 0 - sumOf (((List.range n).filter fun f => !bound.contains f).map fun f => r.getD f 0 * free f)

/-! ### Weights of a group -/

/-- Rows of the group of a cell: 32, 64 or 128 (R87). -/
def groupRows (gs row : Nat) : List Nat :=
  let n := if gs = 0 then 32 else if gs = 1 then 64 else 128
  (List.range n).map fun k => row / n * n + k

/-- Codes of a level set, without the escape code. -/
def codesOf (set : LevelSet) : List Nat :=
  match set with
  | .bell => List.range 15
  | .binary => [0, 1]
  | _ => List.range 16

/-- The code of the level nearest to a weight in 1/1000 LSB; of two the lower. -/
def nearestCode (set : LevelSet) (w : Rat) : Nat :=
  ((codesOf set).foldl (fun (m : Nat × Rat) c =>
    let d := absRat ((levelOf set c : Rat) - w)
    if d < m.2 then (c, d) else m) (0, absRat ((levelOf set 0 : Rat) - w))).1

/-- A cell of the group: its row, the weight that the block intends, the weight that it has, both in 1/1000 LSB at f = 1, and the
code that may change. -/
structure GroupCell where
  row : Nat
  want : Rat
  has : Rat
  code : Option Nat
  deriving DecidableEq, Repr

/-- Error of a cell's weight. -/
def GroupCell.error (set : LevelSet) (x : GroupCell) : Rat :=
  match x.code with
  | some c => (levelOf set c : Rat) - x.want
  | none => x.has - x.want

/-- Error of the group's dot product for one input vector by physical row. -/
def groupError (set : LevelSet) (cells : List GroupCell) (v : List Int) : Rat :=
  sumOf (cells.map fun x => x.error set * ((v.getD x.row 0 : Int) : Rat))

/-- Squared error over the calibration set, and the squared intended output. -/
def squaredError (set : LevelSet) (cells : List GroupCell) (vs : List (List Int)) : Rat :=
  sumOf (vs.map fun v => groupError set cells v * groupError set cells v)
def squaredOutput (cells : List GroupCell) (vs : List (List Int)) : Rat :=
  sumOf (vs.map fun v =>
    let y := sumOf (cells.map fun x => x.want * ((v.getD x.row 0 : Int) : Rat))
    y * y)

/-- Normal equations of the changeable cells: the weight changes d that minimise the squared error. -/
def normalRows (set : LevelSet) (cells : List GroupCell) (vs : List (List Int)) : List (List Rat) :=
  let open' := cells.filter fun x => x.code.isSome
  let fixed := cells.filter fun x => x.code.isNone
  open'.map fun a =>
    (open'.map fun b => sumOf (vs.map fun v => ((v.getD a.row 0 * v.getD b.row 0 : Int) : Rat))) ++
      [-sumOf (vs.map fun v => ((v.getD a.row 0 : Int) : Rat) * groupError set fixed v)]

/-- Steps 2 and 3: the weights of the least-squares solution, rounded to codes. -/
def roundedCells (set : LevelSet) (free : Nat → Rat) (cells : List GroupCell) (vs : List (List Int)) : List GroupCell :=
  let open' := cells.filter fun x => x.code.isSome
  let ds := solveEquations open'.length free (normalRows set cells vs)
  let codes := (open'.zip ds).map fun q => (q.1.row, nearestCode set (q.1.want + q.2))
  cells.map fun x => match codes.find? fun q => decide (q.1 = x.row), x.code with
    | some q, some _ => { x with code := some q.2 }
    | _, _ => x

/-- The cell at position i moves one code up, else one code down, where that lowers the error (DESIGN CHOICE, log 104: R139
names no direction to try first). -/
def moveCode (set : LevelSet) (vs : List (List Int)) (cells : List GroupCell) (i : Nat) : List GroupCell :=
  match cells[i]? with
  | none => cells
  | some x => match x.code with
    | none => cells
    | some c =>
      let e := squaredError set cells vs
      let up := cells.set i { x with code := some (c + 1) }
      let down := cells.set i { x with code := some (c - 1) }
      if (codesOf set).contains (c + 1) && decide (squaredError set up vs < e) then up
      else if decide (0 < c) && decide (squaredError set down vs < e) then down
      else cells

/-- Passes in order of row until one changes nothing. Every change lowers the error, so no more passes are needed than there are
groups of codes; the count bounds them. -/
def movePasses (set : LevelSet) (vs : List (List Int)) : Nat → List GroupCell → List GroupCell
  | 0, cells => cells
  | n + 1, cells =>
    let next := (List.range cells.length).foldl (moveCode set vs) cells
    if next = cells then cells else movePasses set vs n next

/-- The relative error exceeds 1% (R140). -/
def errorLarge (set : LevelSet) (cells : List GroupCell) (vs : List (List Int)) : Bool :=
  decide (squaredOutput cells vs < 10000 * squaredError set cells vs)

end Sys2Proof.Machine
end

