-- ==== Sys2Proof/Machine/Rewrite.lean ====
section
/-!
DEFINITION. The rewrite path (spec/06): write lanes, the cloak of a written block, absorption of stuck cells (spec/05), and
BANK_WRITE_COMPLETE.
-/
namespace Sys2Proof.Machine

/-! ### Stuck levels (R130, R139) -/

/-- The stuck excess lies within 0.25 level of the level of the code (R139). `s` is in 1/256 LSB. -/
def stuckMatches (set : LevelSet) (code : Nat) (s : Int) : Bool :=
  decide (4 * (1000 * s - 256 * levelOf set code).natAbs ≤ 256 * (levelStep set code).natAbs)

/-- VALUE of a stuck entry (R130): v is the level wanted in 1/1000 LSB, s the stuck excess in 1/256 LSB. -/
def stuckValue (set : LevelSet) (code : Nat) (s : Int) : Int :=
  match set with
  | .binary => if code = 1 then 32 else -32
  | _ => clampInt (-128) 127 (rdiv (2 * (256 * levelOf set code - 1000 * s)) 256000)

/-! ### Safety-net lists -/

/-- An entry of a list before it is packed: physical row and string (R129). -/
structure NetCell where
  kind : Nat
  row : Nat
  string : Nat
  neg : Bool
  value : Int
  deriving DecidableEq, Repr

def NetCell.word (e : NetCell) : W32 :=
  BitVec.ofNat 32 (e.kind * 2 ^ 30 + e.row * 2 ^ 23 + e.string * 2 ^ 15 + (if e.neg then 2 ^ 14 else 0) + uint 8 e.value)

def NetCell.before (a b : NetCell) : Bool :=
  decide (a.string < b.string) || (decide (a.string = b.string) && decide (a.row < b.row))

/-- Entries stay sorted by STRING, then ROW (R130). -/
def insertNet (e : NetCell) : List NetCell → List NetCell
  | [] => [e]
  | x :: xs => if e.before x then e :: x :: xs else x :: insertNet e xs

/-- Lists that a tile's pool holds: base and count. -/
def State.poolLists (s : State) (t : TileId) (but : Nat) : List (Nat × Nat) :=
  (s.banks.filter fun p => decide (p.1 / 32768 = t.val)).flatMap fun p =>
    (if p.1 = but then [] else [(p.2.netBase, p.2.netCount)]) ++ p.2.nextNet.toList

/-- The lowest free run of n pool entries, if there is one (R134). The list that bank `but` has itself does not count when it
is about to be replaced. -/
def State.poolFree (s : State) (t : TileId) (but n : Nat) : Option Nat :=
  let used := (s.poolLists t but).filter fun p => decide (p.2 ≠ 0)
  let fits : Nat → Bool := fun b => decide (b + n ≤ 131072) && used.all fun p => decide (b + n ≤ p.1) || decide (p.1 + p.2 ≤ b)
  let cands := (0 :: used.map fun p => p.1 + p.2).filter fits
  match cands with
  | [] => none
  | c :: cs => some (cs.foldl min c)

/-- Write a list into the pool of a tile. -/
def Tile.putList (x : Tile) (base : Nat) (es : List NetCell) : Tile :=
  { x with
    pool := ((List.range es.length).zip es).foldl (fun m p => mset 0 m (base + p.1) p.2.word) x.pool
    badPool := x.badPool.filter fun k => decide (k < base) || decide (base + es.length ≤ k) }

/-- The list of a bank, as its pool entries read. -/
def State.listOf (s : State) (b : Nat) : List NetCell :=
  let k := s.bank b
  let x := s.tile (engineTile (bankEngine b))
  (List.range k.netCount).map fun i =>
    let w := NetWord.parse (mget 0 x.pool (k.netBase + i))
    ⟨w.kind, w.row, w.string, w.neg, w.value⟩

/-! ### The cloak at write time (R172) -/

/-- Index of a value in a permutation. -/
def invOf (n : Nat) (f : Nat → Nat) (v : Nat) : Nat := ((List.range n).find? fun i => decide (f i = v)).getD 0

/-- A code after the sign vector. -/
def cloakCode (set : LevelSet) (neg : Bool) (c : Nat) : Nat :=
  if !neg then c
  else match set with
    | .bell => if c = 15 then 15 else 14 - c
    | .binary => 1 - c
    | _ => c

/-- The physical contents of a block in a bank of engine e. -/
def State.cloaked (s : State) (e : EngineId) (r : BlockRecord) : Contents :=
  let strings := (List.range 256).map fun q => invOf 256 (s.physString (engineDie e) r.set) q
  let rows := (List.range 128).map fun q => invOf 128 (s.physRow e r.block) q
  { set := r.set, gs := r.gs, engine := e.val, block := r.block
    codes := strings.map fun j => rows.map fun i => cloakCode r.set (s.signBit e r.block i) ((r.codes.getD j []).getD i 0)
    tempo := strings.map fun j => r.tempo.getD j []
    exponent := strings.map fun j => r.exponent.getD j 0
    fine := strings.map fun j => r.fine.getD j 0 }

/-- The outlier list of a block, mapped and sorted. -/
def State.cloakedList (s : State) (e : EngineId) (r : BlockRecord) : List NetCell :=
  r.list.foldl (fun es n => insertNet
    ⟨0, s.physRow e r.block n.row.val, s.physString (engineDie e) r.set n.string.val, s.signBit e r.block n.row.val, n.value⟩ es) []

/-! ### The stuck map (R135 to R137) -/

def StuckEntry.before (a b : StuckEntry) : Bool :=
  decide (a.bank < b.bank) || (decide (a.bank = b.bank) && (decide (a.row.val < b.row.val) ||
    (decide (a.row = b.row) && decide (a.string.val < b.string.val))))

def insertStuck (e : StuckEntry) : List StuckEntry → List StuckEntry
  | [] => [e]
  | x :: xs => if e.before x then e :: x :: xs else x :: insertStuck e xs

def StuckEntry.sameCell (a b : StuckEntry) : Bool := decide (a.bank = b.bank) && decide (a.row = b.row) && decide (a.string = b.string)

/-- A confirmed stuck cell enters the map of its die, or finds it full (R137). -/
def State.recordStuck (s : State) (b : Nat) (c : FailedCell) (found : Nat) : State :=
  let d := bankDie b
  let x := s.die d
  let e : StuckEntry := ⟨b, c.row, c.string, c.excess, found, 4, s.svc.minutes⟩
  let s1 := s.event 0x2033 (bankHandle b)
  let rest := x.stuck.filter fun y => !y.sameCell e
  if 65536 ≤ rest.length then (s1.modDie d fun y => { y with stuckFull := true }).event 0x2037 (dieHandle d)
  else s1.modDie d fun y => { y with stuck := insertStuck e rest }

/-- Map state of a cell. -/
def State.setStuckState (s : State) (e : StuckEntry) (st : Nat) : State :=
  s.modDie (bankDie e.bank) fun x => { x with stuck := x.stuck.map fun y => if y.sameCell e then { y with state := st } else y }

/-- Stuck cells of a bank that the map holds, in order of row and string. -/
def State.stuckOf (s : State) (b : Nat) : List StuckEntry := (s.die (bankDie b)).stuck.filter fun e => decide (e.bank = b)

/-- Every stuck cell of a bank: those of the map, and those of the present write that a full map did not take (R137). -/
def State.stuckCells (s : State) (b : Nat) (failed : List FailedCell) : List StuckEntry :=
  failed.foldl (fun es c =>
    let e : StuckEntry := ⟨b, c.row, c.string, c.excess, 2, 4, s.svc.minutes⟩
    if es.any fun y => y.sameCell e then es else insertStuck e es) (s.stuckOf b)

/-! ### Absorption at write time (R139, R140) -/

/-- What absorption has decided so far: the list, whether a cell found no room, and the states of the cells. -/
structure Absorbed where
  list : List NetCell
  full : Bool
  states : List (StuckEntry × Nat)
  deriving DecidableEq, Repr

def NetCell.atCell (n : NetCell) (row string : Nat) : Bool := decide (n.row = row) && decide (n.string = string)

/-- The value that an escape entry stands for, with its sign. -/
def NetCell.signed (n : NetCell) : Int := if n.neg then -n.value else n.value

/-- One stuck cell. An escape entry of the same cell becomes the stuck entry of the value that it carries (R130, DEDUCED, log 34: a
list holds one entry per cell). `room` is the number of entries that list and pool can take. -/
def Absorbed.cell (a : Absorbed) (set : LevelSet) (code room : Nat) (e : StuckEntry) : Absorbed :=
  let here := a.list.find? fun n => n.atCell e.row.val e.string.val
  if stuckMatches set code e.excess then { a with states := a.states ++ [(e, 3)] } else
  match here with
  | some n =>
    let r := clampInt (-128) 127 (rdiv (128 * n.signed - e.excess) 128)
    { a with
      list := a.list.map fun m => if m = n then { m with kind := 1, neg := false, value := r } else m
      states := a.states ++ [(e, 1)] }
  | none =>
    if a.list.length < room then
      { a with
        list := insertNet ⟨1, e.row.val, e.string.val, false, stuckValue set code e.excess⟩ a.list
        states := a.states ++ [(e, 1)] }
    else { a with full := true, states := a.states ++ [(e, 2)] }

/-- A cell of the group of a stuck cell, as neighbour adjustment sees it (R139): a stuck cell weighs what its excess and its
entry add up to, an escape-coded cell its entry; of the others the code may change. -/
def groupCell (k : Contents) (list : List NetCell) (stuck : List StuckEntry) (escapes : List NetCell) (j i : Nat) : GroupCell :=
  let entry : Rat := match list.find? fun n => n.atCell i j with
    | some n => 500 * (n.signed : Rat)
    | none => 0
  let intended : Rat := match escapes.find? fun n => n.atCell i j with
    | some n => 500 * (n.signed : Rat)
    | none => (levelOf k.set (k.code i j) : Rat)
  match stuck.find? fun y => decide (y.row.val = i) && decide (y.string.val = j) with
  | some y => ⟨i, intended, (1000 * y.excess : Rat) / 256 + entry, none⟩
  | none =>
    if k.set = .bell ∧ k.code i j = 15 then ⟨i, intended, entry, none⟩
    else ⟨i, intended, intended, some (k.code i j)⟩

/-- The vectors of a record's calibration set by physical row, after the cloak. -/
def State.calVectors (s : State) (e : EngineId) (r : BlockRecord) : List (List Int) :=
  r.vectors.map fun v => s.cloakInputs e r.block r.set false v

/-- Neighbour adjustment for one remaining stuck cell (R139, R140): the codes of its string, and whether the relative error exceeds 1%.
Where the set leaves a weight open, the solution takes a free value. Without a calibration set nothing changes. -/
def State.adjustGroup (s : State) (k : Contents) (list escapes : List NetCell) (stuck : List StuckEntry) (vs : List (List Int))
    (e : StuckEntry) : List Nat × Bool :=
  let j := e.string.val
  let cells := (groupRows k.gs e.row.val).map (groupCell k list stuck escapes j)
  let rounded := roundedCells k.set (fun f => (s.freeElem (128 * j + f) : Rat)) cells vs
  let final := if vs.isEmpty then cells else movePasses k.set vs (16 ^ 128) rounded
  let codes := final.foldl (fun cs x => match x.code with
    | some c => cs.set x.row c
    | none => cs) (k.codes.getD j [])
  (codes, errorLarge k.set final vs)

/-- The codes and the error mark after every remaining cell. The intended weights are those of the image throughout. -/
def State.adjustAll (s : State) (k : Contents) (list escapes : List NetCell) (stuck left : List StuckEntry) (vs : List (List Int)) :
    Contents × Bool :=
  left.foldl (fun (p : Contents × Bool) e =>
    let (codes, bad) := s.adjustGroup k list escapes stuck vs e
    let column := (List.range 128).map fun i =>
      if (groupRows k.gs e.row.val).contains i then codes.getD i 0 else p.1.code i e.string.val
    ({ p.1 with codes := p.1.codes.set e.string.val column }, p.2 || bad)) (k, false)

/-- What a write of a block leaves in its bank: contents, list and stuck states. Of outliers that find no room in the pool the
first ones are kept (DESIGN CHOICE, log 105: R134 speaks of stuck cells only). -/
def State.fillBank (s : State) (b : Nat) (r : BlockRecord) (failed : List FailedCell) : State :=
  let e := bankEngine b
  let t := engineTile e
  let c := s.cloaked e r
  let room := ((List.range 257).reverse.find? fun n => (s.poolFree t b n).isSome).getD 0
  let escapes := s.cloakedList e r
  let stuck := s.stuckCells b failed
  let code : StuckEntry → Nat := fun y => c.code y.row.val y.string.val
  let a : Absorbed := stuck.foldl (fun (a : Absorbed) y => a.cell c.set (code y) room y) ⟨escapes.take room, false, []⟩
  let left := (a.states.filter fun p => decide (p.2 = 2)).map Prod.fst
  let (c1, bad) := s.adjustAll c a.list escapes stuck left (s.calVectors e r)
  let at' := (s.poolFree t b a.list.length).getD 0
  let s1 := s.modBank b fun k => { k with
    contents := c1, netBase := at', netCount := a.list.length, nextNet := none, adjusted := bad }
  let s2 := s1.modTile t fun x => x.putList at' a.list
  let s3 := forAll a.states (fun s p => s.setStuckState p.1 p.2) s2
  let s4 := if left.isEmpty then s3 else s3.takeFree
  if a.full || bad || decide (room < escapes.length) then s4.event 0x2035 (bankHandle b) else s4

/-! ### Write lanes (R149, R150) -/

/-- A rewrite may target the bank (R149): it belongs to no flip set, and no write waits for it. -/
def State.bankQualifies (s : State) (remap : Bool) (b : Nat) : Bool :=
  let k := s.bank b
  (decide (k.state = .free) || decide (k.state = .retained)) && (remap || !k.reserved) && !k.worn && k.fset.isNone &&
    !(s.weights.waitingWrites.any fun w => decide (w.1 = b))

/-- The bank that a block is written to: the other bank of its array when the block is bound and that bank qualifies, else the
qualifying bank with the lowest number (R168). -/
def State.chooseBank (s : State) (taken : List Nat) (e : EngineId) (block : Nat) : Option Nat :=
  let ok : Nat → Bool := fun b => s.bankQualifies false b && !taken.contains b
  let other := match s.boundBank e block with
    | some b => if ok (b / 2 * 2 + (1 - b % 2)) then some (b / 2 * 2 + (1 - b % 2)) else none
    | none => none
  match other with
  | some b => some b
  | none => ((List.range 2048).map fun k => e.val * 2048 + k).find? ok

/-- A write lane begins: at most four per tile, in four different engines. -/
def State.laneFree (s : State) (b : Nat) : Bool :=
  let busy := s.banks.filter fun p => p.2.lane && decide (p.1 / 32768 = b / 32768)
  decide (busy.length < 4) && !(busy.any fun p => decide (p.1 / 2048 = b / 2048))

/-- A lane begins the write of a bank that is free or retained, whose contents it discards (R149, R152). -/
def State.startLane (s : State) (b : Nat) : State :=
  let k := s.bank b
  if k.lane || !s.laneFree b || !s.dieIn (bankDie b) || !(decide (k.state = .free) || decide (k.state = .retained)) then s
  else s.modBank b fun k => { k with
    state := .writing, lane := true, laneFrom := (s.die (bankDie b)).clock, laneSlots := 0, source := 0 }

/-- Waiting writes take the free lanes in order. -/
def State.startLanes (s : State) : State :=
  if s.svc.restarting || !s.awake || decide (s.sec.state = .error) then s else forAll (s.weights.waitingWrites.map Prod.fst) State.startLane s

/-- Writes of a flip set join the waiting ones; each bank belongs to the set from now on. -/
def State.queueWrites (s : State) (j : Nat) (ws : List (Nat × BlockRecord)) : State :=
  let s1 := forAll ws (fun s w => s.modBank w.1 fun k => { k with fset := some (Fin.ofNat 4 j) }) s
  ({ s1 with weights := { s1.weights with waitingWrites := s1.weights.waitingWrites ++ ws } }).startLanes

/-- The lowest flip set that is not used. -/
def State.freeSet (s : State) : Option Nat := (List.range 4).find? fun j => !(s.flipSet j).used

/-- Blocks of flip sets not yet taken or cancelled. -/
def State.setBlocks (s : State) : List (Handle × Nat) :=
  (List.range 4).flatMap fun j =>
    let f := s.flipSet j
    if f.used && !f.committing then f.bindings.map fun b => (engineHandle b.1, b.2.1) else []

/-! ### Resident records (R169, R170) -/

/-- A resident record as it is stored: the fields of the block record from offset 0 to the end of the fine codes, then the list
(R163, R164, R169). -/
def residentBytes (r : BlockRecord) : List Byte :=
  let cells := r.codes.flatMap fun c => c
  let codes := if r.set = .binary then leBytes 4096 (packNat 1 cells) else leBytes 16384 (packNat 4 cells)
  leBytes 4 r.engine.toNat ++ leBytes 2 r.block ++ leBytes 1 (setCode r.set) ++ leBytes 1 r.gs ++ leBytes 2 r.list.length ++
    leBytes 2 0 ++ leBytes 4 (r.calset.getD 0xFFFFFFFF) ++ codes ++ (r.tempo.flatMap fun t => t.map fun v => BitVec.ofNat 8 v) ++
    r.exponent.map (BitVec.ofNat 8) ++ r.fine.map (BitVec.ofNat 8) ++
    r.list.flatMap fun n => leBytes 4 (NetCell.word ⟨n.kind, n.row.val, n.string.val, n.neg, n.value⟩).toNat

/-- The digest field of the manifest: first 16 bytes of the SHA-384 of the resident record (spec/06, *Manifest entry*). -/
def residentDigest (r : BlockRecord) : BitVec 128 := BitVec.ofNat 128 (Config.sha384 (residentBytes r)).toNat

/-- Some bank holds a block written from the record (R170). -/
def State.recordUsed (s : State) (n : Nat) : Bool :=
  s.banks.any fun p => decide (p.2.source = n + 1) && decide (p.2.state ≠ .free)

/-- The record of the block that a bank is written with is kept, under a number of its own; the bank names it. Records that no
bank holds leave (R169, R170). -/
def State.keepRecord (s : State) (b : Nat) (r : BlockRecord) : State :=
  let e := bankEngine b
  match s.weights.residents.find? fun x => decide (x.engine = e.val) && decide (x.record = r) with
  | some x => s.modBank b fun k => { k with source := x.serial + 1 }
  | none =>
    let n := s.weights.nextSerial
    let s1 := s.modBank b fun k => { k with source := n + 1 }
    { s1 with weights := { s1.weights with
      residents := (s1.weights.residents.filter fun x => s1.recordUsed x.serial) ++ [⟨e.val, r, n⟩], nextSerial := n + 1 } }

/-- The record that a bank was written from. -/
def State.sourceOf (s : State) (b : Nat) : Option BlockRecord :=
  (s.weights.residents.find? fun x => decide (x.serial + 1 = (s.bank b).source)).map fun x => x.record

/-- The record of a block: that of its live bank. -/
def State.residentOf (s : State) (e : EngineId) (block : Nat) : Option BlockRecord :=
  (s.boundBank e block).bind s.sourceOf

/-- DEVBASE of a resident copy: a multiple of 1 GiB (R532). -/
def deviceBase (records : Nat) : Nat := (64 - max 1 (min 64 (Config.residentGiB records))) * 0x40000000

/-- The device region after an image load, a restore or an enrolment. -/
def State.moveDeviceBase (s : State) : State :=
  { s with pcie := { s.pcie with
    devbase := if s.weights.residentPresent then deviceBase s.weights.residents.length else 0x1000000000 } }

/-- Every bound block has its record. -/
def State.residentComplete (s : State) : Bool :=
  s.allBindings.all fun b => (s.sourceOf b.2.2).isSome

/-! ### BANK_WRITE_COMPLETE -/

/-- The manifest entry of a written bank (R150, R154). It stays in writing until it is calibrated. -/
def State.writtenBank (s : State) (b : Nat) (r : BlockRecord) (image : BitVec 384) : State :=
  let k := s.bank b
  let writes := k.writes + 1
  let s1 := s.setBank b { k with
    lane := false, block := r.block, writes := writes, worn := k.worn || decide (10000 ≤ writes)
    image := BitVec.ofNat 64 image.toNat, digest := residentDigest r, nextPart := none, driftB := false
    writtenMinute := s.svc.minutes, refreshQueued := false }
  if writes = 9000 then s1.event 0x8014 (bankHandle b) else s1

/-- The last bank of a set is ready: the set is armed, or held; the end of a load is reported (R168, R169). -/
def State.finishSet (s : State) (j : Nat) : State :=
  let f := s.flipSet j
  if f.armed || !s.setReady f then s else
  if s.weights.loadSet = some (Fin.ofNat 4 j) then
    let s1 := { s with weights := { s.weights with residentPresent := s.weights.residentPresent || s.residentComplete } }
    let s2 := s1.moveDeviceBase.event 0x8011 deviceHandle
    if s2.weights.holdRequested then
      { s2.setFlip j { f with held := true } with weights := { s2.weights with status := 3 } }
    else
      let s3 := s2.armSet j
      { s3 with weights := { s3.weights with status := 4 } }
  else s.armSet j

/-- Digest that the manifest image field takes: that of the load, zero for consolidation, the old bank's otherwise. -/
def State.imageOf (s : State) (j b : Nat) (r : BlockRecord) : BitVec 384 :=
  let f := s.flipSet j
  if f.consolidation then 0
  else if f.image ≠ 0 then f.image
  else match s.boundBank (bankEngine b) r.block with
    | some old => BitVec.ofNat 384 (s.bank old).image.toNat
    | none => s.weights.liveDigest

/-- A write has had its nominal length and its write slots (R152): 244,000 slots of 4 cc, and 183,000 write slots. -/
def State.writeEnds (s : State) (b : Nat) : Bool :=
  let k := s.bank b
  k.lane && decide (183000 ≤ k.laneSlots) && decide (k.laneFrom + 976000 ≤ (s.die (bankDie b)).clock)

/-- BANK_WRITE_COMPLETE: the lane of the bank ends its write, and the bank waits for its calibration (R124, R150, R152).
`failed` lists the cells that failed verify, with the excess that each shows. -/
def execBankWriteComplete (bank : Fin 8388608) (failed : List FailedCell) (s : State) : Host.Outcome State Fault Refusal :=
  .next (
    let b := bank.val
    match s.weights.waitingWrites.find? fun w => decide (w.1 = b), (s.bank b).fset with
    | some w, some j =>
      if !s.writeEnds b || !s.awake then s else
      let s1 := forAll failed (fun s c => s.recordStuck b c 2) s
      let s2 := ((s1.fillBank b w.2 failed).writtenBank b w.2 (s1.imageOf j.val b w.2)).keepRecord b w.2
      let load := decide (s2.weights.loadSet = some j)
      let s3 := { s2 with weights := { s2.weights with
        waitingWrites := s2.weights.waitingWrites.erase w
        blocksWritten := if load then s2.weights.blocksWritten + 1 else s2.weights.blocksWritten } }
      (s3.modEngine (bankEngine b) fun g => g.addTask (.fresh b)).startLanes
    | _, _ => s)

end Sys2Proof.Machine
end

