-- ==== Sys2Proof/Machine/Loss.lean ====
section
/-!
DEFINITION. The loss of a weight die (spec/06, spec/10, spec/15): mark-out, lowered turnstiles, discarded programmes, plan
selection and remap.
-/
namespace Sys2Proof.Machine

/-! ### Turnstiles of a lost die (R297) -/

/-- Tiles of a die whose add to turnstile n has neither reached the hub nor left for it. -/
def State.notArrived (s : State) (d : DieId) (n : Nat) : Nat :=
  ((dieTiles d).filter fun t => !s.globals.arrived.contains (n, t) &&
    !(s.fabric.globals.any fun u => decide (u.number.toNat = n) && decide (u.src = t))).length

/-- A turnstile with its TARGET lowered by k: POIS is set, and it completes when COUNT meets it. -/
def Ts.lower (x : Ts) (k : Nat) : Ts :=
  if x.target = 0 then { x with pois := true }
  else
    let t := x.target.toNat - k
    ⟨true, x.done || decide (t = 0) || decide (t ≤ x.count.toNat), BitVec.ofNat 14 (max 1 t), x.count⟩

def State.lowerTarget (s : State) (d : DieId) (n : Byte) : State :=
  let old := mget Ts.zero s.globals.ts n.toNat
  let new := old.lower (s.notArrived d n.toNat)
  let s1 := { s with globals := { s.globals with ts := mset Ts.zero s.globals.ts n.toNat new } }.broadcast n.toNat new
  if new.done && !old.done then s1.globalEdge n.toNat else s1

/-- The rest of the frame after a loss: targets, waits, frame poison. -/
def State.loseInFrame (s : State) (d : DieId) : State :=
  if s.frame.programmeFrame.isNone then s
  else
    let s1 := ((s.lowerTarget d s.frameTs).lowerTarget d s.commitTs).lowerTarget d s.flipTs
    let s2 := forAll s1.tilesIn (fun s t => s.modTile t fun x => { x with framePoison := true }) s1
    { s2 with frame := { s2.frame with dieLost := true } }

/-! ### Plans and remap (R174 to R177) -/

/-- Dies out of service: bit k for Wk. -/
def State.outWord (s : State) : Nat := 65535 - s.diesWord

/-- Writes of a plan: target bank, and the record with the target's engine and block. -/
def State.planWrites (s : State) (p : Plan) : List (Nat × BlockRecord) :=
  p.entries.filterMap fun x =>
    match Handle.engine? x.srcEngine, Handle.bank? x.target with
    | some e, some b =>
      match s.residentOf e x.srcBlock with
      | some r => some (b, { r with engine := engineHandle (bankEngine b), block := x.targetBlock })
      | none => none
    | _, _ => none

/-- A plan can be run: every target bank qualifies, every source has its record, and no flip set holds a target block (R149, R158,
R170; DESIGN CHOICE, log 106: a plan that can not counts as no matching plan). -/
def State.planRuns (s : State) (p : Plan) : Bool :=
  decide ((s.planWrites p).length = p.entries.length) && (s.planWrites p).all fun w =>
    s.bankQualifies true w.1 && !s.setBlocks.contains (engineHandle (bankEngine w.1), w.2.block)

/-- The plan of the current set for a lost die, when the set matches the dies out before it and the resident copy is
present. -/
def State.planFor (s : State) (d : DieId) : Option Plan :=
  if s.weights.plansStale || !s.weights.residentPresent then none
  else s.weights.plans.find? fun p =>
    decide (p.lostDie = dieHandle d) && decide (p.outMask.toNat = s.outWord - 2 ^ d.val) &&
      decide (p.modelDigest = s.weights.liveDigest) && s.planRuns p

/-- Selection of a plan: every target block is written, and the banks form one flip set tied to the remapped programme. -/
def State.startRemap (s : State) (d : DieId) (p : Plan) : State :=
  match s.freeSet with
  | none => s.event 0x8018 deviceHandle
  | some j =>
    let ws := s.planWrites p
    let f : FlipSet := { FlipSet.none with
      used := true, container := some p.programme, remapOf := some d
      bindings := ws.map fun w => (bankEngine w.1, w.2.block, w.1, true) }
    let s1 := (s.event 0x8016 (dieHandle d)).setFlip j f
    let s2 := { s1 with weights := { s1.weights with selected := some d, remapRunning := true } }
    (s2.queueWrites j ws).finishSet j

/-- Automatic selection; without a matching plan the continuity programme runs alone. -/
def State.selectAfterLoss (s : State) (d : DieId) : State :=
  match s.planFor d with
  | none => s.event 0x8018 deviceHandle
  | some p => if s.setting 0x230007 = 1 then s else s.startRemap d p

/-! ### Mark-out (R430, R432, R433) -/

/-- The remapped programme of the selected plan, or of a plan for d, is exempt from R430. -/
def State.planProgramme (s : State) (d : DieId) (c : Container) : Bool :=
  s.weights.plans.any fun p => decide (p.programme = c.digest) &&
    (decide (p.lostDie = dieHandle d) || decide (s.weights.selected.map dieHandle = some p.lostDie))

/-- A staged or retained programme that reaches the die is discarded. -/
def State.discardReaching (s : State) (d : DieId) : State :=
  let hits : Option Container → Bool := fun o => match o with
    | some c => (s.containerDies c).contains d && !s.planProgramme d c
    | none => false
  let s1 := if hits s.prog.staged then
      ({ s with prog := { s.prog with
        staged := none, status := 0
        switchReq := if s.prog.switchReq = some true then none else s.prog.switchReq } }).raise 0x8026 deviceHandle (eventParam 2 0) 0xFFFF
    else s
  if hits s.prog.retained then
    ({ s1 with prog := { s1.prog with
      retained := none
      switchReq := if s1.prog.switchReq = some false then none else s1.prog.switchReq } }).raise 0x8026 deviceHandle (eventParam 2 0) 0xFFFF
  else s1

/-- Flip sets not yet taken that hold a bank of the die are cancelled (R160); waiting writes take the lanes this frees. -/
def State.cancelTouching (s : State) (d : DieId) : State :=
  (forAll (List.range 4) (fun s j => if (s.flipSet j).dies.contains d then s.cancelSet j else s) s).startLanes

/-- The ringmaster marks die d out. -/
def State.markOut (s : State) (d : DieId) (cause : Nat) : State :=
  if (s.die d).out then s
  else if s.svc.restarting then { s with svc := { s.svc with waitMarkOut := s.svc.waitMarkOut ++ [(d, cause)] } }
  else
    let s0 := s.loseInFrame d
    let s1 := s0.modDie d fun x => { x with
      out := true, leaving := true, outMark := true, outCause := cause, outMinute := s0.svc.minutes, outAt := s0.now, remapped := false, remapMinute := 0, remapMs := 0 }
    let s2 := s1.raise 0x8015 (dieHandle d) (eventParam cause 0) 0xFFFF
    let s3 := (s2.cancelTouching d).discardReaching d
    let s4 := { s3 with prog := { s3.prog with contDue := s3.prog.contDue || decide (s3.power = PState.run) } }
    s4.selectAfterLoss d

/-- DIE_MARK_OUT: one of the causes of R432. -/
def execDieMarkOut (d : DieId) (cause : Nat) (s : State) : Host.Outcome State Fault Refusal :=
  .next (if s.power = .off ∨ cause = 0 ∨ 6 < cause then s else s.markOut d cause)

end Sys2Proof.Machine
end

