-- ==== Sys2Proof/Machine/Goine.lean ====
section
/-!
DEFINITION. Goine (spec/19): the Reed-Solomon code of a flit, delivery of late and uncorrectable flits, and modules that go down
and retrain.
-/
namespace Sys2Proof.Machine

/-! ### RS(40, 36) over GF(2^8) (R545) -/

/-- Product of two bytes as polynomials over GF(2). -/
def clmul (a b : Nat) : Nat := (List.range 8).foldl (fun acc k => if b / 2 ^ k % 2 = 1 then acc ^^^ (a * 2 ^ k) else acc) 0

/-- Remainder by x^8 + x^4 + x^3 + x^2 + 1. -/
def gfReduce (x : Nat) : Nat :=
  (List.range 7).foldl (fun acc k => if acc / 2 ^ (14 - k) % 2 = 1 then acc ^^^ (0x11D * 2 ^ (6 - k)) else acc) x

def gmul (a b : Nat) : Nat := gfReduce (clmul a b)

def gpow (a : Nat) : Nat → Nat
  | 0 => 1
  | n + 1 => gmul a (gpow a n)

/-- The inverse of a non-zero byte. -/
def ginv (a : Nat) : Nat := gpow a 254

/-- α^i. -/
def alpha (i : Nat) : Nat := gpow 2 i

/-- Syndrome j: the codeword, byte 0 as the highest coefficient, at α^j. -/
def syndrome (bs : List Nat) (j : Nat) : Nat :=
  let x := alpha j
  bs.foldl (fun acc b => gmul acc x ^^^ b) 0

/-- Change of byte k by a value. -/
def xorByte (bs : List Nat) (k e : Nat) : List Nat := bs.set k (bs.getD k 0 ^^^ e)

/-- The two positions whose locators solve x^2 + l1 x + l2 = 0, counted as powers of α. -/
def locators (l1 l2 : Nat) : List Nat :=
  (List.range 40).filter fun i =>
    let x := alpha i
    (gmul x x ^^^ gmul l1 x ^^^ l2) = 0

/-- The codeword that the receiver makes of 40 bytes, and whether it corrected one or two bytes; none when there are more
errors. -/
def rsCorrect (bs : List Nat) : Option (List Nat × Bool) :=
  let s0 := syndrome bs 0
  let s1 := syndrome bs 1
  let s2 := syndrome bs 2
  let s3 := syndrome bs 3
  if s0 = 0 ∧ s1 = 0 ∧ s2 = 0 ∧ s3 = 0 then some (bs, false) else
  let det := gmul s0 s2 ^^^ gmul s1 s1
  if det = 0 then
    let x := gmul s1 (ginv s0)
    if s0 ≠ 0 ∧ gmul s1 x = s2 ∧ gmul s2 x = s3 then
      match (List.range 40).find? fun i => decide (alpha i = x) with
      | some i => some (xorByte bs (39 - i) s0, true)
      | none => none
    else none
  else
    let inv := ginv det
    let l2 := gmul (gmul s1 s3 ^^^ gmul s2 s2) inv
    let l1 := gmul (gmul s0 s3 ^^^ gmul s1 s2) inv
    match locators l1 l2 with
    | [i, j] =>
      let xi := alpha i
      let xj := alpha j
      let ej := gmul (s1 ^^^ gmul s0 xi) (ginv (xi ^^^ xj))
      let ei := s0 ^^^ ej
      if ei = 0 ∨ ej = 0 then none else some (xorByte (xorByte bs (39 - i) ei) (39 - j) ej, true)
    | _ => none

/-! ### The flit (R544) -/

structure Flit where
  cls : Nat
  pois : Nat
  die : Nat
  tile : Nat
  row : Nat
  beat : Nat
  payload : Nat
  deriving DecidableEq, Repr

def Flit.parse (x : Nat) : Flit :=
  ⟨bitsOf x 285 3, bitsOf x 281 4, bitsOf x 276 5, bitsOf x 272 4, bitsOf x 259 13, bitsOf x 256 3, bitsOf x 0 256⟩

/-- Turnstile numbers of the changes of a class T flit that lie in the payload words of a mask. -/
def Flit.changes (f : Flit) (words : Nat) : List Nat :=
  ((List.range (min 6 f.row)).filter fun k =>
    (List.range 5).any fun b => bitsOf words ((5 * k + b) / 8) 1 = 1).map fun k => bitsOf f.payload (40 * k + 32) 8

/-- First match of a list changed. -/
def changeFirst {α : Type} (p : α → Bool) (f : α → α) : List α → List α
  | [] => []
  | x :: xs => if p x then f x :: xs else x :: changeFirst p f xs

/-- Poison of a class T flit: the oldest change on its way to the shadow, or the oldest update on its way to the hub. -/
def State.taintChange (s : State) (d : DieId) (toHub : Bool) (n : Nat) : State :=
  if toHub then
    let mine : GlobalUpdate → Bool := fun u => decide (tileDie u.src = d) && decide (u.number.toNat = n)
    let gs := changeFirst mine (fun u => { u with poison := true }) s.fabric.globals
    { s with fabric := { s.fabric with globals := gs } }
  else
    s.modDie d fun x =>
      let q := changeFirst (fun q => decide (q.2.1 = n)) (fun q => (q.1, q.2.1, { q.2.2 with pois := true })) x.shadowQ
      { x with shadowQ := q }

/-- Destination tile of a flit that die d sends or receives. -/
def Flit.target (f : Flit) (d : DieId) : TileId :=
  Fin.ofNat 256 (16 * (if 1 ≤ f.die ∧ f.die ≤ 16 then f.die - 1 else d.val) + f.tile)

/-- A MOVE row with poison in words of a beat: of a compressed row the beat holds four stream words, counted from the one in
which the row's header starts, and the header may go with them (R270). -/
def FabricRow.taint (r : FabricRow) (beat words : Nat) : FabricRow :=
  match r.half with
  | none => { r with data := r.data.taintBeat beat words }
  | some half =>
    let (d, lost) := r.data.streamed half false fun j => decide (j / 4 = beat) && decide (words / 2 ^ (j % 4) % 2 = 1)
    { r with data := d, lost := r.lost || lost }

/-- Poison of a class S beat: the MOVE row on its way to the tile. -/
def State.taintMove (s : State) (t : TileId) (row beat words : Nat) : State :=
  let mine : FabricRow → Bool := fun r => decide (r.dst = t) && decide (r.row = row)
  let rs := changeFirst mine (fun r => r.taint beat words) s.fabric.rows
  { s with fabric := { s.fabric with rows := rs } }

/-- Row k of an agent's write takes poison at a beat. -/
def AgentWrite.taint (a : AgentWrite) (k beat words : Nat) : AgentWrite :=
  { a with rows := a.rows.set k ((a.rows.getD k Row.zero).taintBeat beat words) }

/-- Poison of a class P beat from the hub: the process-data block that waits for its rows. -/
def State.taintBlock (s : State) (t : TileId) (row beat words : Nat) : State :=
  let mine : AgentWrite → Bool := fun a =>
    decide (a.tile = t) && decide (a.first ≤ row) && decide (row < a.first + a.rows.length)
  let as := changeFirst mine (fun a => a.taint (row - a.first) beat words) s.agents
  { s with agents := as }

/-- Poison of a class B beat: the transfer with the flit's tag. A LOAD or HLOAD takes it in the row that lands next; the flit of
another transfer does not say which row it belongs to, so a free value does. -/
def State.taintTransfer (s : State) (d : DieId) (tag beat : Nat) : State :=
  let mine : Transfer → Bool := fun tr => decide (tr.tag % 8192 = tag)
  let mark : Transfer → Transfer := fun tr =>
    let k := if tr.kind = .load ∨ tr.kind = .hload then tr.landed else s.freeElem 0 % max 1 tr.count
    { tr with beats := tr.beats ++ [(k, beat)] }
  let s1 := forAll (dieTiles d) (fun s t => s.modTile t fun x => { x with
    transfers := x.transfers.map fun tr => if mine tr then mark tr else tr }) s
  let own : AgentWrite → Bool := fun a => decide (tileDie a.tile = d) && decide (a.tag % 8192 = tag)
  let as := changeFirst own (fun a => a.taint (s.freeElem 1 % max 1 a.rows.length) beat 15) s1.agents
  { s1 with agents := as }.takeFree

/-- What the poisoned words of a delivered flit poison. A flit carries what State already holds on its way, so its words move
nothing else. -/
def State.deliverPoison (s : State) (d : DieId) (toHub : Bool) (f : Flit) (words : Nat) : State :=
  if words = 0 then s
  else match f.cls with
    | 1 => (f.changes words).foldl (fun s n => s.taintChange d toHub n) s
    | 2 => s.taintMove (f.target d) f.row f.beat words
    | 3 =>
      if toHub then { s with ecat := { s.ecat with badBeats := s.ecat.badBeats ++ [(d.val, f.row, f.beat)] } }
      else s.taintBlock (f.target d) f.row f.beat words
    | 4 => s.taintTransfer d f.row f.beat
    | _ => s

/-- GOINE_FLIT_DELIVERY: a flit on module m of die d, from the die to the hub with `toHub`. A late class S flit is not sent, and
its words arrive poisoned (R265); a flit with more than two byte errors arrives poisoned (R545). -/
def execGoineFlitDelivery (d : DieId) (m : Fin 4) (toHub late : Bool) (flit : BitVec 320) (s : State) :
    Host.Outcome State Fault Refusal :=
  .next (
    if !s.awake || !s.dieIn d then s else
    let raw := Flit.parse flit.toNat
    let aux := BitVec.ofNat 16 m.val
    if late then
      if raw.cls = 2 then (s.raise 0x4011 (dieHandle d) 0 aux).deliverPoison d toHub raw 15 else s
    else if !s.moduleUp d m.val then s
    else match rsCorrect (unpackNat 8 flit.toNat 40) with
      | some (bs, corrected) =>
        let f := Flit.parse (packNat 8 bs)
        let s1 := if corrected then s.modDie d fun x => { x with
            fecCorrected := BitVec.ofNat 32 (min 0xFFFFFFFF (x.fecCorrected.toNat + 1)) } else s
        s1.deliverPoison d toHub f f.pois
      | none =>
        ((s.modDie d fun x => { x with fecBad := x.fecBad + 1 }).raise 0x4010 (dieHandle d) 0 aux).deliverPoison d toHub raw 15)

/-! ### Modules (R432, R543, R547, R548, R573) -/

/-- A module stays down. -/
def State.dropModule (s : State) (d : DieId) (m : Nat) : State :=
  s.modDie d fun x => { x with
    modulesUp := (List.range 4).map fun k => x.modulesUp.getD k false && decide (k ≠ m), rejoin := x.rejoin.filter fun k => decide (k ≠ m) }

/-- A link is down at both its ends. -/
def State.dropLink (s : State) (d : DieId) (m : Nat) : State :=
  match ringPeer d m with
  | some (e, n) => (s.dropModule d m).dropModule e n
  | none => s.dropModule d m

/-- A die whose two hub modules are down and do not retrain is marked out, cause 1. -/
def State.checkHubModules (s : State) (d : DieId) : State :=
  let x := s.die d
  let lost : Nat → Bool := fun m => !x.modulesUp.getD m false && !x.rejoin.contains m
  if lost 0 && lost 1 then s.markOut d 1 else s

/-- A module that cannot be retrained in service. -/
def State.loseModule (s : State) (d : DieId) (m : Nat) : State :=
  ((s.dropLink d m).raise 0x4013 (dieHandle d) 0 (BitVec.ofNat 16 m)).checkHubModules d

/-- A loop-back on the die's other hub module ends when this one goes down, and that module retrains (R573). -/
def State.endHubLoop (s : State) (d : DieId) (m : Nat) : State :=
  if m < 2 ∧ s.test.looping ∧ s.test.loopIface = some (goineIface d (1 - m)) then s.endLoop 4 else s

/-- GOINE_MODULE_LOSS. -/
def execGoineModuleLoss (d : DieId) (m : Fin 4) (s : State) : Host.Outcome State Fault Refusal :=
  .next (if !s.awake || !s.dieIn d || !s.moduleUp d m.val then s else (s.endHubLoop d m.val).loseModule d m.val)

/-- GOINE_RETRAIN: a link at Goine 1.2 retrains and rejoins at the next frame boundary when that succeeds; any other, and a failed
retrain, stays down (R548). -/
def execGoineRetrain (d : DieId) (m : Fin 4) (ok : Bool) (s : State) : Host.Outcome State Fault Refusal :=
  .next (
    if !s.awake || !s.dieIn d || !(s.moduleUp d m.val || (s.die d).rejoin.contains m.val) then s
    else if ok ∧ (s.die d).goineVersion = some 0x0102 then
      (s.dropLink d m.val).modDie d fun x => { x with rejoin := x.rejoin ++ [m.val] }
    else s.loseModule d m.val)

end Sys2Proof.Machine
end

