-- ==== Sys2Proof/Machine/HdCode.lean ====
section
/-!
DEFINITION. The HD objects at 0x2500: the checks of lists, descriptors and the list table (R348), and the commands LIST_TABLE_WRITE, LIST_WRITE, DEEP_GROUP_WRITE, START_CONSOLIDATION and REQUEST_RESPREAD.
-/
namespace Sys2Proof.Machine

/-! ### Offsets of commands (R342, R364) -/

/-- The hub-buffer offset of a command is one that R342 and R364 allow. -/
def HdSettings.offsetOk (st : HdSettings) : Instr → Bool
  | .level _ _ _ slot hbo =>
    let n := (mget Encoder.zero st.encoders slot.val).bytes
    decide (hbo.toNat % n = 0) && hdReadOk hbo.toNat n
  | .record _ _ _ _ hbo => decide (hbo.toNat % 16 = 0) && hdReadOk hbo.toNat 16
  | .loadv _ w _ hbo => decide (hbo.toNat % 32 = 0) && hdReadOk hbo.toNat (HdWidth.bits w / 8)
  | .storev _ w _ hbo => decide (hbo.toNat % 32 = 0) && hdWriteOk hbo.toNat (HdWidth.bits w / 8)
  | .sign _ w _ m hbo => decide (hbo.toNat % 32 = 0) && hdReadOk hbo.toNat (HdWidth.bits w * signBytes m)
  | .outv _ w _ tile row _ _ =>
    Handle.physValid tile && (Handle.tile? tile).isSome && decide (row.toNat + HdWidth.bits w / 2048 ≤ 8192)
  | .srch _ _ _ _ _ _ _ _ _ _ _ hbo => decide (hbo.toNat % 32 = 0) && hdWriteOk hbo.toNat 32
  | .cstep _ _ append kM1 hbo =>
    decide (hbo.toNat % 16 = 0) && hdWriteOk hbo.toNat (if append then 16 else 16 + 16 * (kM1.toNat + 1))
  | .ins _ _ _ _ hbo => decide (hbo.toNat % 8 = 0) && hdReadOk hbo.toNat 24
  | .upd _ _ _ _ _ _ hbo => decide (hbo.toNat % 8 = 0) && hdReadOk hbo.toNat 24
  | .rde _ w _ _ hbo => decide (hbo.toNat % 32 = 0) && hdWriteOk hbo.toNat (24 + HdWidth.bits w / 8)
  | .dcoll _ _ _ _ _ _ hbo => decide (hbo.toNat % 32 = 0) && hdWriteOk hbo.toNat 32
  | _ => true

/-! ### What a write may leave in the HD part (R348) -/

/-- Words of 16 bytes. -/
def chunk16 (bs : List Byte) : List (BitVec 128) :=
  (List.range (bs.length / 16)).map fun k => BitVec.ofNat 128 (leNat (sliceBytes bs (16 * k) 16))

/-- A run of commands that a list may hold. -/
def State.commandsOk (s : State) (bs : List Byte) : Bool :=
  decide (bs.length % 16 = 0) && (chunk16 bs).all fun x =>
    match hdDecode (.list 0) x with
    | some i => Instr.wf i && s.hd.written.offsetOk i
    | none => false

/-- A field of a record descriptor (R336, R342). -/
def State.fieldOk (s : State) (f : List Byte) : Bool :=
  let slot := fieldAt f 8 1
  let n := (mget Encoder.zero s.hd.written.encoders slot).bytes
  decide (fieldAt f 0 4 ≠ 0xFFFFFFFF) && decide (slot < 16) && decide (fieldAt f 4 4 % n = 0) && hdReadOk (fieldAt f 4 4) n &&
    decide (fieldAt f 10 2 = 0)

/-- Record descriptors one after the other, each at a multiple of 16. `fuel` bounds their number. -/
def State.descriptorsOk (s : State) : Nat → List Byte → Bool
  | 0, bs => bs.isEmpty
  | fuel + 1, bs =>
    if bs.isEmpty then true else
    let n := fieldAt bs 0 2
    let size := 16 + 12 * n
    let padded := (size + 15) / 16 * 16
    decide (16 ≤ bs.length) && decide (1 ≤ n) && decide (n ≤ 256) && decide (fieldAt bs 2 1 < 4) && decide (fieldAt bs 3 13 = 0) &&
      decide (size ≤ bs.length) && ((List.range n).all fun k => s.fieldOk (sliceBytes bs (16 + 12 * k) 12)) &&
      s.descriptorsOk fuel (bs.drop padded)

/-- An entry of the list table (R347): every field in range; the default entry of zeros names no list. -/
def listEntryOk (b : List Byte) : Bool :=
  let offset := fieldAt b 0 4
  let count := fieldAt b 4 2
  b.all (· = 0) ||
    (decide (offset % 16 = 0) && decide (0x600000 ≤ offset) && decide (1 ≤ count) && decide (count ≤ 1024) &&
      decide (offset + 16 * count ≤ 0x680000) && decide (1 ≤ fieldAt b 8 2) && decide (fieldAt b 8 2 ≤ 16383) &&
      decide (fieldAt b 10 1 < 2) && decide (fieldAt b 11 1 = 0))

def HdList.parse (b : List Byte) : HdList :=
  ⟨fieldAt b 0 4, fieldAt b 4 2, BitVec.ofNat 8 (fieldAt b 6 1), BitVec.ofNat 8 (fieldAt b 7 1), fieldAt b 8 2,
    decide (fieldAt b 10 1 % 2 = 1), BitVec.ofNat 32 (fieldAt b 12 4)⟩

/-- A refused write at the HD objects raises 0x7013. -/
def State.refuseHd (s : State) (c : Channel) (aux : Nat) : State :=
  (s.deviceEvent 0x7013 aux).answer c 0x06090030 []

/-- A write at the HD objects whose contents are checked: refused contents raise 0x7013 and change nothing else. -/
def State.hdWrite (s : State) (c : Channel) (lengthOk ok : Bool) (aux : Nat) (f : State → State) : State :=
  if s.serves c && !s.svc.restarting && lengthOk && !ok && !s.wiped then s.refuseHd c aux
  else s.request c [(!lengthOk, 0x06070010)] f

/-- LIST_TABLE_WRITE: entry n of the list table, in force from the next frame boundary on (R347, R348). -/
def execListTableWrite (c : Channel) (n : Fin 16) (entry : List Byte) (s : State) : Host.Outcome State Fault Refusal :=
  .next (s.hdWrite c (decide (entry.length = 16)) (listEntryOk entry) n.val fun s =>
    let l := HdList.parse entry
    let table := s.hd.nextLists.getD s.hd.lists
    { s.acceptOctets (0x250301 + n.val) entry with
      hd := { s.hd with nextLists := some (mset HdList.zero table n.val l) } })

/-- LIST_WRITE: commands or record descriptors at the offset of 0x2504:01 (R347, R348). A write is taken when its bytes are one
or the other. -/
def execListWrite (c : Channel) (data : List Byte) (s : State) : Host.Outcome State Fault Refusal :=
  let a := s.accepted 0x250401
  .next (s.hdWrite c (decide (1 ≤ data.length) && decide (data.length ≤ 16384))
    (decide (a % 16 = 0) && decide (0x600000 ≤ a) && decide (a + data.length ≤ 0x680000) &&
      (s.commandsOk data || s.descriptorsOk 1024 data)) 0xFF fun s =>
      (s.acceptOctets 0x250402 data).hubWrite a data false)

/-! ### The deep group table (R383) -/

/-- Dictionary revision that the party of a channel speaks (R488, R498). -/
def State.revision (s : State) (c : Channel) : Nat :=
  match c with
  | .p3 => s.ecat.chosenP3.toNat
  | .mailbox => s.ecat.chosenMb.toNat

/-- An object that revision 5 adds is absent for a party at revision 4. -/
def State.newObject (s : State) (c : Channel) : Bool × W32 := (decide (s.revision c < 5), 0x06020000)

def deepGroupOk (b : List Byte) : Bool :=
  let h : Handle := BitVec.ofNat 32 (fieldAt b 0 4)
  decide (fieldAt b 6 2 = 0) &&
    (decide (h = 0) || (Handle.physValid h && (Handle.engine? h).isSome && decide (fieldAt b 4 2 + 63 < 2048)))

/-- DEEP_GROUP_WRITE: the group that 0x2507:01 names, in force from the next flip point on. -/
def execDeepGroupWrite (c : Channel) (entry : List Byte) (s : State) : Host.Outcome State Fault Refusal :=
  .next (s.request c [s.newObject c, (decide (entry.length ≠ 8), 0x06070010), (!deepGroupOk entry, 0x06090030)] fun s =>
    let g := s.accepted 0x250701
    { s with
      rcl := { s.rcl with
        deepNext := s.rcl.deepNext ++ [(g, ⟨BitVec.ofNat 32 (fieldAt entry 0 4), fieldAt entry 4 2⟩)] }
      svc := { s.svc with settingsChanged := true } })

/-! ### Consolidation (R178, R387) -/

/-- The deep group table with every accepted change. -/
def State.deepTable (s : State) : SMap DeepGroup :=
  s.rcl.deepNext.foldl (fun m g => mset ⟨0, 0⟩ m g.1 g.2) s.rcl.deep

/-- The record of block b0 + k of a deep group: lane j holds bit 128k + i of its entry at row i; lanes without an entry hold
zeros. -/
def deepRecordOf (e : EngineId) (b0 k : Nat) (lanes : List Entry) : BlockRecord :=
  let codes := (List.range 256).map fun j =>
    let key := (lanes.getD j Entry.hole).key.toNat
    (List.range 128).map fun i => bitsOf key (128 * k + i) 1
  { engine := engineHandle e, block := b0 + k, set := .binary, gs := 3, calset := none, codes := codes
    tempo := List.replicate 256 [0, 0, 0, 0], exponent := List.replicate 256 0, fine := List.replicate 256 0
    step := List.replicate 256 0, scales := [], list := [], tagOk := true }

/-- The records of whole groups from group g on. -/
def deepRecords (table : SMap DeepGroup) (g : Nat) (es : List Entry) : List BlockRecord :=
  (List.range ((es.length + 255) / 256)).flatMap fun n =>
    let x := mget ⟨0, 0⟩ table (g + n)
    match Handle.engine? x.engine with
    | none => []
    | some e => (List.range 64).map fun k => deepRecordOf e x.b0 k ((es.drop (256 * n)).take 256)

/-- A bank for each record that no other record takes. -/
def State.banksFor (s : State) : List Nat → List BlockRecord → Option (List (Nat × BlockRecord))
  | _, [] => some []
  | taken, r :: rs =>
    match Handle.engine? r.engine with
    | none => none
    | some e =>
      match s.chooseBank taken e r.block with
      | none => none
      | some b => (s.banksFor (taken ++ [b]) rs).map fun ws => (b, r) :: ws

/-- A consolidation that cannot be made. -/
def State.refuseConsolidation (s : State) (cause bank : Nat) : State :=
  { s with rcl := { s.rcl with consolidation := 3 } }.raise 0x7027 deviceHandle (openParam 0x7027 cause 0)
    (BitVec.ofNat 16 bank)

/-- The index records of whole groups in the inactive copy: packed entries, then holes. -/
def State.writeIndex (s : State) (g : Nat) (es : List Entry) : State :=
  let base := s.deepBase (!s.rcl.deepActive)
  let n := (es.length + 255) / 256 * 256
  let bytes := (List.range n).flatMap fun j => Entry.bytes (es.getD j Entry.hole)
  { s with lpddr := s.lpddr.write (base + 6144 * g) bytes }

/-- The roustabout packs the valid entries of a range and writes their blocks as one flip set. A block that another flip set not yet
taken holds, like one without a bank, ends the attempt (R158; DESIGN CHOICE, log 109: R387 lists no such cause). -/
def State.consolidate (s : State) (bank first count group : Nat) : State :=
  let k := s.rbank bank
  let ps := ((k.entries.filter fun q => q.2.isValid && decide (first ≤ q.1) && decide (q.1 < first + count)).map Prod.fst)
  let es := ps.map k.entry
  let rs := deepRecords s.deepTable group es
  if rs.any fun r => s.setBlocks.contains (r.engine, r.block) then s.refuseConsolidation 3 bank else
  match s.banksFor [] rs, s.freeSet with
  | some ws, some j =>
    let f : FlipSet := { FlipSet.none with
      used := true, consolidation := true, bindings := ws.map fun w => (bankEngine w.1, w.2.block, w.1, true) }
    let s1 := (s.writeIndex group es).setFlip j f
    let s2 := { s1 with rcl := { s1.rcl with consolidation := 1, consBank := bank, consRange := (first, count) } }
    let s3 := s2.setCursor 16 { Cursor.empty with marks := ps.map (storePos bank) }
    (s3.queueWrites j ws).finishSet j
  | _, _ => s.refuseConsolidation 3 bank

/-- Every group that the range may fill is present. -/
def State.groupsPresent (s : State) (group count : Nat) : Bool :=
  (List.range ((count + 255) / 256)).all fun n =>
    decide (group + n < 4096) && (Handle.engine? (mget ⟨0, 0⟩ s.deepTable (group + n)).engine).isSome

/-- START_CONSOLIDATION (R387): bank, first position, count and first deep group at 0x2500:0A. -/
def execStartConsolidation (c : Channel) (bank : Byte) (first count group : W16) (s : State) :
    Host.Outcome State Fault Refusal :=
  let b := bank.toNat
  .next (s.request c [
      (!s.awake || decide (s.rcl.consolidation = 1), 0x08000022),
      (decide (16 ≤ b) || decide (4096 ≤ group.toNat), 0x06090031),
      (decide (count = 0), 0x06090032),
      (decide ((s.rbank b).size < first.toNat + count.toNat), 0x06090031)] fun s =>
    if (s.rbank b).width ≠ 2 then s.refuseConsolidation 1 b
    else if !s.groupsPresent group.toNat (((s.rbank b).entries.filter fun q => q.2.isValid && decide (first.toNat ≤ q.1) &&
        decide (q.1 < first.toNat + count.toNat)).length) then s.refuseConsolidation 3 b
    else s.consolidate b first.toNat count.toNat group.toNat)

/-- REQUEST_RESPREAD: a re-spread of bank 0 to 15 (R376). -/
def execRequestRespread (c : Channel) (bank : Byte) (s : State) : Host.Outcome State Fault Refusal :=
  let b := bank.toNat
  .next (s.request c [(decide (16 ≤ b), 0x06090031), (!s.awake || (s.rbank b).respread.isSome, 0x08000022)] fun s =>
    s.startRespread b)

end Sys2Proof.Machine
end

