-- ==== Sys2Proof/Machine/IngressOps.lean ====
section
/-!
DEFINITION. The ingress pre-processor (spec/11) and the camera ports (spec/19): packets, frame conversion, the frame ring,
and the delivery of latched frames to tiles.
-/
namespace Sys2Proof.Machine

/-! ### Decoding of source lines (R314). The byte order of the packets is that of CSI-2 (PRESUMED, log 53). -/

/-- Bytes that `n` source samples take. Data type codes are those of the image context record. -/
def sourceBytes (dtype n : Nat) : Nat :=
  match dtype with
  | 0 => 2 * n
  | 1 => 3 * n
  | 2 => n
  | 3 => (5 * n + 3) / 4
  | _ => (3 * n + 1) / 2

/-- CSI-2 data type of a record's dtype. -/
def csiType (dtype : Nat) : Nat :=
  match dtype with
  | 0 => 0x1E
  | 1 => 0x24
  | 2 => 0x2A
  | 3 => 0x2B
  | _ => 0x2C

def byteAt (bs : List Byte) (k : Nat) : Nat := (bs.getD k 0).toNat

/-- A RAW sample reduced to 8 bits. -/
def rawSample (dtype : Nat) (line : List Byte) (x : Nat) : Nat :=
  match dtype with
  | 2 => byteAt line x
  | 3 =>
    let s := byteAt line (5 * (x / 4) + x % 4) * 4 + bitsOf (byteAt line (5 * (x / 4) + 4)) (2 * (x % 4)) 2
    min 255 ((s + 2) / 4)
  | _ =>
    let s := byteAt line (3 * (x / 2) + x % 2) * 16 + bitsOf (byteAt line (3 * (x / 2) + 2)) (4 * (x % 2)) 4
    min 255 ((s + 8) / 16)

/-- Position of red in a 2 × 2 cell of a pattern: (column, row); blue lies diagonally opposite. -/
def redAt (bayer : Nat) : Nat × Nat :=
  match bayer with
  | 0 => (0, 0)
  | 1 => (1, 0)
  | 2 => (0, 1)
  | _ => (1, 1)

def clampByte (x : Int) : Nat := (clampInt 0 255 x).toNat

/-- One matrix row on YCbCr. -/
def matrixRow (m : List Int) (k y cb cr : Nat) : Nat :=
  let c : Nat → Int := fun j => m.getD (3 * k + j) 0
  clampByte (Int.fdiv (c 0 * y + c 1 * ((cb : Int) - 128) + c 2 * ((cr : Int) - 128) + 2048) 4096)

/-- Pixel (x, y) of output plane p before the resize, in pixels of the crop (R314). -/
def planePixel (g : ImgSettings) (lines : List (List Byte)) (p x y : Nat) : Nat :=
  let sx := g.cropX + x
  let sy := g.cropY + y
  if g.dtype = 0 then
    let l := lines.getD sy []
    let yy := byteAt l (4 * (sx / 2) + 1 + 2 * (sx % 2))
    let cb := byteAt l (4 * (sx / 2))
    let cr := byteAt l (4 * (sx / 2) + 2)
    if g.planes = 2 then matrixRow g.matrix p yy cb cr
    else if p = 0 then yy else if p = 1 then cb else cr
  else if g.dtype = 1 then
    let l := lines.getD sy []
    let b := byteAt l (3 * sx)
    let gr := byteAt l (3 * sx + 1)
    let r := byteAt l (3 * sx + 2)
    if g.planes = 2 then (if p = 0 then r else if p = 1 then gr else b) else (77 * r + 150 * gr + 29 * b + 128) / 256
  else
    let at' : Nat → Nat → Nat := fun dx dy => rawSample g.dtype (lines.getD (2 * sy + dy) []) (2 * sx + dx)
    let (rx, ry) := redAt g.bayer
    if p = 0 then at' rx ry
    else if p = 1 then (at' (1 - rx) ry + at' rx (1 - ry) + 1) / 2
    else at' (1 - rx) (1 - ry)

/-- Output pixel (u, v) of a plane by bilinear interpolation (R315). -/
def resizePixel (pix : Nat → Nat → Nat) (cw ch ow oh u v : Nat) : Nat :=
  let coord : Nat → Nat → Nat → Nat := fun k c o =>
    (clampInt 0 ((c - 1) * 256 : Nat) ((((2 * k + 1) * c * 256 / (2 * o) : Nat) : Int) - 128)).toNat
  let sx := coord u cw ow
  let sy := coord v ch oh
  let x0 := sx / 256
  let fx := sx % 256
  let x1 := min (x0 + 1) (cw - 1)
  let y0 := sy / 256
  let fy := sy % 256
  let y1 := min (y0 + 1) (ch - 1)
  (pix x0 y0 * ((256 - fx) * (256 - fy)) + pix x1 y0 * (fx * (256 - fy)) + pix x0 y1 * ((256 - fx) * fy) +
    pix x1 y1 * (fx * fy) + 32768) / 65536

/-! ### The frame ring (R316) -/

/-- P and L. -/
def ImgSettings.planeCount (g : ImgSettings) : Nat := if g.planes = 0 then 1 else 3
def ImgSettings.pitch (g : ImgSettings) : Nat := 256 * ((g.outW + 255) / 256)
/-- Address of buffer n. -/
def ImgSettings.bufferAt (g : ImgSettings) (n : Nat) : Nat :=
  g.ringBase + n * (256 + g.planeCount * g.outH * g.pitch)

/-- Line y of plane p with its padding. -/
def ImgSettings.line (g : ImgSettings) (lines : List (List Byte)) (p y : Nat) : List Byte :=
  ((List.range g.outW).map fun u =>
    BitVec.ofNat 8 (resizePixel (planePixel g lines p) g.cropW g.cropH g.outW g.outH u y)) ++
  List.replicate (g.pitch - g.outW) (BitVec.ofNat 8 g.pad)

/-- A frame header (R320). -/
def frameHeader (ctx flags planes sequence time w h first lines superseded : Nat) : List Byte :=
  leBytes 1 ctx ++ leBytes 1 flags ++ leBytes 1 planes ++ [0] ++ leBytes 4 sequence ++ leBytes 8 time ++ leBytes 2 w ++
    leBytes 2 h ++ leBytes 2 first ++ leBytes 2 lines ++ leBytes 4 superseded ++ List.replicate 228 0

/-- The lowest buffer that is neither latched nor the newest complete one (R317). -/
def ImgContext.freeBuffer (c : ImgContext) : Nat :=
  ((List.range c.settings.ring).find? fun n => decide (c.newest ≠ some n) && decide (c.latched ≠ some (some n))).getD 0

def State.context (s : State) (k : Nat) : ImgContext := mget ImgContext.init s.ingress.contexts k
def State.setContext (s : State) (k : Nat) (c : ImgContext) : State :=
  { s with ingress := { s.ingress with contexts := mset ImgContext.init s.ingress.contexts k c } }
def State.modContext (s : State) (k : Nat) (f : ImgContext → ImgContext) : State := s.setContext k (f (s.context k))

/-- Source lines that the crop needs. -/
def ImgSettings.linesNeeded (g : ImgSettings) : Nat :=
  if g.dtype < 2 then g.cropY + g.cropH else 2 * (g.cropY + g.cropH)

/-- A frame ends: complete into its buffer, or discarded with event 0x4040 (R317). -/
def State.finishFrame (s : State) (k : Nat) : State :=
  let c := s.context k
  let g := c.settings
  let clear : ImgContext := { c with inFrame := false, lines := [], good := true, ended := false }
  if c.ended ∧ c.good ∧ g.linesNeeded ≤ c.lines.length then
    let lost := c.newest.isSome && !c.taken
    let sup := if lost then c.superseded + 1 else c.superseded
    let hdr := frameHeader k 1 g.planes (c.sequence + 1) s.nowNs g.outW g.outH 0 g.outH sup
    let a := g.bufferAt c.buffer
    let m0 := s.lpddr.write a hdr
    let m1 := (List.range g.planeCount).foldl (fun m p => (List.range g.outH).foldl (fun m y =>
      m.write (a + 256 + (p * g.outH + y) * g.pitch) (g.line c.lines p y)) m) m0
    ({ s with lpddr := m1 }).setContext k { clear with
      newest := some c.buffer, taken := false, superseded := sup, sequence := c.sequence + 1, endTime := s.nowNs }
  else (s.setContext k clear).deviceEvent 0x4040 k

/-- CAMERA_FRAME_END: the frame of a context whose frame-end packet came (R317). -/
def execCameraFrameEnd (context : Fin 16) (s : State) : Host.Outcome State Fault Refusal :=
  .next (
    let c := s.context context.val
    if s.awake ∧ c.inFrame ∧ c.ended then s.finishFrame context.val else s)

/-! ### Packets (R537, R538) -/

/-- Contexts enabled on a port and virtual channel: at most one (R537). -/
def State.contextOf (s : State) (port vc : Nat) : Option Nat :=
  (List.range 16).find? fun k =>
    let g := (s.context k).settings
    g.enable && decide (g.port = port) && decide (g.vc = vc)

def State.countDropped (s : State) (port : Nat) : State :=
  { s with ingress := { s.ingress with
    dropped := mset 0 s.ingress.dropped port (mget 0 s.ingress.dropped port + 1) } }

/-- A frame starts: the one before it ends first, and settings written since take effect (R313, R537). -/
def State.startCameraFrame (s : State) (k : Nat) : State :=
  let s1 := if (s.context k).inFrame then s.finishFrame k else s
  let c := s1.context k
  let c1 := { c with settings := c.next.getD c.settings, next := none }
  if c1.settings.enable then
    s1.setContext k { c1 with inFrame := true, lines := [], good := true, ended := false, buffer := c1.freeBuffer }
  else s1.setContext k { c1 with inFrame := false, lines := [] }

/-- A line has the correct length: it holds the crop, and every line of the frame is as long as the first (DESIGN CHOICE, log 52: the
record gives no source width). -/
def ImgContext.lengthOk (c : ImgContext) (n : Nat) : Bool :=
  let g := c.settings
  let w := if g.dtype < 2 then g.cropX + g.cropW else 2 * (g.cropX + g.cropW)
  decide (sourceBytes g.dtype w ≤ n) && (match c.lines with
    | [] => true
    | l :: _ => decide (l.length = n))

/-- A packet whose header was used. -/
def State.takePacket (s : State) (port : Nat) (p : CsiPacket) : State :=
  match s.contextOf port p.vc.val with
  | none => s.countDropped port
  | some k =>
    let c := s.context k
    let t := p.dataType.toNat
    if t = 0 then s.startCameraFrame k
    else if t = 1 then (if c.inFrame then s.setContext k { c with ended := true } else s)
    else if t = 2 ∨ t = 3 then s
    else if t ≠ csiType c.settings.dtype then s.countDropped port
    else if !c.inFrame || c.ended then s
    else
      s.setContext k { c with
        lines := c.lines ++ [p.payload]
        good := c.good && p.crcOk && c.lengthOk p.payload.length }

/-- Every frame in progress on a port becomes incomplete (R538). -/
def State.spoilPort (s : State) (port : Nat) : State :=
  forAll (List.range 16) (fun s k =>
    let c := s.context k
    if c.inFrame ∧ c.settings.port = port then s.setContext k { c with good := false } else s) s

/-- CSI2_PACKET. -/
def execCsi2Packet (port : Fin 8) (p : CsiPacket) (overflow : Bool) (s : State) : Host.Outcome State Fault Refusal :=
  .next (
    if !s.awake then s else
    let s1 := if p.headerOk then s.takePacket port.val p
      else match s.contextOf port.val p.vc.val with
        | some k => s.modContext k fun c => { c with good := c.good && !c.inFrame }
        | none => s
    let s2 := if s.loopHolds (0x10 + port.val) then s1.spoilPort port.val else s1
    if overflow then (s2.spoilPort port.val).deviceEvent 0x4041 port.val else s2)

/-! ### Delivery (R319 to R321) -/

/-- A stripe map entry. -/
structure StripeEntry where
  tile : Handle
  row : Nat
  first : Nat
  lines : Nat
  context : Nat
  doneTs : Byte
  doneValue : Nat
  deriving DecidableEq, Repr

/-- The entries of a context's stripe map, 1,024 at most. -/
def State.stripeMap (s : State) (g : ImgSettings) : List StripeEntry :=
  let n := min 1024 (leNat (s.hub.read g.mapOffset 2))
  (List.range n).map fun k =>
    let b := s.hub.read (g.mapOffset + 16 + 16 * k) 16
    ⟨BitVec.ofNat 32 (fieldAt b 0 4), fieldAt b 4 2, fieldAt b 6 2, fieldAt b 8 2, fieldAt b 10 1,
      BitVec.ofNat 8 (fieldAt b 11 1), fieldAt b 12 2⟩

/-- The entry can be delivered: a tile in service, and lines of the image. -/
def State.stripeOk (s : State) (g : ImgSettings) (e : StripeEntry) : Bool :=
  (match Handle.tile? e.tile with
    | some t => Handle.physValid e.tile && s.tileIn t
    | none => false) &&
  decide (1 ≤ e.lines) && decide (e.first + e.lines ≤ g.outH)

/-- Where an entry's done add goes. -/
def StripeEntry.done (e : StripeEntry) : DoneTo :=
  match Handle.tile? e.tile with
  | some t => .tile t e.doneTs e.doneValue
  | none => .none

/-- The header row of an entry: the buffer's header with the fields of this delivery (R320). While no frame was ever
complete, the time is not stated. -/
def State.stripeHeader (s : State) (k : Nat) (c : ImgContext) (e : StripeEntry) : Row :=
  let g := c.settings
  match c.latched with
  | some (some n) =>
    let r := s.lpddr.readRow (g.bufferAt n)
    let b := r.bytes
    let fresh := decide (fieldAt b 4 4 ≠ c.deliveredSeq)
    Row.ofBytes (frameHeader k (if fresh then 1 else 0) g.planes (fieldAt b 4 4) (fieldAt b 8 8) g.outW g.outH e.first
      e.lines c.supersededAtTake) r.poison
  | _ =>
    let time := leNat ((List.range 8).map (Config.unstatedByte s.free))
    Row.ofBytes (frameHeader k 2 g.planes c.sequence time g.outW g.outH e.first e.lines c.supersededAtTake) 0

/-- Rows of an entry: header, then plane by plane the pieces of each line. -/
def State.stripeRows (s : State) (k : Nat) (c : ImgContext) (e : StripeEntry) : List Row :=
  let g := c.settings
  let per := g.pitch / 256
  let pieces : List Row := (List.range g.planeCount).flatMap fun p =>
    (List.range e.lines).flatMap fun y => (List.range per).map fun q =>
      match c.latched with
      | some (some n) => s.lpddr.readRow (g.bufferAt n + 256 + (p * g.outH + e.first + y) * g.pitch + 256 * q)
      | _ => Row.ofBytes (List.replicate 256 (BitVec.ofNat 8 g.pad)) 0
  s.stripeHeader k c e :: pieces

/-- A request of context k is on its way, waits or is granted. -/
def State.ingressBusy (s : State) (k : Nat) : Bool :=
  s.agents.any fun a => decide (a.holder = 0x103) && decide (a.unit = k)

/-- The end of a delivery: the buffer is released, or the context is latched again (R319, R321). -/
def State.endDelivery (s : State) (k : Nat) : State :=
  let c := s.context k
  let seq := match c.latched with
    | some (some n) => leNat (s.lpddr.read (c.settings.bufferAt n + 4) 4)
    | _ => c.deliveredSeq
  if c.relatch then
    s.setContext k { c with
      latched := some c.newest, relatch := false, entry := 0, deliveredSeq := seq, taken := true
      supersededAtTake := c.superseded, superseded := 0 }
  else s.setContext k { c with latched := none, entry := 0, deliveredSeq := seq }

/-- The next entry of a latched context asks for its tickets; entries that cannot be delivered are skipped with a poisoned
done add and event 0x4043. `fuel` is the number of entries left. -/
def State.requestStripe (s : State) (k : Nat) : Nat → State
  | 0 => s
  | fuel + 1 =>
    let c := s.context k
    match (s.stripeMap c.settings)[c.entry]? with
    | none => s.endDelivery k
    | some e =>
      let s1 := s.setContext k { c with entry := c.entry + 1 }
      if e.context ≠ k then s1.requestStripe k fuel
      else if s.stripeOk c.settings e then
        match Handle.tile? e.tile with
        | some t => (s1.agentRequest 0x103 k t e.row (s.stripeRows k c e) e.done).takeFree
        | none => s1
      else ((s1.applyHubDone e.done true).deviceEvent 0x4043 k).requestStripe k fuel

/-- Every latched context without a request outstanding goes on to its next entry. -/
def State.requestStripes (s : State) : State :=
  forAll (List.range 16) (fun s k =>
    let c := s.context k
    if c.latched.isSome ∧ !s.ingressBusy k then
      s.requestStripe k ((s.stripeMap c.settings).length + 1 - c.entry)
    else s) s

/-- INGRESS_DELIVERY: the oldest granted entry is written, and the contexts go on to their next entries. -/
def execIngressDelivery (s : State) : Host.Outcome State Fault Refusal :=
  .next (
    if !s.awake then s else
    match s.agents.find? (fun a => decide (a.holder = 0x103) && a.granted) with
    | some a => (s.agentWrite a false).requestStripes
    | none => s.requestStripes)

end Sys2Proof.Machine
end

