-- ==== Sys2Proof/Machine/Maintenance.lean ====
section
/-!
DEFINITION. Maintenance (spec/05, spec/06, spec/21): drift scans and the absorption of stuck cells of live banks, drift refresh,
calibration, and strongman runs.
-/
namespace Sys2Proof.Machine

/-! ### Absorption on a live bank (R133, R134, R138) -/

/-- The list that a bank will have: the one that waits for a boundary, or the present one. -/
def State.comingList (s : State) (b : Nat) : List NetCell :=
  match (s.bank b).nextNet with
  | none => s.listOf b
  | some (base, n) =>
    let x := s.tile (engineTile (bankEngine b))
    (List.range n).map fun i =>
      let w := NetWord.parse (mget 0 x.pool (base + i))
      ⟨w.kind, w.row, w.string, w.neg, w.value⟩

/-- One confirmed cell of a live bank: a stuck entry in a new list while list and pool have room, else a rewrite (R138). -/
def State.absorbLive (s : State) (b : Nat) (c : FailedCell) : State :=
  let e := bankEngine b
  let t := engineTile e
  let k := s.bank b
  let cell : StuckEntry := ⟨b, c.row, c.string, c.excess, 1, 4, s.svc.minutes⟩
  let a : Absorbed := (⟨s.comingList b, false, []⟩ : Absorbed).cell k.contents.set (k.contents.code c.row.val c.string.val) 256 cell
  let s0 := s.setBank b { k with nextNet := none }
  match a.full, s0.poolFree t 8388608 a.list.length with
  | false, some at' =>
    ((s0.modTile t fun x => x.putList at' a.list).modBank b fun k => { k with nextNet := some (at', a.list.length) }).setStuckState
      cell 1
  | _, _ => (s.modEngine e fun g => g.addTask (.absorb b)).event 0x2035 (bankHandle b)

/-! ### Drift scans (R135, R141, R142) -/

/-- Cells that both measurements find stuck: beyond 0.75 level at 16 repeats and beyond 1.0 level at 64 (R135). -/
def Scan.confirmed (x : Scan) (k : Contents) : List FailedCell :=
  ((List.range x.again.length).zip x.again).flatMap fun q => (List.range 256).filterMap fun j =>
    let total := sumAt x.sums64 q.1 j
    if 3 / 4 < absRat (k.delta q.2 j (sumAt x.sums q.2 j) 16) ∧ 1 < absRat (k.delta q.2 j total 64) then
      some ⟨Fin.ofNat 128 q.2, Fin.ofNat 256 j, k.flatExcess q.2 j total 64⟩
    else none

/-- Of the cells that a scan confirms, those that neither the map holds nor a stuck entry corrects. -/
def State.newlyStuck (s : State) (b : Nat) (cells : List FailedCell) : List FailedCell :=
  cells.filter fun c => !((s.stuckOf b).any fun e => decide (e.row = c.row) && decide (e.string = c.string)) &&
    !((s.comingList b).any fun n => decide (n.kind = 1) && n.atCell c.row.val c.string.val)

/-- Mean of δ over the cells of a code that are not stuck, where at least 64 of them are held (R141). -/
def Scan.meanDrift (x : Scan) (k : Contents) (stuck : Nat → Nat → Bool) (c : Nat) : Rat :=
  let cells := (List.range 256).flatMap fun j => ((List.range 128).filter fun i => decide (k.code i j = c) && !stuck i j).map fun i => (i, j)
  if cells.length < 64 then 0
  else sumOf (cells.map fun q => k.delta q.1 q.2 (sumAt x.sums q.1 q.2) 16) / (cells.length : Rat)

/-- Block drift D, in levels (R141). -/
def Scan.drift (x : Scan) (k : Contents) (stuck : Nat → Nat → Bool) : Rat :=
  maxRat ((codesOf k.set).map fun c => absRat (x.meanDrift k stuck c))

/-- 180 days in operating minutes. -/
def refreshAge : Nat := 259200

/-- A drift refresh is queued once (R142). -/
def State.queueRefresh (s : State) (b : Nat) : State :=
  if (s.bank b).refreshQueued then s
  else ((s.modBank b fun k => { k with refreshQueued := true }).modEngine (bankEngine b) fun g =>
    g.addTask (.refresh b)).event 0x2034 (bankHandle b)

/-- A new stuck cell of a ready or pending bank enters the map and cancels the flip set of the bank at once (R160). -/
def State.scanWaiting (s : State) (b : Nat) (cells : List FailedCell) : State :=
  let new := s.newlyStuck b cells
  match new, (s.bank b).fset with
  | _ :: _, some j => ((forAll new (fun s c => s.recordStuck b c 1) s).cancelSet j.val).startLanes
  | _, _ => s

/-- A scan of a live bank ends: its stuck cells are absorbed, its drift and its age decide on a refresh (R138, R142). -/
def State.scanLive (s : State) (b : Nat) (cells : List FailedCell) (drift : Rat) : State :=
  let s1 := forAll (s.newlyStuck b cells) (fun s c => (s.recordStuck b c 1).absorbLive b c) s
  let s2 := if 1 / 2 < drift then s1.modBank b fun k => { k with driftB := true } else s1
  let s3 := s2.evalClass (2 * (b / 2))
  if 1 / 4 < drift ∨ refreshAge ≤ s.svc.minutes - (s.bank b).writtenMinute then s3.queueRefresh b else s3

/-- A bank that a scan reads: live, or ready or pending in a flip set, of which a scan only confirms stuck cells. -/
def BankState.scanned : BankState → Bool
  | .live => true
  | .ready => true
  | .pending => true
  | _ => false

/-- The measurements of a scan are evaluated. -/
def State.finishScan (s : State) (x : Scan) : State :=
  let k := s.bank x.bank
  let stuck : Nat → Nat → Bool := fun i j => (s.stuckOf x.bank).any fun e => decide (e.row.val = i) && decide (e.string.val = j)
  let cells := x.confirmed k.contents
  if k.state = .live then s.scanLive x.bank cells (x.drift k.contents stuck) else s.scanWaiting x.bank cells

/-- DRIFT_SCAN of a bank begins a scan, whose measurements free slots then take; once they are taken, it ends the scan. An engine
has one scan at a time. -/
def execDriftScan (bank : Fin 8388608) (s : State) : Host.Outcome State Fault Refusal :=
  .next (
    let b := bank.val
    let e := bankEngine b
    if !s.maintains e || !(s.bank b).state.scanned then s else
    match (s.engine e).scan with
    | none => s.modEngine e fun g => { g with scan := some (Scan.start b) }
    | some x =>
      if x.bank = b then
        if x.taken < x.total then s else (s.modEngine e fun g => { g with scan := none }).finishScan x
      else if (s.bank x.bank).state.scanned then s
      else s.modEngine e fun g => { g with scan := some (Scan.start b) })

/-! ### Drift refresh, and absorption by rewrite (R138, R143, R154) -/

/-- The other bank of the same array. -/
def otherBank (b : Nat) : Nat := b / 2 * 2 + (1 - b % 2)

/-- The rewrite of a bank that is served next, absorption before refresh (R125). -/
def Engine.nextRewrite (g : Engine) (b : Nat) : Option Task :=
  [Task.absorb b, Task.refresh b].find? fun t => g.tasks.contains t && !g.begun.contains t && g.serves t

/-- DRIFT_REFRESH: the waiting rewrite of a live bank goes into the other bank of its array, from the record that the bank was
written from, as one flip set. It stays a task until the flip. A worn other bank blocks it. It waits for a free flip set, for the
other bank, for a set that holds its block, and in the error state. -/
def execDriftRefresh (bank : Fin 8388608) (s : State) : Host.Outcome State Fault Refusal :=
  .next (
    let b := bank.val
    let e := bankEngine b
    let k := s.bank b
    let o := otherBank b
    if !s.maintains e || decide (s.sec.state = .error) || decide (k.state ≠ .live) || s.setBlocks.contains (engineHandle e, k.block)
    then s
    else match (s.engine e).nextRewrite b with
    | none => s
    | some t =>
      if (s.bank o).worn then
        ((s.modBank b fun k => { k with blocked := true }).modEngine e fun g => g.dropRewrites b).event 0x8014
          (arrayHandle e (b % 2048 / 2))
      else match s.freeSet, s.sourceOf b with
        | some j, some r =>
          if !s.bankQualifies false o then s else
          let f : FlipSet := { FlipSet.none with used := true, refresh := true, bindings := [(e, k.block, o, true)] }
          (((s.modEngine e fun g => { g with begun := g.begun ++ [t] }).setFlip j f).queueWrites j [(o, r)]).finishSet j
        | _, _ => s)

/-! ### Calibration (R116, R121 to R124, R128) -/

/-- Banks of an engine that carry a live block. -/
def State.liveBanks (s : State) (e : EngineId) : List Nat :=
  (s.engineBanks e).filter fun b => decide ((s.bank b).state = .live)

/-- PERIODIC_RECALIBRATION: the engine parts and the array parts in use of an engine are due. -/
def execPeriodicRecalibration (e : EngineId) (s : State) : Host.Outcome State Fault Refusal :=
  .next (
    if !s.maintains e then s else
    s.modEngine e fun g => (s.liveBanks e).foldl (fun g b => g.addTask (.recalBank b)) (g.addTask .recalEngine))

/-- Junction temperature of a die in whole degrees, as records keep it. -/
def State.recordTemp (s : State) (d : DieId) : Int := (s.chan (d.val + 1)).tj / 4

/-- The engine part that a finished calibration writes, under a new generation (R121, R123). -/
def State.measuredPart (s : State) (e : EngineId) (c : Calib) : EnginePart :=
  let g := s.engine e
  let old := mget EnginePart.nominal g.nextParts c.band
  let cur := mget EnginePart.nominal g.parts c.band
  let js := (List.range 256).zip c.fits
  ⟨true, s.recordTemp (engineDie e), s.svc.minutes, (if old.valid then old.generation else cur.generation) + 1,
    js.map fun q => s.fitGain q.1 q.2, js.map fun q => s.fitOffset q.1 q.2⟩

/-- The calibration of an engine's parts goes on with the next band, and ends with band 3. One that R128 asked for counts. -/
def Engine.endPart (g : Engine) (c : Calib) (now : Nat) : Engine :=
  if c.band < 3 then { g with cal := some { c with band := c.band + 1, taken := 0, fits := List.replicate 256 FitSum.zero } }
  else
    let g1 := { g with cal := none, tasks := g.tasks.erase c.task }
    if g.missRecal then { g1 with missRecal := false, recalRuns := g.recalRuns + 1, recalAt := now, misses := [] } else g1

/-- The array part that a finished calibration writes (R121). -/
def State.measuredArray (s : State) (b : Nat) (c : Calib) : ArrayPart :=
  ⟨s.fitZ (c.fits.getD 0 FitSum.zero), c.band, true, s.recordTemp (bankDie b), s.svc.minutes⟩

/-- The calibration of a bank ends. A bank just written becomes ready with its part; the part of any other takes effect at the next
frame boundary (R123, R150). -/
def State.endArray (s : State) (e : EngineId) (b : Nat) (c : Calib) : State :=
  let part := s.measuredArray b c
  let s1 := s.modEngine e fun g => { g with cal := none, tasks := g.tasks.erase c.task }
  if c.task = .fresh b ∧ (s.bank b).state = .writing then
    let s2 := s1.modBank b fun k => { k with state := .ready, part := part }
    match (s.bank b).fset with
    | some j => s2.finishSet j.val
    | none => s2
  else s1.modBank b fun k => { k with nextPart := some part }

/-- Some line of the calibration has no slope. -/
def Calib.open? (c : Calib) : Bool := c.fits.any fun f => f.slope?.isNone

/-- CALIBRATION_COMPLETE: once the measurements of the engine's calibration are taken, its part is written (R121, R123). -/
def execCalibrationComplete (e : EngineId) (s : State) : Host.Outcome State Fault Refusal :=
  .next (
    match (s.engine e).cal with
    | none => s
    | some c =>
      if !s.maintains e || decide (c.taken < c.total) then s else
      let s1 := match c.bank with
        | some b => s.endArray e b c
        | none => s.modEngine e fun g =>
            { g with nextParts := mset EnginePart.nominal g.nextParts c.band (s.measuredPart e c) }.endPart c (s.slotClock e)
      if c.open? then s1.takeFree else s1)

/-- The miss rate persists: the first of its 17 misses lies within one second of the last re-calibration for it (DESIGN CHOICE, log 99: R128
gives no time for which the rate must persist). -/
def Engine.persists (g : Engine) : Bool := decide (0 < g.recalRuns) && decide (g.misses.getLastD 0 ≤ g.recalAt + 800000000)

/-- STRONGMAN_MISS_LIMIT: more than 16 misses of an engine on its reference arrays within one second. When the rate persists after
two re-calibrations, the die is marked out, cause 2 (R128). -/
def execStrongmanMissLimit (e : EngineId) (s : State) : Host.Outcome State Fault Refusal :=
  .next (
    let g := s.engine e
    let now := s.slotClock e
    if !s.awake || !s.dieIn (engineDie e) || decide ((g.misses.filter fun t => decide (now < t + 800000000)).length ≤ 16) then s else
    let s1 := (s.event 0x2032 (engineHandle e)).setEngine e { g with misses := [] }
    let runs := if g.persists then g.recalRuns else 0
    if 2 ≤ runs then s1.markOut (engineDie e) 2
    else s1.modEngine e fun g => { g with recalRuns := runs, missRecal := true }.addTask .recalEngine)

/-! ### Commands at 0x2400 and 0x2A00 (R506, R574, R575) -/

/-- The engine of a handle is in service. -/
def State.handleIn (s : State) (h : Handle) : Bool :=
  match Handle.inEngine? h with
  | some e => s.dieIn (engineDie e)
  | none => false

/-- QUEUE_RECALIBRATION: an engine or array handle at 0x2400:06. -/
def execQueueRecalibration (c : Channel) (h : Handle) (s : State) : Host.Outcome State Fault Refusal :=
  .next (s.request c [
      (!Handle.physValid h || !(decide (Handle.kind h = 4) || decide (Handle.kind h = 5)), 0x06090030),
      (!s.handleIn h, 0x08000022)] fun s =>
    match Handle.inEngine? h with
    | none => s
    | some e =>
      if Handle.kind h = 4 then s.modEngine e fun g => g.addTask .recalEngine
      else
        let x := e.val * 2048 + 2 * Handle.arrayField h
        let live := [x, x + 1].filter fun b => decide ((s.bank b).state = .live)
        s.modEngine e fun g => live.foldl (fun g b => g.addTask (.recalBank b)) g)

/-- A stuck map entry as R136 lays it out. -/
def StuckEntry.bytes (e : StuckEntry) : List Byte :=
  leBytes 4 (bankHandle e.bank).toNat ++ leBytes 1 e.row.val ++ leBytes 1 e.string.val ++ leBytes 2 (uint 16 e.excess) ++
    leBytes 1 e.found ++ leBytes 1 e.state ++ leBytes 2 0 ++ leBytes 4 e.time

/-- STUCK_MAP_READ: the entry that the selectors name; the read advances 0x2400:02 by 1. -/
def execStuckMapRead (c : Channel) (s : State) : Host.Outcome State Fault Refusal :=
  let d : DieId := Fin.ofNat 16 (s.accepted 0x240001 - 1)
  let k := s.accepted 0x240002
  let e := (s.die d).stuck[k]?
  .next (s.fetch c [(e.isNone, 0x08000024)] (match e with
      | some x => x.bytes
      | none => []) fun s => s.acceptSetting 0x240002 ((k + 1) % 0x100000000))

/-- STRONGMAN_RUN: vectors V0 to V7 run once on an engine, in free slots ahead of the filler (R574). -/
def execStrongmanRun (c : Channel) (h : Handle) (s : State) : Host.Outcome State Fault Refusal :=
  .next (s.request c [
      (!Handle.physValid h || decide (Handle.kind h ≠ 4) || (Handle.engine? h).isNone, 0x06090030),
      (!s.awake || !s.handleIn h, 0x08000022)] fun s =>
    match Handle.engine? h with
    | none => s
    | some e => s.modEngine e fun g => { g with run := some ⟨0, 0, 0⟩ })

end Sys2Proof.Machine
end

