-- ==== Sys2Proof/Machine/PowerOps.lean ====
section
/-!
DEFINITION. Power, current and heat (spec/14): the estimator, measurement and fitting, disagreement and failure, bins and the
budget, the fortune teller's limits, the current guard, and temperature.
-/
namespace Sys2Proof.Machine

def State.setChannel (s : State) (ch : Nat) (c : Chan) : State :=
  { s with pwr := { s.pwr with chans := mset Chan.init s.pwr.chans ch c } }
def State.modChannel (s : State) (ch : Nat) (f : Chan → Chan) : State := s.setChannel ch (f (s.channel ch))

/-- Handle of a regulator channel in an event (R418). -/
def channelHandle (ch : Nat) : Handle :=
  if ch = 0 then hubHandle else if ch ≤ 16 then dieHandle (Fin.ofNat 16 (ch - 1)) else deviceHandle

def allChannels : List Nat := List.range 18

/-- Power is drawn and counted: in Run, Idle and Doze. -/
def State.powered (s : State) : Bool := decide (s.power ≠ .off)

/-! ### Estimator (R391) -/

def addCounts (xs ys : List Nat) : List Nat := (List.range 15).map fun k => xs.getD k 0 + ys.getD k 0

/-- One 1 µs interval of a channel. The energy of R394 is estimated without the factor that disagreement puts on the estimate. -/
def State.estimate (s : State) (acts : List Activity) (ch : Nat) : State :=
  let counts := match acts.find? fun a => decide (a.channel.val = ch) with
    | some a => a.counts
    | none => []
  let b := s.chanBand ch
  s.modChannel ch fun c =>
    let raw := c.power ch b counts
    { c with
      estimate := raw * c.factor, eEst := c.eEst + raw / 1000
      lastCounts := addCounts c.lastCounts counts, ticks := c.ticks + 1 }

/-- The occurrences under way take the interval (R399). -/
def State.observeInterval (s : State) : State :=
  let es := allChannels.map fun ch => (s.channel ch).estimate
  forAll (s.tiles.map fun p => Fin.ofNat 256 p.1) (fun s (t : TileId) =>
    if (s.tile t).hintPhase.isNone then s else
    let o := mget Occ.zero s.pwr.occ t.val
    let o1 : Occ := { o with
      ticks := o.ticks + 1, sums := allChannels.map fun ch => o.sums.getD ch 0 + es.getD ch 0
      peaks := allChannels.map fun ch => maxRat [o.peaks.getD ch 0, es.getD ch 0]
      band := max o.band (maxOf (s.diesIn.map s.loadBand)) }
    { s with pwr := { s.pwr with occ := mset Occ.zero s.pwr.occ t.val o1 } }) s

/-! ### Current guard (R405) -/

/-- The lowest limit of any in-service die, N_cur included. -/
def State.lowestLimit (s : State) : Nat :=
  (s.diesIn.map fun d => let x := s.die d; min (min x.nFt x.nTh) x.nDr).foldl min s.pwr.nCur

/-- N_cur takes a lower value; its event is raised when it first falls below 16 in a frame. -/
def State.lowerCurrent (s : State) (n : Nat) : State :=
  let first := decide (s.pwr.nCur = 16) && decide (n < 16) && !s.pwr.nCurEvent
  let s1 := { s with pwr := { s.pwr with nCur := n, nCurEvent := s.pwr.nCurEvent || first } }
  if first then s1.event 0x1012 deviceHandle else s1

/-- The input current limit in A. -/
def State.currentLimit (s : State) : Rat := (s.setting 0x210003 : Rat) / 4

/-- Estimated VIN current in A. -/
def State.estimatedCurrent (s : State) : Rat :=
  sumRat (allChannels.map fun ch => (s.channel ch).estimate) / (s.pwr.vinMv : Rat)

/-- The guard after an interval's estimate. -/
def State.guardEstimate (s : State) : State :=
  let n := s.lowestLimit
  if s.awake && decide (s.currentLimit < s.estimatedCurrent) then
    ({ s with pwr := { s.pwr with curBase := some n } }).lowerCurrent (max 1 (n - 2))
  else { s with pwr := { s.pwr with curBase := none } }

/-! ### The sideshow floor (R408, R409) -/

/-- P_pk of a die: the largest peak among the learned entries, else full issue at band 3. -/
def State.scheduledPeak (s : State) (d : DieId) : Rat :=
  let ps := s.pwr.phases.filter fun p => p.2.learned && !p.2.host
  if ps.isEmpty then s.fullPower d else maxRat (ps.map fun p => milliOf (p.2.peak.getD (d.val + 1) 0))

/-- A programme start is due within 50 µs: the frame turnstile is complete. -/
def State.startDue (s : State) : Bool :=
  decide (s.power = .run) && (mget Ts.zero s.globals.ts s.frameTs.toNat).done &&
    decide (s.frame.start + 800 * s.frame.period ≤ s.now + 40000)

/-- The applied floor moves toward its target by 1/50 of f × P_pk in each 1 µs. -/
def State.moveFloor (s : State) (d : DieId) : State :=
  let full := s.scheduledPeak d * (s.setting 0x210005 : Rat) / 100
  let wants := ((dieTiles d).any fun t => (s.tile t).running) || s.startDue
  let target := if wants then full.floor.toNat else 0
  let step := (full / 50).ceil.toNat
  s.modDie d fun x => { x with floorMilliW :=
    if x.floorMilliW < target then min target (x.floorMilliW + step) else max target (x.floorMilliW - step) }

/-- ESTIMATOR_TICK: a 1 µs interval ends. -/
def execEstimatorTick (acts : List Activity) (s : State) : Host.Outcome State Fault Refusal :=
  .next (
    if !s.powered then s else
    let s1 := allChannels.foldl (fun s ch => s.estimate acts ch) s
    let s2 := s1.observeInterval.guardEstimate
    if s2.awake then forAll (s2.diesIn.filter fun d => (s2.die d).powered) State.moveFloor s2 else s2)

/-- CURRENT_LIMIT_RISE: 50 µs with both figures below 95% of the limit have passed. -/
def execCurrentLimitRise (s : State) : Host.Outcome State Fault Refusal :=
  .next (
    if !s.awake || decide (16 ≤ s.pwr.nCur) || decide (s.currentLimit * 95 / 100 ≤ s.estimatedCurrent) then s
    else { s with pwr := { s.pwr with nCur := s.pwr.nCur + 1 } })

/-! ### Measurement and fitting (R392, R393, R395) -/

/-- The band that held for the most slots, the higher one on a tie. -/
def updatedBand (ticks : List Nat) : Nat :=
  (List.range 4).foldl (fun m k => if ticks.getD m 0 ≤ ticks.getD k 0 then k else m) 0

/-- One step of normalised least mean squares, with a step of 1/256, on coefficients and leakage. `x` are the mean counts per
1 µs, `l` the leakage factor, `e` the error in mW. -/
def Chan.learn (c : Chan) (ch b : Nat) (x : List Rat) (l e : Rat) : Chan :=
  let norm := sumRat (x.map fun v => v * v) + l * l
  if norm = 0 then c else
  let gain := e / (256 * norm)
  let old := c.learned ch b
  { c with
    coeff := mset [] c.coeff b ((List.range 15).map fun k => old.getD k 0 + gain * x.getD k 0)
    leak := some (c.leakage ch + gain * l) }

/-- The fit record of a band: intervals, and the last 2,000 relative errors, newest first. -/
def Chan.recordFit (c : Chan) (b : Nat) (err : Rat) : Chan :=
  let r := mget (0, []) c.fitRuns b
  let errs := (err :: r.2).take 2000
  let n := r.1 + 1
  let fit := decide (2000 ≤ n) && decide (sumRat errs < 100)
  { c with
    fitRuns := mset (0, []) c.fitRuns b (n, errs)
    fitted := if fit && !c.fitted.contains b then c.fitted ++ [b] else c.fitted }

/-- The next 10 µs interval begins. -/
def Chan.nextInterval (c : Chan) : Chan := { c with lastCounts := [], ticks := 0, bandTicks := [] }

/-- A 10 µs interval ends for a channel with a measured power in mW. The error of a band is that of its own coefficients, without
the factor 1.10 of a band that is not fitted. -/
def Chan.measure (c : Chan) (ch : Nat) (p : Rat) : Chan :=
  let n : Rat := max 1 c.ticks
  let b := updatedBand c.bandTicks
  let x := (List.range 15).map fun k => (c.lastCounts.getD k 0 : Rat) / n
  let l := Config.leakFactor c.tj
  let old := c.learned ch b
  let model := sumRat ((List.range 15).map fun k => old.getD k 0 * x.getD k 0) + c.leakage ch * l
  let c1 : Chan := { c with measured := p, eMeas := c.eMeas + p / 100 }
  let c2 := if c.disagree || c.failed || decide (c.ticks = 0) then c1
    else
      let err := if p = 0 then 0 else (if model < p then p - model else model - p) / p
      (c1.learn ch b x l (p - model)).recordFit b err
  c2.nextInterval

/-- A measurement fails: event 0x1015 (R395). -/
def State.failChannel (s : State) (ch : Nat) : State :=
  if (s.channel ch).failed then s
  else (s.modChannel ch fun c => { c with failed := true }).event 0x1015 (channelHandle ch)

/-- One regulator report. A sample outside 0 to 150 W fails the measurement; without a valid sample the last power stands for
the interval. -/
def State.report (s : State) (r : RegReport) : State :=
  let ch := r.channel.val
  let p : Rat := (r.milliVolts * r.milliAmps : Nat) / 1000
  if !r.valid then s.modChannel ch fun c => { c.nextInterval with eMeas := c.eMeas + c.measured / 100 }
  else if 150000 < p then (s.failChannel ch).modChannel ch Chan.nextInterval
  else s.modChannel ch fun c => c.measure ch p

/-- Target power in mW (R396). -/
def State.newTarget (s : State) : Rat :=
  let t1 := s.cap1 + (s.cap1 * 1000 - s.pwr.binSum 1000 s.cap1) / 100
  let t10 := s.cap10 + (s.cap10 * 10000 - s.pwr.binSum 10000 s.cap10) / 1000
  if t1 ≤ t10 then (if t1 ≤ 200000 then t1 else 200000) else if t10 ≤ 200000 then t10 else 200000

/-- The guard after a measurement: in an interval whose estimate lowered N_cur already, the limit before that counts. -/
def State.guardMeasured (s : State) (amps : Rat) : State :=
  if s.awake && decide (s.currentLimit < amps) then
    s.lowerCurrent (min s.pwr.nCur (max 1 (s.pwr.curBase.getD s.lowestLimit - 4)))
  else s

/-- MEASUREMENT_SAMPLE: the reports of a 10 µs interval. -/
def execMeasurementSample (reports : List RegReport) (s : State) : Host.Outcome State Fault Refusal :=
  .next (
    if !s.powered then s else
    let good := reports.filter fun r => r.valid
    let s0 := match good.head? with
      | some r => { s with pwr := { s.pwr with vinMv := r.milliVolts } }
      | none => s
    let s1 := reports.foldl State.report s0
    let s2 := if good.isEmpty then s1
      else s1.guardMeasured (((good.map fun r => r.milliAmps).foldl (· + ·) 0 : Nat) / 1000)
    { s2 with pwr := { s2.pwr with target := s2.newTarget } })

/-- MEASUREMENT_FAIL. -/
def execMeasurementFail (channel : Fin 18) (s : State) : Host.Outcome State Fault Refusal :=
  .next (if s.powered then s.failChannel channel.val else s)

/-- MEASUREMENT_RESTORE: 100 ms of valid samples. The count of R394 starts again from 0. -/
def execMeasurementRestore (channel : Fin 18) (s : State) : Host.Outcome State Fault Refusal :=
  .next (
    if !s.powered || !(s.channel channel.val).failed then s
    else (s.modChannel channel.val fun c => { c with failed := false, badBins := 0, goodBins := 0 }).event 0x1016 (channelHandle channel.val))

/-- COEFFICIENT_SAVE (R393). -/
def execCoefficientSave (s : State) : Host.Outcome State Fault Refusal :=
  .next (if s.powered then { s with svc := { s.svc with savedCoeff := s.pwr.chans } } else s)

/-! ### Bins (R394 to R397, R416) -/

/-- The energy of a channel for the budget, and how much of it comes from an estimate. -/
def Chan.energy (c : Chan) : Rat × Rat :=
  if c.failed then (c.eEst * 115 / 100, c.eEst * 115 / 100)
  else if c.disagree && decide (c.eMeas < c.eEst) then (c.eEst, c.eEst)
  else (c.eMeas, 0)

/-- The disagreement state after a millisecond: the channel and the event it raises, if any. -/
def Chan.compare (c : Chan) : Chan × Option W16 :=
  let diff := absRat (c.eEst - c.eMeas)
  if c.failed then (c, none)
  else if c.disagree then
    let good := if diff ≤ c.eMeas * 5 / 100 then c.goodBins + 1 else 0
    let factor := if c.eEst = 0 then 1 else maxRat [1, c.eMeas / c.eEst]
    if 1000 ≤ good then ({ c with disagree := false, goodBins := 0, badBins := 0, factor := 1 }, some 0x1014)
    else ({ c with goodBins := good, factor := factor }, none)
  else
    let bad := if c.eMeas * 20 / 100 < diff then c.badBins + 1 else 0
    if 8 ≤ bad then
      ({ c with disagree := true, badBins := 0, goodBins := 0
                factor := if c.eEst = 0 then 1 else maxRat [1, c.eMeas / c.eEst] }, some 0x1013)
    else ({ c with badBins := bad }, none)

/-- The bin of a channel closes. -/
def State.closeChannel (s : State) (ch : Nat) : State :=
  let c := s.channel ch
  let (c1, ev) := c.compare
  let s1 := s.setChannel ch { c1 with lastBin := c1.energy.1, eEst := 0, eMeas := 0 }
  match ev with
  | some code => s1.event code (channelHandle ch)
  | none => s1

/-- The 5 °C band of the thermal history (R441). -/
def heatBand (tj : Int) : Nat := min 27 ((tj + 80) / 20).toNat

/-- An operating minute (R441): minutes by power state, thermal history, and minutes in class B. -/
def State.minute (s : State) : State :=
  let k := s.power.code - 1
  let thermal := (List.range 17).foldl (fun m ch => mmod 0 m (28 * ch + heatBand (s.chan ch).tj) (· + 1)) s.pwr.thermalMinutes
  let s1 := { s with
    svc := { s.svc with
      minutes := s.svc.minutes + 1, minutesIn := s.svc.minutesIn.set k (s.svc.minutesIn.getD k 0 + 1) }
    pwr := { s.pwr with thermalMinutes := thermal } }
  forAll allDies (fun s d =>
    if s.banks.any fun p => p.2.classB && decide (bankDie p.1 = d) then
      s.modDie d fun x => { x with classBMinutes := x.classBMinutes + 1 }
    else s) s1

/-- The part of a channel's bin that comes from an estimate. -/
def Chan.estimatedPart (c : Chan) : Rat :=
  let c1 : Chan := { c with disagree := c.compare.1.disagree }
  c1.energy.2

/-- The bins and the energy counters take the energy of a millisecond. -/
def State.addBin (s : State) (total part : Rat) : State :=
  { s with
    pwr := { s.pwr with
      bins := (total :: s.pwr.bins).take 10000
      energy := s.pwr.energy + total.floor.toNat, energyEst := s.pwr.energyEst + part.floor.toNat }
    svc := { s.svc with millis := (s.svc.millis + 1) % 60000 } }

/-- A window average lies more than 2% above its cap (R397). -/
def State.overBudget (s : State) : Bool :=
  decide (s.cap1 * 1020 < s.pwr.binSum 1000 s.cap1) || decide (s.cap10 * 10200 < s.pwr.binSum 10000 s.cap10)

/-- ENERGY_BIN: a millisecond ends. -/
def execEnergyBin (s : State) : Host.Outcome State Fault Refusal :=
  .next (
    if !s.powered then s else
    let part := sumRat (allChannels.map fun ch => (s.channel ch).estimatedPart)
    let s1 := allChannels.foldl State.closeChannel s
    let total := sumRat (allChannels.map fun ch => (s1.channel ch).lastBin)
    let s2 := s1.addBin total part
    let s3 := if s2.awake && s2.overBudget then s2.event 0x1011 deviceHandle else s2
    if s3.svc.millis = 0 then s3.minute else s3)

/-! ### The fortune teller (R400 to R402) -/

/-- PHASE_LIMIT_COMPUTE: the limit of a phase on a die, ahead of it and again every 10 µs while it is active. -/
def execPhaseLimitCompute (d : DieId) (phase : Byte) (s : State) : Host.Outcome State Fault Refusal :=
  .next (
    if !s.awake || !s.dieIn d then s else
    let (n, ok) := s.phaseLimit d phase.toNat
    let s1 := s.modDie d fun x => { x with limits := mset 0 x.limits phase.toNat n }
    let s2 := if ok then s1 else s1.event 0x1010 (dieHandle d)
    if (s2.activePhases d).contains phase.toNat then s2.applyFt d else s2)

/-! ### Heat (R412 to R414) -/

/-- Insertion of a reading in rising order. -/
def insertInt (x : Int) : List Int → List Int
  | [] => [x]
  | y :: ys => if x ≤ y then x :: y :: ys else y :: insertInt x ys

/-- Twice the median. -/
def median2 (xs : List Int) : Int :=
  let ys := xs.foldr insertInt []
  let n := ys.length
  ys.getD ((n - 1) / 2) 0 + ys.getD (n / 2) 0

/-- Readings in 1/4 °C that are valid: in range and within 20 °C of the median of the die. -/
def validReadings (xs : List Int) : List Int :=
  let ranged := xs.filter fun x => decide (-160 ≤ x) && decide (x ≤ 600)
  ranged.filter fun x => decide ((2 * x - median2 xs).natAbs ≤ 160)

/-- Tj of a die from its valid readings (R413). -/
def junction (valid : List Int) : Int :=
  match valid with
  | [] => 416
  | [x] => max 416 x
  | x :: xs => xs.foldl max x

/-- The table Thermal issue limit. -/
def thermalLimit (tj : Int) : Nat :=
  if tj < 400 then 16 else if tj < 408 then 12 else if tj < 416 then 10 else if tj < 424 then 8
  else if tj < 440 then 4 else if tj < 456 then 2 else 1

/-- Threshold of the row of a limit, and the limit of the next lower row. -/
def thermalRow (n : Nat) : Int × Nat :=
  if n = 12 then (400, 16) else if n = 10 then (408, 12) else if n = 8 then (416, 10) else if n = 4 then (424, 8)
  else if n = 2 then (440, 4) else if n = 1 then (456, 2) else (10000, 16)

/-- N_th after a sample: the die, and the event it raises. `cap` is 4 while fewer than 2 sensors are valid. -/
def Die.heat (x : Die) (now : Nat) (tj : Int) (cap : Nat) : Die × Option W16 :=
  let cur := x.nextTh.getD x.nTh
  let want := min cap (thermalLimit tj)
  if want < cur then
    ({ x with nextTh := some want, thStood := now }, if cur = 16 then some 0x1030 else none)
  else
    let (thr, up) := thermalRow cur
    if cur < 16 ∧ up ≤ cap ∧ x.thStood + 800000 ≤ now ∧ tj ≤ thr - 8 then
      ({ x with nextTh := some up, thStood := now }, if up = 16 then some 0x1032 else none)
    else (x, none)

/-- The thermal limit of a die in service, from its own Tj and the hub's. -/
def State.heatDie (s : State) (d : DieId) : State :=
  let c := s.channel (d.val + 1)
  let cap := if c.sensorsValid < 2 then 4 else 16
  let (x, ev) := (s.die d).heat s.now (max c.tj (s.channel 0).tj) cap
  let s1 := s.setDie d x
  match ev with
  | some code => s1.event code (dieHandle d)
  | none => s1

/-- The temperature band with its 3 °C of hysteresis (R412). -/
def nextBand (b : Nat) (tj : Int) : Nat :=
  let up := if tj < 160 then 0 else if tj < 340 then 1 else 2
  if b ≤ up then up
  else if b = 2 then (if tj ≤ 328 then (if tj ≤ 148 then 0 else 1) else 2)
  else if tj ≤ 148 then 0 else b

/-- A new Tj of the hub acts on every die in service; the hold time of their limits is counted from the return of the hub's
sensors (R413, R414). -/
def State.heatFromHub (s : State) (back : Bool) (tj : Int) : State :=
  let s1 := { s with pwr := { s.pwr with hubBand := nextBand s.pwr.hubBand tj } }
  let s2 := if back then forAll s1.diesIn (fun s d => s.modDie d fun x => { x with thStood := s.now }) s1 else s1
  forAll s2.diesIn State.heatDie s2

/-- SENSOR_SAMPLE of a die, in 1/4 °C: 17 readings of a weight die, 8 of the hub. -/
def execSensorSample (channel : Fin 17) (readings : List Int) (s : State) : Host.Outcome State Fault Refusal :=
  .next (
    if !s.awake then s else
    let ch := channel.val
    let valid := validReadings readings
    let tj := junction valid
    let back := decide ((s.channel ch).sensorsValid < 2) && decide (2 ≤ valid.length)
    let s1 := s.modChannel ch fun c => { c with sensors := readings, sensorsValid := valid.length, tj := tj }
    let s2 := if valid.length < readings.length then s1.event 0x1033 (channelHandle ch) else s1
    let s3 := if 420 < tj then s2.event 0x1031 (channelHandle ch) else s2
    if ch = 0 then
      s3.heatFromHub back tj
    else
      let d : DieId := Fin.ofNat 16 (ch - 1)
      let s4 := s3.modDie d fun x => { x with
        tempBand := nextBand x.tempBand tj, thStood := if back then s3.now else x.thStood }
      if s4.dieIn d then s4.heatDie d else s4)

end Sys2Proof.Machine
end

