-- ==== Sys2Proof/Machine/Images.lean ====
section
/-!
DEFINITION. Weight images and plan sets (spec/04, spec/06): the checks of a load, both passes, restore, holding, arming and
cancelling of flip sets, and plan selection by the host.
-/
namespace Sys2Proof.Machine

/-! ### Checks of a block record (R71, R87 to R92, R130, R148, R164) -/

def rows4 (gs : Nat) : Nat := if gs = 0 then 4 else if gs = 1 then 2 else if gs = 2 then 1 else 0

/-- A positive, finite, normal FP32 value (R91). -/
def normalPositive (w : W32) : Bool := decide (0x00800000 ≤ w.toNat) && decide (w.toNat < 0x7F800000)

/-- Every code, tempo code, exponent and fine code lies in its range, and the calibration set exists (R163, R164). Of a
binary block the fine codes are 0, and the tempo codes are ignored (R86). -/
def recFieldsOk (r : BlockRecord) (nsets : Nat) : Bool :=
  let binary := decide (r.set = .binary)
  let top := if binary then 1 else 15
  decide (r.block < 2048) && decide (r.codes.length = 256) && (r.codes.all fun c => decide (c.length = 128) && c.all fun v => decide (v ≤ top)) &&
    decide (r.tempo.length = 256) && (r.tempo.all fun t => decide (t.length = 4) && t.all fun v => decide (v < 64)) &&
    decide (r.exponent.length = 256) && (r.exponent.all fun v => decide (v < 32)) &&
    decide (r.fine.length = 256) && (r.fine.all fun v => decide (v < 256) && (!binary || decide (v = 0))) &&
    decide (r.step.length = 256) &&
    (match r.calset with
    | some c => decide (c < nsets)
    | none => binary)

/-- Strings 2k and 2k + 1 of a pair block carry equal tempo codes, exponents and fine codes (R71, R89). -/
def recPairOk (r : BlockRecord) : Bool :=
  decide (r.set ≠ .pair8) || (List.range 128).all fun k =>
    decide (r.tempo[2 * k]? = r.tempo[2 * k + 1]?) && decide (r.exponent[2 * k]? = r.exponent[2 * k + 1]?) &&
      decide (r.fine[2 * k]? = r.fine[2 * k + 1]?)

/-- And equal output steps and scales (R164). -/
def recPairScalesOk (r : BlockRecord) : Bool :=
  decide (r.set ≠ .pair8) || (List.range 128).all fun k =>
    decide (r.step[2 * k]? = r.step[2 * k + 1]?) && decide (r.scales[2 * k]? = r.scales[2 * k + 1]?)

/-- One scale per group (R87). -/
def recGroupsOk (r : BlockRecord) : Bool :=
  if r.set = .binary then r.scales.isEmpty || r.scales.all List.isEmpty
  else decide (r.scales.length = 256) && r.scales.all fun g => decide (g.length = rows4 r.gs)

/-- The segments of one group carry equal tempo codes (R88). -/
def recTempoOk (r : BlockRecord) : Bool :=
  decide (r.set = .binary) || r.tempo.all fun t => (List.range 4).all fun k =>
    decide (t.getD k 0 = t.getD (k * rows4 r.gs / 4 * (4 / rows4 r.gs)) 0)

/-- The largest scale of a string is at most four times the smallest: a positive normal value times 4 has an exponent field
greater by 2 (R88). -/
def scalesSpreadOk (g : List W32) : Bool :=
  let xs := g.map BitVec.toNat
  xs.all fun a => xs.all fun b => decide (a ≤ b + 0x1000000)

/-- λ of R90 as a power of two. -/
def lambdaLog (set : LevelSet) : Int := if set = .pair8 then 7 else 3

/-- 2^(n / 8,192) in binary64. -/
def pow2Fine (n : Nat) : Nat :=
  (fp64.round false (expSeries (n % 8192 * ln2Fix / 8192) 64 0 (2 ^ 256) * 2 ^ (n / 8192)) (2 ^ 256)).bits

/-- Realised scale over learned scale in binary64 (R90, R92). The factors are multiplied in the order in which R90 writes them,
then divided by the learned scale, each result rounded to nearest; R92 does not give an order (DESIGN CHOICE, log 78). -/
def ratio64 (set : LevelSet) (step scale : W32) (x t q : Nat) : Nat :=
  let wide : W32 → Nat := fun w => (FpFmt.convert fp32 fp64 w.toNat).bits
  let base := (fp64.mul (fp64.ofInt (2 ^ (lambdaLog set).toNat : Nat)).bits (wide step)).bits
  let octave := (fp64.mul base (fp64.ofInt (2 ^ x : Nat)).bits).bits
  let tempo := (fp64.mul octave (fp64.div (pow2Fine (256 * t)) (fp64.ofInt 2).bits).bits).bits
  (fp64.div (fp64.mul tempo (pow2Fine q)).bits (wide scale)).bits

/-- The ratio lies within 1 ± 0.0055 (R92). -/
def ratioOk (set : LevelSet) (step scale : W32) (x t q : Nat) : Bool :=
  let r := ratio64 set step scale x t q
  fp64.le (fp64.round false 9945 10000).bits r && fp64.le r (fp64.round false 10055 10000).bits

/-- The first string that breaks R92. -/
def recRatioString (r : BlockRecord) : Option Nat :=
  if r.set = .binary then none
  else (List.range 256).find? fun j =>
    let g := r.scales.getD j []
    (List.range g.length).any fun k =>
      !ratioOk r.set (r.step.getD j 0) (g.getD k 0) (r.exponent.getD j 0) ((r.tempo.getD j []).getD (k * (4 / g.length)) 0)
        (r.fine.getD j 0)

/-- The outlier list of a record (R130). -/
def sortedNet : List NetEntry → Bool
  | a :: b :: es =>
    (decide (a.string.val < b.string.val) || (decide (a.string = b.string) && decide (a.row.val < b.row.val))) && sortedNet (b :: es)
  | _ => true

def recListOk (r : BlockRecord) : Bool :=
  decide (r.list.length ≤ 256) && (r.list.isEmpty || decide (r.set = .bell)) && sortedNet r.list &&
    r.list.all fun n => decide (n.kind = 0) && !n.neg && decide (-128 ≤ n.value) && decide (n.value ≤ 127)

/-- Why a record is refused: the cause, 0 for none, and the string concerned. Causes are counted in the order of R166. -/
def State.recordFlaw (s : State) (nsets : Nat) (r : BlockRecord) : Nat × Nat :=
  match Handle.engine? r.engine with
  | none => (5, 0)
  | some e =>
    if !s.dieIn (engineDie e) then (5, 0)
    else if !(recFieldsOk r nsets) then (14, 0)
    else if !(recPairOk r) then (7, 0)
    else if 3 < r.gs ∨ (r.gs = 3) ≠ (r.set = .binary) then (13, 0)
    else if !(recGroupsOk r) then (8, 0)
    else if !(recTempoOk r) then (9, 0)
    else if !(r.step.all normalPositive && r.scales.all fun g => g.all normalPositive) then (10, 0)
    else if !(r.scales.all scalesSpreadOk) then (9, 0)
    else match (recRatioString r) with
      | some j => (11, j)
      | none => if !(recListOk r) then (12, 0) else if !(recPairScalesOk r) then (14, 0) else (0, 0)

/-! ### Checks of an image (R166, R167) -/

/-- Engine and block of a record. -/
def recKey (r : BlockRecord) : Handle × Nat := (r.engine, r.block)

/-- Calibration sets hold 1 to 64 vectors of 128 signed 16-bit values (R165). -/
def setsOk (sets : List (List (List Int))) : Bool :=
  sets.all fun c => decide (1 ≤ c.length) && decide (c.length ≤ 64) &&
    c.all fun v => decide (v.length = 128) && v.all fun a => decide (-32768 ≤ a) && decide (a ≤ 32767)

/-- Checks on the image as a whole: cause, 0 for none. -/
def State.imageFlaw (s : State) (im : Image) (t : Trailer) : Nat :=
  if im.magic ≠ 0x49574841 ∨ im.major ≠ 1 ∨ 4 < im.minor then 1
  else if !s.trailerOk 3 t ∨ !im.extentsOk then 2
  else if !s.sec.imageKeys.contains im.keyId then 4
  else if !im.setTagsOk ∨ im.blocks.any fun r => !r.tagOk then 3
  else if !setsOk im.sets then 14
  else 0

/-- The first record that fails: cause, record index, string. -/
def State.firstFlaw (s : State) (im : Image) : Option (Nat × Nat × Nat) :=
  let keys := im.blocks.map recKey
  let busy := s.setBlocks
  ((List.range im.blocks.length).zip im.blocks).findSome? fun p =>
    let (c, j) := s.recordFlaw im.sets.length p.2
    if c ≠ 0 then some (c, p.1, j)
    else if (keys.take p.1).contains (recKey p.2) ∨ busy.contains (recKey p.2) then some (6, p.1, 0)
    else none

/-- A bank for every record; the index of the first record without one (R168). -/
def State.allocate (s : State) : Nat → List Nat → List BlockRecord → Nat ⊕ List (Nat × BlockRecord)
  | _, _, [] => .inr []
  | k, taken, r :: rs =>
    match Handle.engine? r.engine with
    | none => .inl k
    | some e =>
      match s.chooseBank taken e r.block with
      | none => .inl k
      | some b =>
        match s.allocate (k + 1) (taken ++ [b]) rs with
        | .inl n => .inl n
        | .inr ws => .inr ((b, r) :: ws)

/-! ### Loads -/

/-- A refused image: no bank is written (R91, R130, R166). The parameter of event 0x2022 holds block × 256 + string, with string 0 for
a cause that names none (DESIGN CHOICE, log 96: R92 says that the event names both, and not how). -/
def State.refuseImage (s : State) (im : Image) (cause index string : Nat) : State :=
  let s1 := if cause = 2 then s.event 0x6015 deviceHandle else s
  let r := im.blocks.getD index ⟨0, 0, .bell, 0, none, [], [], [], [], [], [], [], false, []⟩
  let s2 := if cause = 9 ∨ cause = 10 ∨ cause = 11 then s1.raise 0x2022 r.engine (eventParam 0 (r.block * 256 + string)) 0xFFFF
    else if cause = 12 then s1.event 0x2036 r.engine else s1
  let s3 := { s2 with weights := { s2.weights with status := 6, loadSet := none } }
  (s3.raise 0x8010 deviceHandle (openParam 0x8010 cause index) 0xFFFF).history 3 1 im.modelDigest

/-- Every record's digest equals that of the live bank that holds its block (R560). -/
def State.matchesLive (s : State) (im : Image) : Bool :=
  im.blocks.all fun r => match Handle.engine? r.engine with
    | none => false
    | some e => match s.boundBank e r.block with
      | some b => decide ((s.bank b).digest = residentDigest r)
      | none => false

/-- The block records with the vectors of their calibration sets, as the device keeps them (R165, R169). -/
def attachedRecords (im : Image) : List BlockRecord :=
  im.blocks.map fun r => { r with vectors := match r.calset with
    | some n => im.sets.getD n []
    | none => [] }

/-- A restore stores the resident records (R560). -/
def State.restoreCopy (s : State) (im : Image) : State :=
  let s1 := (attachedRecords im).foldl (fun (s : State) (r : BlockRecord) => match (Handle.engine? r.engine).bind fun e => s.boundBank e r.block with
    | some b => s.keepRecord b r
    | none => s) s
  ({ s1 with weights := { s1.weights with
      residentPresent := true, plansStale := false, status := 0, blocksWritten := 0 } }).moveDeviceBase.event 0x8033 deviceHandle

/-- The second pass: every block is written, as one flip set. -/
def State.writeImage (s : State) (im : Image) (hold : Bool) (j : Nat) (ws : List (Nat × BlockRecord)) : State :=
  let f : FlipSet := { FlipSet.none with
    used := true, image := im.modelDigest, bindings := ws.map fun w => (bankEngine w.1, w.2.block, w.1, true) }
  let s1 := s.setFlip j f
  let s2 := { s1 with weights := { s1.weights with
    status := 2, blocksWritten := 0, loadDigest := im.modelDigest, loadSet := some (Fin.ofNat 4 j), holdRequested := hold } }
  (s2.queueWrites j ws).finishSet j

/-- A load that finds no flip set unused is refused, as a cause of its own (DESIGN CHOICE, log 97: R166 lists no such check). With every check
passed: a load, or with `hold` false and a model digest equal to the live one, a restore. -/
def State.loadImage (s0 : State) (im : Image) (t : Trailer) (hold : Bool) : State :=
  let s := s0.breakLoop { s0 with weights := { s0.weights with status := 1 } }
  let c := s.imageFlaw im t
  if c ≠ 0 then s.refuseImage im c 0 0
  else match s.firstFlaw im with
    | some (c, k, j) => s.refuseImage im c k j
    | none =>
      if !hold && decide (im.modelDigest = s.weights.liveDigest) then
        if s.matchesLive im then s.restoreCopy im else s.refuseImage im 16 0 0
      else match s.allocate 0 [] (attachedRecords im) with
        | .inl k => s.refuseImage im 15 k 0
        | .inr ws =>
          match s.freeSet with
          | none => s.refuseImage im 17 0 0
          | some j => s.writeImage im hold j ws

/-- What every command at 0x2300:01 needs. -/
def State.imageChecks (s : State) (c : Channel) : List (Bool × W32) :=
  [s.notUser c, (!s.awake || decide (s.weights.status = 1) || decide (s.weights.status = 2), 0x08000022)]

/-- LOAD_IMAGE: 1 at 0x2300:01. -/
def execLoadImage (c : Channel) (image : Image) (trailer : Trailer) (s : State) : Host.Outcome State Fault Refusal :=
  .next (s.request c (s.imageChecks c) fun s => s.loadImage image trailer false)

/-- LOAD_IMAGE_HOLD: 2 at 0x2300:01. -/
def execLoadImageHold (c : Channel) (image : Image) (trailer : Trailer) (s : State) : Host.Outcome State Fault Refusal :=
  .next (s.request c (s.imageChecks c) fun s => s.loadImage image trailer true)

/-- The held set. -/
def State.heldSet (s : State) : Option Nat := (List.range 4).find? fun j => (s.flipSet j).held

/-- ARM_HELD_SET: 3 at 0x2300:01, with the container the set is tied to, if any (R159). -/
def execArmHeldSet (c : Channel) (container : Option (BitVec 384)) (s : State) : Host.Outcome State Fault Refusal :=
  .next (s.request c [s.notUser c, (s.heldSet.isNone, 0x08000022)] fun s =>
    match s.heldSet with
    | none => s
    | some j =>
      let s1 := (s.setFlip j { s.flipSet j with container := container }).armSet j
      if s1.weights.loadSet = some (Fin.ofNat 4 j) then { s1 with weights := { s1.weights with status := 4 } } else s1)

/-- CANCEL_FLIP_SET: 0x10 + s at 0x2300:01, for an armed set. -/
def execCancelFlipSet (c : Channel) (set : Fin 4) (s : State) : Host.Outcome State Fault Refusal :=
  .next (s.request c [s.notUser c, (!(s.flipSet set.val).armed, 0x08000022)] fun s => s.cancelSet set.val)

/-! ### Plan sets (R40, R174) -/

/-- An entry of a plan: its source is an engine, and its target a bank that may be written (R18, R149), on a die in service, not the
lost die (R25, R40, R174). -/
def State.targetOk (s : State) (p : Plan) (x : PlanEntry) : Bool :=
  Handle.physValid x.srcEngine && (Handle.engine? x.srcEngine).isSome && decide (x.srcBlock < 2048) && decide (x.targetBlock < 2048) &&
  match Handle.bank? x.target with
  | none => false
  | some b => s.bankQualifies true b && s.dieIn (bankDie b) && decide (dieHandle (bankDie b) ≠ p.lostDie)

/-- Within a plan no two entries name one bank, or one block of one engine (R148). -/
def planApart (p : Plan) : Bool :=
  noRepeats (p.entries.map fun x => x.target) && noRepeats (p.entries.map fun x => (Handle.inEngine? x.target, x.targetBlock))

/-- One plan for each die in service, all with one out mask, and every target as R174 asks. -/
def State.planSetOk (s : State) (ps : List Plan) : Bool :=
  decide (ps.length = s.diesIn.length) && (s.diesIn.all fun d => ps.any fun p => decide (p.lostDie = dieHandle d)) &&
    (ps.all fun p => (ps.all fun q => decide (p.outMask = q.outMask)) && p.entries.all (s.targetOk p) && planApart p)

/-- Reserved flags: both banks of every array that a plan targets. -/
def State.reserveTargets (s : State) (ps : List Plan) : State :=
  let s1 := { s with banks := dropDefault Bank.init (mapValues s.banks fun k => { k with reserved := false }) }
  forAll (ps.flatMap fun p => p.entries) (fun s x =>
    match Handle.bank? x.target with
    | some b =>
      (s.modBank (2 * (b / 2)) fun k => { k with reserved := true }).modBank (2 * (b / 2) + 1) fun k => { k with reserved := true }
    | none => s) s1

/-- LOAD_PLAN_SET: 4 at 0x2300:01. -/
def execLoadPlanSet (c : Channel) (plans : List Plan) (trailer : Trailer) (s : State) : Host.Outcome State Fault Refusal :=
  .next (s.request c (s.imageChecks c) fun s =>
    if !s.trailerOk 4 trailer then (s.event 0x6015 deviceHandle).event 0x8018 deviceHandle
    else if !s.planSetOk plans then s.event 0x8018 deviceHandle
    else
      let s1 := s.reserveTargets plans
      { s1 with
        weights := { s1.weights with plans := plans, plansStale := false }
        prog := { s1.prog with remapped := s1.prog.remapped.filter fun k => plans.any fun p => decide (p.programme = k.digest) } })

/-- A die field of a command: 1 to 16 stand for W0 to W15. -/
def dieOfField (b : Byte) : DieId := Fin.ofNat 16 (b.toNat - 1)
def dieFieldChecks (b : Byte) : List (Bool × W32) :=
  [(decide (b.toNat < 1), 0x06090032), (decide (16 < b.toNat), 0x06090031)]

/-- SELECT_PLAN: in manual mode the host selects the plan for a lost die (R176). -/
def execSelectPlan (c : Channel) (dieField : Byte) (s : State) : Host.Outcome State Fault Refusal :=
  .next (
    let d := dieOfField dieField
    s.request c (dieFieldChecks dieField ++
      [(decide (s.accepted 0x230007 ≠ 1) || s.dieIn d || s.weights.remapRunning || !s.awake || (s.planFor d).isNone, 0x08000022)])
      fun s => match s.planFor d with
        | some p => s.startRemap d p
        | none => s)

end Sys2Proof.Machine
end

