-- ==== Sys2Proof/Machine/Programme.lean ====
section
/-!
DEFINITION. Programmes from the host (spec/02, spec/08, spec/15): the load checks of a routine container, the staged programme,
switches, and group descriptors.
-/
namespace Sys2Proof.Machine

/-! ### Uses of group descriptors (R31) -/

/-- Handles that a programme names. -/
def containerHandles (c : Container) : List Handle :=
  c.placements.map (fun p => p.handle) ++ c.groupSlots ++ c.throttle ++ c.dataRows.map (fun d => d.handle) ++
    c.stats.map fun e => e.handle

/-- Descriptor numbers reached from handles through members. `n` bounds the depth: a chain without repeats names at most 4,095
descriptors (R26, R29). -/
def groupsBelow (g : GroupTable) : Nat → List Handle → List Nat
  | 0, _ => []
  | _ + 1, [] => []
  | n + 1, hs =>
    let here := (hs.filter Handle.isGroup).map Handle.number
    here ++ groupsBelow g n (here.flatMap fun k => match GroupTable.find g k with
      | some d => d.members
      | none => [])

/-- Descriptor numbers that the programmes of stored remap plans use. -/
def State.planGroups (s : State) : List Nat :=
  groupsBelow s.prog.groups 4096 ((s.prog.remapped.filter fun k => s.weights.plans.any fun p => decide (p.programme = k.digest)).flatMap
    containerHandles)

/-- A system descriptor, or one that the running programme, the active throttle grouping or a stored remap plan uses. -/
def State.groupLocked (s : State) (n : Nat) : Bool :=
  let used := s.prog.throttle ++ (match s.prog.running with
    | some c => containerHandles c
    | none => [])
  decide (n < 64) || (groupsBelow s.prog.groups 4096 used).contains n || s.planGroups.contains n

/-! ### Load checks of a container (R245) -/

/-- A zero point is a code of its tensor's width and sign (R79); 0 for width 1 and in per-token mode. -/
def formatOk (f : FormatEntry) : Bool :=
  [1, 4, 8, 16].contains f.width &&
    (if f.width = 1 ∨ f.perToken then decide (f.zp = 0)
    else if f.signed then decide (-((2 ^ (f.width - 1) : Nat) : Int) ≤ f.zp) && decide (f.zp < ((2 ^ (f.width - 1) : Nat) : Int))
    else decide (0 ≤ f.zp) && decide (f.zp < ((2 ^ f.width : Nat) : Int)))

/-- A window-scale entry has width 16, the signed flag, zp 0 and no per-token mode (R237). -/
def windowFormatOk (f : FormatEntry) : Bool :=
  !f.window || (decide (f.width = 16) && f.signed && decide (f.zp = 0) && !f.perToken)

/-- A handle of a tile or tile group. -/
def tileFace (g : GroupTable) (h : Handle) : Bool := Handle.valid g h && decide (Handle.kind h = 3)

/-- Descriptors of a container that meet R27 to R29 and R36, and leave every other descriptor so (R31). -/
def groupsOk (g : GroupTable) (c : Container) : Bool :=
  (c.groups.all fun d => decide (64 ≤ d.number) && GroupDesc.ok g d) && g.all fun p => match p.2 with
    | some x => decide (x.number < 64) || GroupDesc.ok g x
    | none => true

/-- The handle of a declared band names one engine; the band is 0 to 3 (R118, R241). -/
def bandOk (b : DeclaredBand) : Bool :=
  Handle.physValid b.engine && decide (Handle.kind b.engine = 4) && decide (b.band < 4) && decide (b.block < 2048)

/-- A descriptor's target: a tile for MOVE and TICKET (R238). -/
def targetHandleOk (d : MoveDesc) : Bool :=
  decide (d.kind ≠ .move ∧ d.kind ≠ .ticket) || (Handle.physValid d.target && (Handle.tile? d.target).isSome)

/-- The first handle of a container that is not valid, as the index in its table (R25, R38, R239, R241). -/
def State.handleFlaw (s : State) (c : Container) : Option Nat :=
  let g := containerTable c s.prog.groups
  let bad : {α : Type} → List α → (α → Bool) → Option Nat := fun l ok => l.findIdx? fun x => !ok x
  [if groupsOk g c then none else some 0,
    bad c.placements fun p => tileFace g p.handle,
    bad c.groupSlots fun h => tileFace g h && Handle.isGroup h,
    bad c.dataRows fun d => Handle.physValid d.handle && decide (Handle.kind d.handle = 3),
    bad c.stats fun e => tileFace g e.handle,
    bad c.bands bandOk,
    bad c.descs targetHandleOk].findSome? id

/-- Section limits (R241); a version below 2.3 has no statistics setup (R244). -/
def sectionsOk (c : Container) : Bool :=
  c.shapeOk && decide (c.placements.length ≤ 256) && decide (c.formats.length ≤ 256) && decide (c.strides.length ≤ 64) &&
    (match c.strides with
    | [] => true
    | z :: _ => z.all fun x => decide (x = 0)) &&
    decide (c.descs.length ≤ 4096) && decide (c.variants.length ≤ 16) && decide (c.groupSlots.length ≤ 16) &&
    decide (c.groups.length ≤ 4032) && decide (c.throttle.length ≤ 16) && (decide (c.minor = 3) || c.stats.isEmpty)

/-- A descriptor moves 1 to 8,192 rows; its strides and its done turnstile lie in their ranges (table *Movement descriptor*). -/
def descOk (c : Container) (d : MoveDesc) : Bool :=
  decide (1 ≤ d.count) && decide (d.count ≤ 8192) && (match d.doneScope with
    | .own => decide (d.doneTs.toNat < 64)
    | .group n => decide (d.doneTs.toNat < 64) && decide (n.val < c.groupSlots.length)
    | _ => true)

/-- The code and the entry word of a placement lie in the code section, and the routine in the store (R212, R242). -/
def placementOk (c : Container) (p : Placement) : Bool :=
  decide (1 ≤ p.length) && decide (p.length ≤ 8192) && decide (p.code + p.length ≤ c.code.length) && decide (p.entry < p.length) &&
    decide (p.comb.length = 16)

/-- Statistics setups of a tile: at most 16 (R241). -/
def setupsOk (g : GroupTable) (c : Container) (t : TileId) : Bool :=
  decide ((c.stats.filter fun e => tileInHandle g e.handle t).length ≤ 16)

/-- Placements that reach a tile (R242). -/
def placementsOf (g : GroupTable) (c : Container) (t : TileId) : List Placement :=
  c.placements.filter fun p => tileInHandle g p.handle t

/-- Overlap of two row ranges. -/
def overlaps (a n b m : Nat) : Bool := decide (0 < n) && decide (0 < m) && decide (a < b + m) && decide (b < a + n)

/-- Regions of a tile and the data rows placed in its constant region (R243). -/
def State.regionsOk (s : State) (g : GroupTable) (c : Container) (t : TileId) : Bool :=
  let mine := c.dataRows.filter fun d => tileInHandle g d.handle t
  match placementOf g c t with
  | none => mine.isEmpty
  | some p =>
    let r := (s.tile t).regions
    let live := s.prog.running.isSome
    (!live || (!overlaps p.constFirst p.constRows r.constFirst r.constRows && !overlaps p.constFirst p.constRows r.workFirst r.workRows)) &&
      decide (p.constFirst + p.constRows ≤ 8192) && decide (p.workFirst + p.workRows ≤ 8192) &&
      mine.all fun d => decide (p.constFirst ≤ d.first) && decide (d.first + d.rows.length ≤ p.constFirst + p.constRows)

/-- Words that a container places on a tile. -/
def wordsOn (g : GroupTable) (c : Container) (t : TileId) : Nat :=
  match placementOf g c t with
  | some p => p.length
  | none => 0

/-- The routine store of a tile: running, staged and one continuity copy (R212). A continuity copy joins the staged programme;
any other container takes its place. -/
def State.storeOk (s : State) (g : GroupTable) (c : Container) (t : TileId) : Bool :=
  let words : Container → Nat := fun k => wordsOn (containerTable k s.prog.groups) k t
  let copies := s.prog.continuity.filter fun k => !(c.continuity && decide (k.copyIndex = c.copyIndex))
  let staged := if c.continuity then s.prog.staged.toList else []
  let running := s.prog.running.toList.filter fun k => !copies.contains k
  decide (((copies ++ staged ++ running).map words).foldl (· + ·) (wordsOn g c t) ≤ 8192)

/-- The throttle grouping takes every die in service once, and no die twice (R36, R38). -/
def State.throttleOk (s : State) (g : GroupTable) (c : Container) : Bool :=
  c.throttle.isEmpty ||
    ((c.throttle.all fun h => Handle.groupValid g h && decide (Handle.kind h = 2) &&
      (match GroupTable.find g (Handle.number h) with
      | some d => d.throttle
      | none => false)) &&
    (allDies.all fun d =>
      let n := (c.throttle.filter fun h => (flattened g h).contains (dieHandle d)).length
      decide (n ≤ 1) && (decide (n = 1) || !s.dieIn d)))

/-- Within a die, at most 16 engines hold each comb offset (R198). -/
def combsOk (g : GroupTable) (c : Container) (d : DieId) : Bool :=
  let offs := (dieTiles d).flatMap fun t => match placementOf g c t with
    | some p => p.comb
    | none => []
  (List.range 16).all fun o => decide ((offs.filter fun x => decide (x = o)).length ≤ 16)

/-- A group slot's flattened set lies within one die (R284). -/
def slotInDie (g : GroupTable) (h : Handle) : Bool :=
  match (flattened g h).map Handle.dieField with
  | [] => true
  | x :: xs => xs.all fun y => decide (y = x)

/-- Frame, commit and flip turnstiles differ, and no done add names one (R293). -/
def specialsOk (c : Container) : Bool :=
  decide (c.frameTs ≠ c.commitTs) && decide (c.frameTs ≠ c.flipTs) && decide (c.commitTs ≠ c.flipTs) &&
    c.descs.all fun d => decide (d.doneScope ≠ .global) || !([c.frameTs, c.commitTs, c.flipTs].contains d.doneTs)

/-- Done values of descriptors, whatever their scope (R285). -/
def descDoneOk (d : MoveDesc) : Bool := decide (1 ≤ d.doneValue) && decide (d.doneValue ≤ 16383)

/-- Variant groups: 1 to 8 paths, up to 8 rules that name a path (R221). -/
def variantOk (v : VariantGroup) : Bool :=
  decide (1 ≤ v.paths.length) && decide (v.paths.length ≤ 8) && decide (v.rules.length ≤ 8) &&
    v.rules.all fun r => decide (r.path < v.paths.length)

/-- Length in cc of the longest path that a period of T µs admits (R247, R294). -/
def frameCc (t : Nat) : Nat := 800 * t

/-- Words of a placement that R215 does not allow: the address of the first. -/
def codeFlaw (c : Container) : Option Nat :=
  c.placements.findSome? fun p => (List.range p.length).find? fun a => !((Container.word c p a).any wordOk)

/-- The first path that does not keep R216, R218, R220 or R224: cause and word address. -/
def pathFlaw (c : Container) : Option (Nat × Nat) := (Container.traces c).findSome? fun tr => tr.flaw

/-- Tiles in service with their placements. -/
def State.placed (s : State) (g : GroupTable) (c : Container) : List (TileId × Placement) :=
  s.tilesIn.filterMap fun t => (placementOf g c t).map fun p => (t, p)

/-- A check of the words that each tile in service issues; `ds` are the dies of its throttle group under the container. -/
def State.tileFlaw (s : State) (g : GroupTable) (c : Container) (ok : TileId → List DieId → Trace → Issue → Bool) : Option Nat :=
  let group : DieId → List DieId := fun d =>
    match (c.throttle.map fun h => (flattened g h).filterMap Handle.die?).find? fun ds => ds.contains d with
    | some ds => ds
    | none => [d]
  (s.placed g c).findSome? fun q =>
    firstBadWord ((Container.traces c).filter fun tr => decide (tr.place = q.2)) (ok q.1 (group (tileDie q.1)))

/-- A container that carries another descriptor under a number that a stored remap plan uses (R31). -/
def State.lockedByPlan (s : State) (c : Container) : Bool :=
  c.groups.any fun d => (s.planGroups.contains d.number) && (match GroupTable.find s.prog.groups d.number with
    | some x => decide (x.members ≠ d.members ∨ x.face ≠ d.face ∨ x.throttle ≠ d.throttle)
    | none => false)

/-- The first load check that fails: event, cause, counted in the order of R245, and the word address or table index
concerned (R245). -/
def State.containerFlaw (s : State) (c : Container) (t : Trailer) : Option (W16 × Nat × Nat) :=
  let g := containerTable c s.prog.groups
  let trs := Container.traces c
  let no : Bool → W16 → Nat → Option (W16 × Nat × Nat) := fun ok ev k => if ok then none else some (ev, k, 0)
  let at' : Option Nat → W16 → Nat → Option (W16 × Nat × Nat) := fun x ev k => x.map fun i => (ev, k, i)
  let bad : {α : Type} → List α → (α → Bool) → Option Nat := fun l ok => l.findIdx? fun x => !ok x
  [no (decide (c.magic = 0x43524841) && decide (c.major = 2) && decide (c.minor ≤ 3)) 0x5026 1,
    no (s.trailerOk 2 t) 0x5026 2,
    no (sectionsOk c && s.tilesIn.all (setupsOk g c)) 0x5026 3,
    no (!s.lockedByPlan c) 0x5026 4,
    at' (s.handleFlaw c) 0x5026 4,
    at' (bad c.formats formatOk) 0x5026 5,
    at' (bad c.descs (descOk c)) 0x5026 6,
    at' (bad c.placements (placementOk c)) 0x5026 9,
    at' (codeFlaw c) 0x5026 6,
    at' (bad c.variants variantOk) 0x5026 16,
    (pathFlaw c).map fun q => (0x5026, q.1, q.2),
    no (s.tilesIn.all fun t => decide ((placementsOf g c t).length ≤ 1)) 0x5026 9,
    no (s.tilesIn.all (s.regionsOk g c)) 0x5026 10,
    at' (firstBadWord trs (constantsKept c)) 0x5026 10,
    no (s.tilesIn.all (s.storeOk g c)) 0x5026 11,
    no (s.throttleOk g c) 0x5026 12,
    at' (firstBadWord trs fun _ => waitPhaseOk) 0x5025 13,
    no (allDies.all (combsOk g c)) 0x5025 14,
    at' (firstBadWord trs combOk) 0x5025 14,
    at' (bad c.variants (pathsEqual c)) 0x5025 15,
    at' (firstBadWord trs fun _ => operandsFit c) 0x5026 17,
    at' (firstBadWord trs fun _ i => evalFormOk i && synFits c i) 0x5026 18,
    at' (firstBadWord trs fun tr i => evalSpacingOk tr i && evalFeedOk c tr i) 0x5026 18,
    at' (firstBadWord trs fun tr i => engAddFits c tr i && clearFits tr i) 0x5026 18,
    at' (firstBadWord trs fun tr i => memIdle tr i && landingsApart c tr i) 0x5026 18,
    at' (bad c.formats windowFormatOk) 0x5026 19,
    at' (firstBadWord trs (quantiserFits c)) 0x5026 19,
    at' (s.tileFlaw g c fun t ds => fendLast c t ds) 0x5026 8,
    at' (bad c.groupSlots (slotInDie g)) 0x5026 20,
    at' (bad c.descs descDoneOk) 0x5026 21,
    no (specialsOk c) 0x5026 22,
    at' (firstBadWord trs fun _ => specialsFit c) 0x5026 22,
    no (decide (longestOf c ≤ frameCc (s.accepted 0x200003))) 0x5026 23,
    at' (s.tileFlaw g c fun t _ _ => bandsDeclared c t) 0x5026 24].findSome? id

/-! ### LOAD_CONTAINER (R426, R429) -/

/-- Data rows of a container go to the constant regions (R243). -/
def State.placeData (s : State) (c : Container) : State :=
  let g := containerTable c s.prog.groups
  forAll c.dataRows (fun s d => forAll ((flattened g d.handle).filterMap Handle.tile? |>.filter s.tileIn) (fun s t =>
    s.modTile t fun x => ((List.range d.rows.length).zip d.rows).foldl (fun x p => x.setRow (d.first + p.1) ⟨p.2, 0⟩) x) s) s

/-- An accepted container: a continuity copy joins the copies that stay resident; any other becomes the staged programme in
place of the one before it, and the retained programme is discarded. A container that a plan names as its remapped programme
is also kept for that plan (DESIGN CHOICE, log 41). -/
def State.stage (s : State) (c : Container) : State :=
  let s1 := s.placeData c
  let named := s1.weights.plans.any fun p => decide (p.programme = c.digest)
  let kept := if named then (s1.prog.remapped.filter fun k => decide (k.digest ≠ c.digest)) ++ [c] else s1.prog.remapped
  let s2 := if c.continuity then
      { s1 with prog := { s1.prog with
        continuity := (s1.prog.continuity.filter fun k => decide (k.copyIndex ≠ c.copyIndex)) ++ [c] } }
    else { s1 with prog := { s1.prog with
      staged := some c, retained := none, status := 2, remapped := kept
      switchReq := none, switchReady := false } }
  s2.event 0x8024 deviceHandle

/-- LOAD_CONTAINER: 1 at 0x2600:01. -/
def execLoadContainer (c : Channel) (k : Container) (trailer : Trailer) (s : State) : Host.Outcome State Fault Refusal :=
  .next (s.request c [s.notUser c, (!s.awake, 0x08000022)] fun s =>
    match s.containerFlaw k trailer with
    | none => s.stage k
    | some (ev, cause, index) =>
      let s1 := if cause = 2 then s.event 0x6015 deviceHandle else s
      let s2 := { s1 with prog := { s1.prog with status := 4 } }
      (s2.raise ev deviceHandle (openParam ev cause index) 0xFFFF).history 2 1 k.digest)

/-! ### Switches (R427 to R429) -/

/-- A switch is accepted only when the container's model digest equals the live one; else event 0x8026 with reason 1. -/
def State.requestSwitch (s : State) (c : Channel) (toStaged : Bool) : State :=
  let k := if toStaged then s.prog.staged else s.prog.retained
  match k with
  | none => s
  | some k =>
    if k.modelDigest ≠ s.weights.liveDigest then
      (s.raise 0x8026 deviceHandle (eventParam 1 0) 0xFFFF).answer c 0x08000022 []
    else
      { s with prog := { s.prog with
        switchReq := some toStaged, switchReady := !s.frame.deadlinePassed
        status := if toStaged then 3 else s.prog.status } }

/-- A refused switch keeps its abort code; an accepted one answers 0. -/
def State.switchCommand (s : State) (c : Channel) (toStaged : Bool) : State :=
  let k := if toStaged then s.prog.staged else s.prog.retained
  let wrong := match k with
    | some k => decide (k.modelDigest ≠ s.weights.liveDigest)
    | none => false
  if wrong && s.serves c && !s.svc.restarting && !s.wiped && s.isUser c && s.prog.switchReq.isNone then s.requestSwitch c toStaged
  else s.request c [s.notUser c, (k.isNone || s.prog.switchReq.isSome, 0x08000022)] fun s => s.requestSwitch c toStaged

/-- SWITCH_STAGED: 2 at 0x2600:01. -/
def execSwitchStaged (c : Channel) (s : State) : Host.Outcome State Fault Refusal := .next (s.switchCommand c true)

/-- SWITCH_RETAINED: 3 at 0x2600:01. -/
def execSwitchRetained (c : Channel) (s : State) : Host.Outcome State Fault Refusal := .next (s.switchCommand c false)

/-! ### GROUP_DESCRIPTOR_WRITE (R27 to R31) -/

/-- A descriptor that another one names as a member. -/
def State.groupNamed (s : State) (n : Nat) : Bool :=
  s.prog.groups.any fun p => match p.2 with
    | some d => decide (d.number ≠ n) && d.members.any fun h => Handle.isGroup h && decide (Handle.number h = n)
    | none => false

/-- The table with a descriptor created or replaced. -/
def State.withGroup (s : State) (d : GroupDesc) : GroupTable := GroupTable.join s.prog.groups d

/-- The descriptor is acceptable, and so are the descriptors that name it. -/
def State.groupFits (s : State) (d : GroupDesc) : Bool :=
  let g := s.withGroup d
  GroupDesc.ok g d && g.all fun p => match p.2 with
    | some x => decide (x.number < 64) || GroupDesc.ok g x
    | none => true

/-- GROUP_DESCRIPTOR_WRITE: 0x2201:02, for the number in 0x2201:01; a write of length 0 deletes. -/
def execGroupDescriptorWrite (c : Channel) (desc : Option GroupDesc) (s : State) : Host.Outcome State Fault Refusal :=
  .next (
    let n := s.accepted 0x220101
    match desc with
    | none =>
      s.request c [(s.groupLocked n || s.groupNamed n, 0x08000022)] fun s =>
        { s with prog := { s.prog with groups := mdel s.prog.groups n } }
    | some d =>
      s.request c [(s.groupLocked n, 0x08000022), (decide (d.number ≠ n) || !s.groupFits d, 0x06090030)] fun s =>
        { s with prog := { s.prog with groups := s.withGroup d } })

end Sys2Proof.Machine
end

