-- ==== Sys2Proof/Machine/ServiceOps.lean ====
section
/-!
DEFINITION. Service (spec/15): ringmaster restarts, the supervisor, firmware slots, the boot set, scrubbing, and out marks
that the host sets and clears.
-/
namespace Sys2Proof.Machine

/-! ### The ringmaster and its supervisor (R421, R422) -/

/-- The hub supervisor: SAFE_N, P0 to P2 in their safe state, no cyclic frames. -/
def State.failHub (s : State) : State :=
  let s1 := s.driveSafe
  { s1 with
    sec := { s1.sec with safeN := true }
    ecat := { s1.ecat with stopped := true }
    svc := { s1.svc with supervisorFailed := true } }

/-- Times of the restarts within the last 10 minutes. -/
def State.recentRestarts (s : State) : List Nat := s.svc.restarts.filter fun t => decide (s.now < t + 480000000000)

/-- RINGMASTER_RESTART: both cores are reset. A slot on trial is to be reverted (R425); the third restart within 10 minutes
fails the hub. -/
def execRingmasterRestart (s : State) : Host.Outcome State Fault Refusal :=
  .next (
    if s.power = .off ∨ !s.booted ∨ s.svc.restarting then s else
    let times := s.recentRestarts ++ [s.now]
    let s1 := s.endAuthentications
    let s2 := { s1 with svc := { s1.svc with
      restarting := true, restarts := times, revertReq := if s1.svc.trial then some 1 else s1.svc.revertReq } }
    if 3 ≤ times.length then s2.failHub else s2)

/-- RINGMASTER_RESTART_COMPLETE: what waited for the ringmaster proceeds. -/
def execRingmasterRestartComplete (s : State) : Host.Outcome State Fault Refusal :=
  .next (
    if !s.svc.restarting then s else
    let marks := s.svc.waitMarkOut
    let s1 := { s with svc := { s.svc with restarting := false, waitMarkOut := [] } }
    (forAll marks (fun s p => s.markOut p.1 p.2) (s1.event 0x8027 deviceHandle)).startLanes)

/-- HUB_FAILURE: 1 two missed frame starts, 2 a silent security island, 3 three restarts. -/
def execHubFailure (cause : Nat) (s : State) : Host.Outcome State Fault Refusal :=
  .next (if s.power = .off ∨ cause = 0 ∨ 3 < cause then s else s.failHub)

/-! ### Firmware (R423 to R425) -/

def State.inactiveSlot (s : State) : Slot := if s.svc.activeB then s.svc.slotA else s.svc.slotB

/-- FIRMWARE_IMAGE_WRITE: 0x2000:09. -/
def execFirmwareImageWrite (c : Channel) (image : Firmware) (s : State) : Host.Outcome State Fault Refusal :=
  .next (s.request c [s.notUser c] fun s => s.writeFirmware (!s.svc.activeB) image)

/-- FIRMWARE_SWITCH: 1 at 0x2000:05. -/
def execFirmwareSwitch (c : Channel) (s : State) : Host.Outcome State Fault Refusal :=
  .next (s.request c [s.notUser c, (!s.inactiveSlot.valid || s.svc.switchReq || s.svc.revertReq.isSome, 0x08000022)] fun s =>
    { s with svc := { s.svc with switchReq := true } })

/-- FIRMWARE_REVERT: 2 at 0x2000:05, for a slot on trial. -/
def execFirmwareRevert (c : Channel) (s : State) : Host.Outcome State Fault Refusal :=
  .next (s.request c [s.notUser c, (!s.svc.trial || s.svc.revertReq.isSome, 0x08000022)] fun s =>
    { s with svc := { s.svc with revertReq := some 3 } })

/-- FIRMWARE_CONFIRM: 0x2000:06; 1 confirms a slot on trial, which writes a new boot set (R556). -/
def execFirmwareConfirm (c : Channel) (value : Byte) (s : State) : Host.Outcome State Fault Refusal :=
  .next (s.request c [s.notUser c, (decide (1 < value.toNat), 0x06090031)] fun s =>
    if s.svc.trial ∧ value = 1 ∧ s.svc.revertReq.isNone then
      { s with svc := { s.svc with confirm := 1, trial := false } }.writeBoot
    else { s with svc := { s.svc with confirm := value.toNat } })

/-- FIRMWARE_TRIAL_TIMEOUT: 60 s have passed without a confirmation. -/
def execFirmwareTrialTimeout (s : State) : Host.Outcome State Fault Refusal :=
  .next (
    if !s.svc.trial || s.svc.revertReq.isSome then s
    else { s with svc := { s.svc with revertReq := some 0 } })

/-- BOOT_SET_PERIODIC_WRITE: the hour in which a setting changed ends (R556). -/
def execBootSetPeriodicWrite (s : State) : Host.Outcome State Fault Refusal :=
  .next (if s.power = .off ∨ s.svc.restarting ∨ !s.svc.settingsChanged then s else s.writeBoot)

/-! ### LPDDR5X (R541) -/

/-- SCRUB of a 64-bit word: an uncorrectable one is written back poisoned. The event is limited per channel (R550), which
its index names. -/
def execScrub (word : Nat) (uncorrectable : Bool) (s : State) : Host.Outcome State Fault Refusal :=
  .next (
    if !s.awake || decide (0x200000000 ≤ word) || !uncorrectable then s
    else { s with lpddr := s.lpddr.setPoison (8 * word) true }.raise 0x3015 deviceHandle (eventParam 0 (word / 32 % 16)) 0xFFFF)

/-! ### Out marks (R432, R433) -/

/-- MARK_OUT_DIE: 0x2200:02, cause 5. -/
def execMarkOutDie (c : Channel) (dieField : Byte) (s : State) : Host.Outcome State Fault Refusal :=
  .next (
    let d := dieOfField dieField
    s.request c ([s.notUser c] ++ dieFieldChecks dieField ++ [(!s.dieIn d, 0x08000022)]) fun s => s.markOut d 5)

/-- CLEAR_OUT_MARK: 0x2200:03. The die stays out of service until a cold start checks it. -/
def execClearOutMark (c : Channel) (dieField : Byte) (s : State) : Host.Outcome State Fault Refusal :=
  .next (
    let d := dieOfField dieField
    s.request c ([s.notUser c, (decide (s.power ≠ .idle), 0x08000022)] ++ dieFieldChecks dieField) fun s =>
      (s.modDie d fun x => { x with outMark := false }).acceptSetting 0x220003 dieField.toNat)

end Sys2Proof.Machine
end

