-- ==== Sys2Proof/Machine/SecurityOps.lean ====
section
/-!
DEFINITION. The security island (spec/16): authentication, sessions and image keys, tamper alarms and the level-3 response,
self-tests, attestation, anchors and enrolment.
-/
namespace Sys2Proof.Machine

/-! ### Authentication (R445, R446) -/

/-- Sessions and challenges of a channel end. -/
def Auth.endSession (a : Auth) : Auth := { a with nonce := none, sessionOpen := false, sessionKey := none }

def State.endSessions (s : State) : State :=
  { s with sec := { s.sec with p3 := s.sec.p3.endSession, mailbox := s.sec.mailbox.endSession } }

/-- The next draw of the DRBG. -/
def State.draw (s : State) : State := { s with sec := { s.sec with drbg := s.sec.drbg + 1 } }

/-- The island answers no service of a role in its state (R447). -/
def State.notWorking (s : State) : Bool × W32 := (!s.sec.working, 0x08000022)

/-- Authenticated as User, which the services of sessions and image keys ask for. -/
def State.notUserRole (s : State) (c : Channel) : Bool × W32 :=
  (!s.sec.working || decide ((s.auth c).role ≠ some .user), 0x08000022)

/-- AUTH_CHALLENGE: a read of 0x2700:05. -/
def execAuthChallenge (c : Channel) (s : State) : Host.Outcome State Fault Refusal :=
  .next (
    let n := Config.drbg s.sec.drbg
    s.fetch c [s.notWorking, ((s.auth c).locked, 0x08000022)] (leBytes 32 n.toNat) fun s =>
      s.draw.setAuth c { s.auth c with nonce := some n })

/-- The anchor of a role. -/
def State.anchorOf (s : State) (r : Role) : Option Nat :=
  match r with
  | .officer => s.sec.officer
  | .user => s.sec.user

/-- One more failed authentication: the tenth in a row locks the channel for 60 s. -/
def Auth.fail (a : Auth) : Auth :=
  { a with nonce := none, failures := a.failures + 1, locked := a.locked || decide (10 ≤ a.failures + 1) }

/-- AUTHENTICATE: 0x2700:06, for the challenge of the channel; `ok` is the verdict on the signatures. -/
def execAuthenticate (c : Channel) (role : Role) (ok : Bool) (s : State) : Host.Outcome State Fault Refusal :=
  .next (
    let a := s.auth c
    let good := ok && (s.anchorOf role).isSome
    let open' := s.sec.working && a.nonce.isSome && !a.locked
    if s.serves c && !s.svc.restarting && !s.wiped && open' && !good then
      ((s.setAuth c a.fail).event 0x6014 deviceHandle).answer c 0x08000022 []
    else s.request c [(!open', 0x08000022)] fun s => s.setAuth c { a with role := some role, nonce := none, failures := 0 })

/-- LOGOUT: 1 at 0x2700:07. -/
def execLogout (c : Channel) (value : Byte) (s : State) : Host.Outcome State Fault Refusal :=
  .next (s.request c [((s.auth c).role.isNone, 0x08000022), (decide (value.toNat ≠ 1), 0x06090030)] fun s => s.setAuth c (s.auth c).logout)

/-- AUTH_TIMEOUT: 10 minutes without a service call. -/
def execAuthTimeout (c : Channel) (s : State) : Host.Outcome State Fault Refusal := .next (s.setAuth c (s.auth c).logout)

/-- AUTH_LOCKOUT_END: 60 s have passed. -/
def execAuthLockoutEnd (c : Channel) (s : State) : Host.Outcome State Fault Refusal :=
  .next (if (s.auth c).locked then s.setAuth c { s.auth c with locked := false, failures := 0 } else s)

/-! ### Sessions and image keys (R453 to R455) -/

/-- SESSION_OPEN: a read of 0x2700:08: encapsulation key and nonce of a fresh key pair. -/
def execSessionOpen (c : Channel) (s : State) : Host.Outcome State Fault Refusal :=
  .next (
    let k := s.sec.drbg
    s.fetch c [s.notUserRole c]
      (sliceBytes (Config.encapsulationKey k) 0 1184 ++ leBytes 32 (Config.drbg (k + 1)).toNat) fun s =>
      s.draw.draw.setAuth c { s.auth c with sessionOpen := true, sessionKey := none, draw := k })

/-- SESSION_CIPHERTEXT: 0x2700:09. -/
def execSessionCiphertext (c : Channel) (ciphertext : List Byte) (s : State) : Host.Outcome State Fault Refusal :=
  .next (s.request c [s.notUserRole c, (decide (ciphertext.length ≠ 1088), 0x06070010),
    (!(s.auth c).sessionOpen, 0x08000022)] fun s =>
      let a := s.auth c
      s.setAuth c { a with sessionOpen := false, sessionKey := some (Config.sessionKey ciphertext a.draw) })

/-- IMAGE_KEY_IMPORT: 0x2700:0A; `tagOk` is the verdict on the record's tag. -/
def execImageKeyImport (c : Channel) (keyId : BitVec 128) (tagOk : Bool) (s : State) : Host.Outcome State Fault Refusal :=
  .next (s.request c [
      s.notUserRole c, (decide (s.sec.state = .locked), 0x08000022), ((s.auth c).sessionKey.isNone, 0x08000022),
      (decide (8 ≤ s.sec.imageKeys.length) && !s.sec.imageKeys.contains keyId, 0x08000022),
      (!tagOk, 0x06090030)] fun s =>
    let keys := s.sec.imageKeys
    ({ s with sec := { s.sec with imageKeys := if keys.contains keyId then keys else keys ++ [keyId] } }).event 0x601A
      deviceHandle)

/-- IMAGE_KEY_DELETE: 0x2700:0B. -/
def execImageKeyDelete (c : Channel) (keyId : BitVec 128) (s : State) : Host.Outcome State Fault Refusal :=
  .next (s.request c [s.notUserRole c] fun s =>
    { s with sec := { s.sec with imageKeys := s.sec.imageKeys.filter fun k => decide (k ≠ keyId) } })

/-! ### Alarms (R462 to R465) -/

/-- An entry of the alarm record, newest first: level, cause, minute (0x2703). -/
def State.logAlarm (s : State) (level cause : Nat) : State :=
  { s with sec := { s.sec with
    alarmLog := ((level, cause % 256, s.svc.minutes) :: s.sec.alarmLog).take 32, alarmEver := max s.sec.alarmEver level } }

/-- An alarm is a wake source that requests Idle (R565). -/
def State.wakeToIdle (s : State) : State := if s.power = .doze then { s with toward := some .idle } else s

/-- A change of the module state signals vector 3 (R531). -/
def State.moduleFrom (s old : State) : State := if s.sec.state = old.sec.state then s else s.vector 3

/-- Level 2: locked, authentications and sessions ended. A module without keys has nothing to lock and keeps its state. -/
def State.levelTwo (s : State) (cause : Nat) : State :=
  let v := s.sec
  let lock : MState → MState := fun m => if m = .operational then .locked else m
  let bites := v.working || (decide (v.state = .error) && (decide (v.before = .operational) || decide (v.before = .locked)))
  let s1 := { s with sec := { v with
    state := lock v.state, before := lock v.before, excursions := [], alarm := if bites then 2 else v.alarm } }
  let s2 := (s1.logAlarm 2 (Config.reasonCode 0x6011 cause)).endAuthentications.endSessions
  ((s2.event 0x6011 deviceHandle).moduleFrom s).wakeToIdle

/-- Volatile keys and sessions are cleared (cc 2 of the table Level-3 response). -/
def State.clearKeys (s : State) : State :=
  let s1 := s.endAuthentications.endSessions
  { s1 with sec := { s1.sec with dieKeys := List.replicate 16 none, imageKeys := [] } }

/-- The key store is erased, the identity generation disabled, the state zeroised. -/
def State.eraseStore (s : State) : State :=
  { s with sec := { s.sec with
    state := .zeroised, alarm := 3, officer := none, user := none, owners := [none, none, none, none], cloakRoot := none
    storageKey := none
    disabled := if s.sec.disabled.contains s.sec.generation then s.sec.disabled else s.sec.disabled ++ [s.sec.generation] } }

/-- A bank whose write is abandoned leaves its lane. -/
def Bank.stopWrite (k : Bank) : Bank := { k.abandon with lane := false }

/-- What R464 cancels. -/
def State.cancelAll (s : State) : State :=
  let s1 := forAll (List.range 4) State.cancelSet s
  { s1 with
    banks := dropDefault Bank.init (mapValues s1.banks Bank.stopWrite)
    weights := { s1.weights with
      waitingWrites := [], remapRunning := false, plansStale := true
      status := if s1.weights.status = 1 ∨ s1.weights.status = 2 then 6 else s1.weights.status }
    prog := { s1.prog with switchReq := none, switchReady := false }
    svc := { s1.svc with switchReq := false, bootRun := false }
    rcl := { s1.rcl with consolidation := if s1.rcl.consolidation = 1 then 3 else s1.rcl.consolidation } }

/-- A tile whose memories are cleared. -/
def Tile.cleared (x : Tile) : Tile :=
  { x.halt with rows := [], vregs := [], transfers := [], narrowIn := [], requests := [], badWords := [] }

/-- Scratchpads, vector registers, routine stores, hub buffer and fast store are cleared to 0. The containers go with the
routine stores. -/
def State.clearMemories (s : State) : State :=
  { s with
    tiles := dropDefault Tile.init (mapValues s.tiles Tile.cleared)
    hub := ⟨[], []⟩
    agents := []
    fabric := { s.fabric with rows := [], tainted := [], wire := [] }
    kv := ⟨false, false, none, 0⟩
    weights := { s.weights with residents := [] }
    prog := { s.prog with
      running := none, staged := none, retained := none, continuity := [], remapped := [], contRuns := false, contDue := false
      status := 0 }
    rcl := { s.rcl with
      banks := dropDefault RBank.init (mapValues s.rcl.banks fun b => { b with entries := [], respread := none, respreadQ := [] })
      cursors := [], gather := [], updates := [], inserting := none, queries := [], results := [], handed := none } }

/-- Pending outputs are discarded: each image keeps its last committed contents until the next frame start. -/
def State.dropOutputs (s : State) : State :=
  let s1 := s.openImages
  { s1 with
    ecat := { s1.ecat with due := [] }
    frame := { s1.frame with programmeFrame := none, notBefore := 0 } }

/-- The device is in Idle from the next frame start on; a device in Doze wakes to Idle. -/
def State.headForIdle (s : State) : State :=
  match s.power with
  | .run => { s with toward := some .idle }
  | .doze => { s with toward := some .idle }
  | _ => { s with toward := none }

/-- The steps of the level-3 response that leave the island (R463, R464). -/
def State.levelThreeSteps (s : State) : State :=
  let s1 := s.breakLoop { s with power := .idle }
  s1.clearKeys.dropOutputs.cancelAll.clearMemories.eraseStore.headForIdle

/-- A level-3 alarm: 0 zeroise service, 1 light, 2 mesh, 3 lid, 4 glitching. A zeroised module only reports a further one. -/
def State.levelThree (s : State) (cause : Nat) : State :=
  let s1 := s.logAlarm 3 cause
  let s2 := { s1 with sec := { s1.sec with alarmN := true, safeN := true } }
  let s3 := if s2.sec.state = .zeroised then s2 else s2.levelThreeSteps
  (s3.raise 0x6013 deviceHandle (eventParam cause 0) 0xFFFF).moduleFrom s

/-- Cause of a sensor that is always level 3. -/
def sensorCause (x : TamperSensor) : Option Nat :=
  match x with
  | .light => some 1
  | .mesh => some 2
  | .lid => some 3
  | _ => none

/-- Number of a sensor in the order of the table Tamper sensors. -/
def sensorIndex (x : TamperSensor) : Nat :=
  match x with
  | .voltage => 0
  | .clock => 1
  | .glitch => 2
  | .temperature => 3
  | .light => 4
  | .mesh => 5
  | .lid => 6

/-- The 1 µs intervals with a glitch, of the last 64. -/
def glitchesAfter (gs : List Nat) (u : Nat) : List Nat := (gs.filter fun v => decide (u < v + 64) && decide (v ≠ u)) ++ [u]

/-- One excursion of a voltage, clock, glitch or temperature sensor. -/
def State.excursion (s : State) (sensor : TamperSensor) (time : Nat) : State :=
  let v := s.sec
  let gs := if sensor = .glitch then glitchesAfter v.glitches (time / 800) else v.glitches
  let xs := (v.excursions.filter fun x => decide (time < x.2 + 8000000000)) ++ [(sensor, time)]
  let s1 := { s with sec := { v with glitches := gs, excursions := xs, lastExcursion := some time } }
  if sensor = .glitch ∧ 16 ≤ gs.length then s1.levelThree 4
  else if 4 ≤ xs.length then s1.levelTwo 0
  else (s1.logAlarm 1 (Config.reasonCode 0x6010 (sensorIndex sensor))).raise 0x6010 deviceHandle (openParam 0x6010 (sensorIndex sensor) 0) 0xFFFF

/-- TAMPER_EXCURSION at a time in cc. In Off the regulator controller latches the lid and, with VIN, the mesh (R465). -/
def execTamperExcursion (sensor : TamperSensor) (time : Nat) (s : State) : Host.Outcome State Fault Refusal :=
  .next (
    if s.power = .off then
      match sensorCause sensor with
      | none => s
      | some cause =>
        if sensor = .lid ∨ (sensor = .mesh ∧ s.vin) then
          { s with sec := { s.sec with levelThreeLatched := some cause, alarmN := s.sec.alarmN || s.vin } }
        else s
    else match sensorCause sensor with
      | some cause => s.levelThree cause
      | none => s.excursion sensor (max s.now time))

/-- EXCURSION_LASTING_100_MS: a level-2 alarm, unless one has consumed the excursion. -/
def execExcursionLasting100Ms (sensor : TamperSensor) (s : State) : Host.Outcome State Fault Refusal :=
  .next (
    if s.power = .off ∨ !(s.sec.excursions.any fun x => decide (x.1 = sensor)) then s
    else s.levelTwo 1)

/-- ZEROISE: 3 at 0x2700:0F. -/
def execZeroise (c : Channel) (s : State) : Host.Outcome State Fault Refusal :=
  .next (s.request c [s.notOfficer c] fun s => s.levelThree 0)

/-- CLEAR_LOCK: 2 at 0x2700:0F; no excursion in the last 60 s. -/
def execClearLock (c : Channel) (s : State) : Host.Outcome State Fault Refusal :=
  .next (
    let recent := match s.sec.lastExcursion with
      | some t => decide (s.now < t + 48000000000)
      | none => false
    s.request c [s.notOfficer c, (decide (s.sec.state ≠ .locked) || recent, 0x08000022)] fun s =>
      ({ s with sec := { s.sec with state := .operational, alarm := 0 } }.event 0x6012 deviceHandle).moduleFrom s)

/-! ### Self-tests (R460, R461) -/

/-- A failure in service, or of a repeat. The third in a row stops the repeats. -/
def State.testFails (s : State) : State :=
  let v := s.sec
  let n := if v.state = MState.error then v.testFailures + 1 else 1
  ({ s with sec := { v with
    state := .error, before := if v.state = MState.error then v.before else v.state
    testFailures := n, testsStopped := decide (3 ≤ n) } }).event 0x6016 deviceHandle |>.moduleFrom s

/-- A pass in error state: back to the state before, and what waited goes on. -/
def State.testPasses (s : State) : State :=
  if s.sec.state ≠ .error then s
  else (({ s with sec := { s.sec with state := s.sec.before, testFailures := 0 } }).event 0x6017 deviceHandle |>.moduleFrom s).startLanes

/-- A run of the power-up tests in service. -/
def State.runTests (s : State) (ok : Bool) : State :=
  if s.sec.testsStopped then s else if ok then s.testPasses else s.testFails

/-- PERIODIC_SELF_TEST: 24 hours of operating time have passed. -/
def execPeriodicSelfTest (ok : Bool) (s : State) : Host.Outcome State Fault Refusal :=
  .next (if s.power = .off then s else s.runTests ok)

/-- SELF_TEST_RETRY: one second in error state has passed. -/
def execSelfTestRetry (ok : Bool) (s : State) : Host.Outcome State Fault Refusal :=
  .next (if s.power = .off ∨ s.sec.state ≠ .error then s else s.runTests ok)

/-- SELF_TEST: 1 at 0x2700:0F, a service without a role (R446). -/
def execSelfTest (c : Channel) (ok : Bool) (s : State) : Host.Outcome State Fault Refusal :=
  .next (s.request c [] fun s => s.runTests ok)

/-! ### Version floor, anchors -/

/-- RAISE_VERSION_FLOOR: 4 at 0x2700:0F, to the value of 0x2700:10. -/
def execRaiseVersionFloor (c : Channel) (s : State) : Host.Outcome State Fault Refusal :=
  .next (s.request c [s.notOfficer c, (decide (s.accepted 0x270010 < s.sec.floor), 0x06090032)] fun s =>
    { s with sec := { s.sec with floor := s.accepted 0x270010 } })

/-- ANCHOR_WRITE: 0x2702; a write of length 0 deletes. -/
def execAnchorWrite (c : Channel) (slot : AnchorSlot) (key : Option Nat) (s : State) : Host.Outcome State Fault Refusal :=
  .next (s.request c [s.notOfficer c] fun s =>
    { s with sec := match slot with
      | .officer => { s.sec with officer := key }
      | .user => { s.sec with user := key }
      | .owner k => { s.sec with owners := s.sec.owners.set k.val key } })

/-! ### Attestation (R459) -/

/-- Bytes 0 to 175 of the report. -/
def State.reportBody (s : State) (nonce : BitVec 256) : List Byte :=
  let slot := if s.svc.activeB then s.svc.slotB else s.svc.slotA
  leBytes 4 0x54415441 ++ leBytes 1 1 ++ leBytes 1 s.sec.generation ++ leBytes 1 s.sec.state.code ++
    leBytes 1 (if s.sec.state = .zeroised then 3 else s.sec.alarmEver) ++ leBytes 16 s.sec.serial.toNat ++
    leBytes 32 nonce.toNat ++ leBytes 8 s.nowNs ++ leBytes 48 slot.digest.toNat ++ leBytes 48 s.weights.liveDigest.toNat ++
    leBytes 4 (idOf s.prog.running) ++ leBytes 4 s.sec.floor ++ leBytes 4 s.sec.cloakGen ++ leBytes 4 0

/-- The report: its body, the two signatures of the present identity generation, and the reserved bytes. -/
def State.attestReport (s : State) (nonce : BitVec 256) : List Byte :=
  let body := s.reportBody nonce
  body ++ sliceBytes (Config.attestSignature s.sec.generation body) 0 3405 ++ leBytes 3 0

/-- ATTESTATION: a nonce at 0x2700:0D makes the report that 0x2700:0E reads. Every state offers it. -/
def execAttestation (c : Channel) (nonce : BitVec 256) (s : State) : Host.Outcome State Fault Refusal :=
  .next (s.requestOpen c [] fun s => s.setAuth c { s.auth c with report := s.attestReport nonce })

/-! ### Enrolment (R448, R466) -/

/-- The identity generation that an enrolment takes. -/
def Security.nextGeneration (v : Security) : Nat := if v.state = .zeroised then v.generation + 1 else v.generation

/-- A bank of an enrolled device: free, with its wear kept. -/
def Bank.enrolled (k : Bank) : Bank :=
  { Bank.init with worn := k.worn, writes := k.writes, contents := k.contents, writtenMinute := k.writtenMinute }

/-- Every bank is free and every entry unbound; the resident copy is gone. -/
def State.forgetWeights (s : State) : State :=
  State.moveDeviceBase { s with
    banks := dropDefault Bank.init (mapValues s.banks Bank.enrolled)
    engines := dropDefault Engine.init (mapValues s.engines fun g => { g with xlat := [], badX := [] })
    weights := { s.weights with
      residents := [], residentPresent := false, plansStale := true, lastCommitted := [], sets := [], loadSet := none
      waitingWrites := [] } }

/-- The keys of a new generation: roots from the DRBG, die keys derived from them. -/
def State.newKeys (s : State) (anchor : Nat) : State :=
  let v := s.sec
  let cg := if v.state = .zeroised then v.cloakGen + 1 else 0
  { s with sec := { v with
    generation := v.nextGeneration, officer := some anchor, cloakRoot := some v.drbg, storageKey := some (v.drbg + 1)
    drbg := v.drbg + 2, cloakGen := cg
    dieKeys := (List.range 16).map fun k => some (Config.dieKey v.drbg k cg)
    state := .operational, alarm := 0, alarmEver := 0, alarmN := false, safeN := s.svc.supervisorFailed } }

/-- The token verifies and names the generation. -/
def State.tokenOk (s : State) (t : Token) : Bool := s.trailerOk 5 t.trailer && decide (t.generation = s.sec.nextGeneration)

/-- ENROLMENT: a vendor-signed token at 0x2700:11, in the unprovisioned and zeroised states. -/
def execEnrolment (c : Channel) (token : Token) (s : State) : Host.Outcome State Fault Refusal :=
  .next (
    let offered := (decide (s.sec.state = .unprovisioned) || decide (s.sec.state = .zeroised)) &&
      decide (s.sec.nextGeneration ≤ 3) && !s.sec.disabled.contains s.sec.nextGeneration
    if s.serves c && !s.svc.restarting && offered && !s.tokenOk token then
      (if s.trailerOk 5 token.trailer then s else s.event 0x6015 deviceHandle).answer c 0x06090030 []
    else s.requestOpen c [(!offered, 0x08000022)] fun s =>
      let s1 := if s.sec.state = .zeroised then s.forgetWeights else s
      ((s1.newKeys token.officerAnchor).event 0x6018 deviceHandle).moduleFrom s)

end Sys2Proof.Machine
end

