-- ==== Sys2Proof/Machine/Objects.lean ====
section
/-!
DEFINITION. The objects of the dictionary (spec/18): access codes and lengths, the ranges of settings, and the records that
settings of OCTET_STRING type carry. A key is 256 × index + subindex.
-/
namespace Sys2Proof.Machine

/-- Access codes of R494. -/
inductive Access | ro | wo | rw | rwi | rwc
  deriving DecidableEq, Repr

/-- An object: its access code and its length in bytes; none where the length varies. -/
structure ObjSpec where
  access : Access
  size : Option Nat
  deriving DecidableEq, Repr

def roObj (n : Nat) : Option ObjSpec := some ⟨.ro, some n⟩
def roVar : Option ObjSpec := some ⟨.ro, none⟩
def woObj (n : Nat) : Option ObjSpec := some ⟨.wo, some n⟩
def woVar : Option ObjSpec := some ⟨.wo, none⟩
def rwObj (n : Nat) : Option ObjSpec := some ⟨.rw, some n⟩
def rwVar : Option ObjSpec := some ⟨.rw, none⟩

/-- Subindices 1 to n. -/
def subs (n sub : Nat) (x : Option ObjSpec) : Option ObjSpec := if 1 ≤ sub ∧ sub ≤ n then x else none
/-- Subindex 0. -/
def sub0 (sub : Nat) (x : Option ObjSpec) : Option ObjSpec := if sub = 0 then x else none

/-- The object of a list, by subindex from 1 on. -/
def nthSub (xs : List (Option ObjSpec)) (sub : Nat) : Option ObjSpec := if sub = 0 then none else xs.getD (sub - 1) none

/-- Indices of event counter arrays (R497). -/
def counterIndex (ix : Nat) : Bool := [0x21FF, 0x22FF, 0x23FF, 0x24FF, 0x25FF, 0x26FF, 0x27FF, 0x29FF].contains ix

/-- Standard and process-data objects (R501, R515). -/
def specStandard (ix sub : Nat) : Option ObjSpec :=
  match ix with
  | 0x1000 => sub0 sub (roObj 4)
  | 0x1008 => sub0 sub (roObj 25)
  | 0x1009 => sub0 sub (roObj 2)
  | 0x100A => sub0 sub roVar
  | 0x1018 => subs 4 sub (roObj 4)
  | 0x1600 => subs 3 sub (roObj 4)
  | 0x1A00 => subs 8 sub (roObj 4)
  | 0x1C00 => subs 4 sub (roObj 1)
  | 0x1C12 => subs 1 sub (roObj 2)
  | 0x1C13 => subs 1 sub (roObj 2)
  | 0x6000 => nthSub [roObj 4, roObj 1, roObj 4, roObj 2, roObj 2, roObj 2, roObj 2, roObj 2] sub
  | 0x7000 => nthSub [rwObj 1, rwObj 1, rwObj 2] sub
  | _ => none

/-- Groups 0x2000 to 0x2400 (R502 to R506). -/
def specDevice (ix sub : Nat) : Option ObjSpec :=
  match ix with
  | 0x2000 => nthSub [roObj 1, rwObj 1, some ⟨.rwi, some 4⟩, rwObj 4, woObj 1, rwObj 1, roObj 1, roObj 1, woVar, roObj 4,
      roObj 4, roObj 4, roObj 4, roObj 16] sub
  | 0x2001 => subs 64 sub (roObj 16)
  | 0x2100 => nthSub [rwObj 2, rwObj 2, rwObj 2, rwObj 1, rwObj 1, rwObj 1, roObj 2, roObj 8, roObj 8] sub
  | 0x2101 => subs 18 sub (roObj 2)
  | 0x2102 => subs 32 sub (roObj 16)
  | 0x2103 => subs 18 sub (roObj 2)
  | 0x2104 => subs 16 sub (roObj 1)
  | 0x2105 => subs 18 sub (roObj 1)
  | 0x2106 => subs 17 sub (roObj 112)
  | 0x2107 => subs 32 sub (roObj 8)
  | 0x2110 => if sub = 0 then roObj 1 else rwObj 96
  | 0x2111 => subs 1 sub (rwObj 96)
  | 0x2200 => nthSub [roObj 2, woObj 1, some ⟨.rwi, some 1⟩] sub
  | 0x2201 => nthSub [rwObj 2, rwVar] sub
  | 0x2202 => subs 16 sub (roObj 16)
  | 0x2203 => subs 16 sub (roObj 4)
  | 0x2300 => nthSub [woObj 1, rwObj 8, rwObj 4, roObj 1, roObj 4, roObj 48, rwObj 1, woObj 1, roObj 1] sub
  | 0x2301 => subs 16 sub (roObj 32)
  | 0x2400 => nthSub [rwObj 1, rwObj 4, roObj 16, roObj 4, roObj 4, woObj 4, roObj 8, roObj 8] sub
  | 0x2401 => subs 16 sub (roObj 4)
  | _ => none

/-- Groups 0x2500 to 0x2800 (R507 to R510). -/
def specEngines (ix sub : Nat) : Option ObjSpec :=
  match ix with
  | 0x2500 => nthSub [rwObj 8, rwObj 8, rwObj 8, rwObj 8, rwObj 8, rwObj 4, rwObj 8, rwObj 8, roObj 1, woObj 8, roObj 1, woObj 1,
      roObj 1] sub
  | 0x2501 => subs 8 sub (rwObj 8)
  | 0x2502 => subs 16 sub (rwObj 16)
  | 0x2503 => subs 16 sub (rwObj 16)
  | 0x2504 => nthSub [rwObj 4, rwVar] sub
  | 0x2505 => subs 16 sub (rwObj 4)
  | 0x2506 => subs 16 sub (roObj 4)
  | 0x2507 => nthSub [rwObj 2, rwObj 8] sub
  | 0x2600 => nthSub [woObj 1, rwObj 8, rwObj 4, roObj 1, roObj 4, roObj 4, roObj 4, rwObj 1, rwObj 8, rwObj 8, rwObj 4,
      some ⟨.rwi, some 4⟩, rwObj 4, roObj 4] sub
  | 0x2700 => nthSub [roObj 1, roObj 1, roObj 1, roObj 1, roObj 32, woObj 5518, woObj 1, roObj 1216, woObj 1088, woObj 76,
      woObj 16, roObj 1, woObj 32, roObj 3584, woObj 1, rwObj 4, woObj 3440] sub
  | 0x2701 => subs 4 sub roVar
  | 0x2702 => subs 6 sub rwVar
  | 0x2703 => subs 32 sub (roObj 8)
  | 0x2800 => nthSub [rwObj 1, roObj 1, roObj 1, roObj 2, roObj 2, roObj 2, roObj 2, roObj 2] sub
  | 0x2801 => subs 16 sub (roObj 2)
  | _ => none

/-- Segment of an index 0x2910 + 16s or 0x2911 + 16s. -/
def segmentOf (ix : Nat) : Nat := ix / 16 % 16 - 1

/-- Groups 0x2900, 0x2A00 and 0x2E00 (R511 to R513). -/
def specStreams (ix sub : Nat) : Option ObjSpec :=
  if ix = 0x2910 ∨ ix = 0x2920 ∨ ix = 0x2930 then
    nthSub [woObj 1, rwObj 8, rwObj 4, roObj 1, rwObj 4, rwObj 4, rwObj 2] sub
  else if ix = 0x2911 ∨ ix = 0x2921 ∨ ix = 0x2931 ∨ ix = 0x2940 ∨ ix = 0x2941 then subs 128 sub (rwObj 16)
  else match ix with
  | 0x2900 => subs 1 sub (rwObj 4)
  | 0x2950 => nthSub [rwObj 1, rwObj 2, rwObj 1, rwObj 1, rwVar] sub
  | 0x2960 => subs 8 sub (rwObj 24)
  | 0x2970 => subs 16 sub (rwObj 64)
  | 0x2A00 => nthSub [rwObj 1, rwObj 1, woObj 1, roObj 4, woObj 4, roObj 4] sub
  | 0x2E00 => nthSub [roObj 4, rwObj 2, rwObj 4, roObj 32, woObj 4, roObj 4] sub
  | 0x2E01 => nthSub [rwObj 4, roObj 32] sub
  | _ => none

/-- The object at an index and subindex outside the unit windows. Selectors of windows are objects 0x4w00:01 (R41). -/
def objectSpec (ix sub : Nat) : Option ObjSpec :=
  if counterIndex ix then subs 255 sub (some ⟨.rwc, some 4⟩)
  else if 0x4000 ≤ ix then
    if ix < 0x5000 ∧ ix % 256 = 0 then subs 1 sub (rwObj 4) else specStandard ix sub
  else if ix < 0x2000 then specStandard ix sub
  else if ix < 0x2500 then specDevice ix sub
  else if ix < 0x2900 then specEngines ix sub
  else specStreams ix sub

/-- Some subindex of the index is listed. -/
def indexListed (ix : Nat) : Bool := (List.range 256).any fun sub => (objectSpec ix sub).isSome

/-- Objects that revision 5 adds (R498). -/
def revisionFive (ix : Nat) : Bool := [0x2507, 0x2960, 0x2E01].contains ix

/-! ### Ranges of numeric settings (R496, R502 to R513) -/

/-- Lowest and highest value of a setting, and what it is a multiple of. -/
def State.settingRange (s : State) (k : Nat) : Option (Int × Int × Nat) :=
  let t : Int := s.accepted 0x200003
  let top : Int := 0xFFFFFFFFF
  let any4 : Option (Int × Int × Nat) := some (0, 0xFFFFFFFF, 1)
  let any8 : Option (Int × Int × Nat) := some (0, 0xFFFFFFFFFFFFFFFF, 1)
  let sub := k % 256
  if k / 256 = 0x2910 ∨ k / 256 = 0x2920 ∨ k / 256 = 0x2930 then
    if sub = 2 then some (0, top, 1) else if sub = 3 then some (0, 0x400000, 1) else if sub = 5 then some (20, t / 2, 1)
    else if sub = 6 then some (-400, t / 2, 1) else if sub = 7 then some (1, 100, 1) else none
  else if k / 256 = 0x2501 then any8
  else match k with
  | 0x200004 => some (1, t - 1, 1)
  | 0x210001 => some (160, 800, 1)
  | 0x210002 => some (160, 800, 1)
  | 0x210003 => some (100, 460, 1)
  | 0x210004 => some (1, 16, 1)
  | 0x210005 => some (0, 90, 1)
  | 0x210006 => some (15, 80, 5)
  | 0x220101 => some (1, 4095, 1)
  | 0x230002 => some (0, top, 256)
  | 0x230003 => any4
  | 0x230007 => some (0, 1, 1)
  | 0x240001 => some (1, 16, 1)
  | 0x240002 => any4
  | 0x250001 => any8
  | 0x250002 => any8
  | 0x250003 => any8
  | 0x250004 => any8
  | 0x250005 => any8
  | 0x250006 => some (0, 0x17FFFFF, 256)
  | 0x250007 => some (0, top, 8)
  | 0x250008 => some (0, top, 8)
  | 0x250401 => some (0x600000, 0x67FFFF, 1)
  | 0x250701 => some (0, 4095, 1)
  | 0x260002 => some (0, top, 256)
  | 0x260003 => any4
  | 0x260008 => some (0, 255, 1)
  | 0x260009 => some (0, top, 256)
  | 0x26000A => some (0, top + 1, 1)
  | 0x26000B => some (0, 0x17FFFFF, 16)
  | 0x26000D => any4
  | 0x270010 => any4
  | 0x290001 => some (0, 1000 * t - 1, 1)
  | 0x295001 => some (0, 2, 1)
  | 0x295002 => some (0, 0xFFFF, 1)
  | 0x2A0001 => some (0, 255, 1)
  | 0x2A0002 => some (0, 4, 1)
  | 0x2E0002 => some (0, 0xFFFF, 1)
  | 0x2E0003 => any4
  | 0x2E0101 => any4
  | _ => none

/-- Numeric value of a write: SYNC0 shifts are signed. -/
def settingValue (k v : Nat) : Int := if k % 256 = 6 ∧ k / 0x10000 = 0x29 then sint 32 v else v

/-- The value breaks a rule that its range does not state: an interface that does not exist, a Doze period that is no multiple
of T, a programme area that reaches into the resident copy (R485, R508, R569). -/
def State.settingClash (s : State) (k v : Nat) : Bool :=
  if k = 0x2A0001 then !ifaceValid v
  else if k = 0x291007 ∨ k = 0x292007 ∨ k = 0x293007 then decide (1000 * v % s.accepted 0x200003 ≠ 0)
  else if k = 0x260009 then decide (s.pcie.devbase < v + s.accepted 0x26000A)
  else if k = 0x26000A then decide (s.pcie.devbase < s.accepted 0x260009 + v)
  else false

/-- Abort code of a numeric value, 0 for none. -/
def State.settingAbort (s : State) (k v : Nat) : W32 :=
  match s.settingRange k with
  | none => 0x06020000
  | some (lo, hi, step) =>
    let x := settingValue k v
    if hi < x then 0x06090031 else if x < lo then 0x06090032
    else if v % step ≠ 0 ∨ s.settingClash k v then 0x06090030 else 0

/-! ### Records -/

def blankRecord (b : List Byte) : Bool := b.all (· = 0)

/-- A tile handle and rows that lie in a scratchpad. -/
def rowsOk (h : Handle) (row bytes : Nat) : Bool := (Handle.tile? h).isSome && Handle.physValid h && decide (row + (bytes + 255) / 256 ≤ 8192)

def doneOk (v : Nat) : Bool := decide (1 ≤ v) && decide (v ≤ 16383)

/-- Bytes of a segment image (R470). -/
def extentOk (offset length : Nat) : Bool := decide (1 ≤ length) && decide (length ≤ 1434) && decide (offset + length ≤ 1434)

/-- An input block entry (R479). -/
def inBlockOk (b : List Byte) : Bool :=
  let x := InBlock.parse b
  blankRecord b || (extentOk x.offset x.length && rowsOk x.tile x.row x.length && doneOk x.value && decide (fieldAt b 14 2 = 0) &&
    (decide (x.scope = 2) || (decide (x.scope = 0) && decide (x.ts < 64))))

/-- An output map entry (R480). -/
def outMapOk (b : List Byte) : Bool :=
  let x := OutMap.parse b
  blankRecord b || (decide (x.segment < 3) && decide (fieldAt b 1 1 = 0) && extentOk x.offset x.length &&
    rowsOk x.tile x.row x.length && decide (x.ready < 64) && decide (x.doneTs < 64) && doneOk x.doneValue)

/-- Output map entry that an object holds. -/
def outMapNumber (k : Nat) : Nat := (if k / 256 = 0x2941 then 128 else 0) + k % 256 - 1

/-- The entry overlaps another one in its segment's image (R481). -/
def State.outMapOverlaps (s : State) (n : Nat) (b : List Byte) : Bool :=
  let x := OutMap.parse b
  decide (x.length ≠ 0) && (List.range 256).any fun m =>
    let y := OutMap.parse (s.acceptedOctets (outMapKey m))
    decide (m ≠ n) && decide (y.length ≠ 0) && decide (y.segment = x.segment) && decide (y.offset < x.offset + x.length) &&
      decide (x.offset < y.offset + y.length)

/-- A sample stream record (R486). -/
def streamOk (b : List Byte) : Bool :=
  let x := Stream.parse b
  blankRecord b || (decide (x.segment < 3) && decide (fieldAt b 1 1 < 2) && decide (1 ≤ x.size) && decide (x.size ≤ 64) &&
    decide (1 ≤ x.maxCount) && decide (1 ≤ x.depth) && decide (x.depth ≤ 1048576) && decide (x.ring % 256 = 0) &&
    decide (x.ring + 256 + x.depth * x.size ≤ 0x1800000) && doneOk x.value && decide (fieldAt b 17 1 = 0) &&
    decide (fieldAt b 20 4 = 0))

/-- An encoder slot (R333). -/
def Encoder.parse (b : List Byte) : Encoder :=
  ⟨fieldAt b 0 1, fieldAt b 1 1, fieldAt b 2 2, BitVec.ofNat 32 (fieldAt b 4 4), BitVec.ofNat 32 (fieldAt b 8 4),
    BitVec.ofNat 32 (fieldAt b 12 4)⟩

def encoderOk (b : List Byte) : Bool :=
  let x := Encoder.parse b
  blankRecord b || (decide (x.seed < 4) && decide (x.format < 4) && decide (1 ≤ x.top))

/-- Bank settings (R357). -/
def bankSettingAbort (v : Nat) : W32 :=
  let pitch := bitsOf v 8 8
  if bitsOf v 17 15 ≠ 0 ∨ bitsOf v 2 6 ≠ 0 then 0x06090030
  else if 2 < v % 4 ∨ 64 < pitch then 0x06090031
  else if pitch < 4 then 0x06090032 else 0

/-- An image context (R313). -/
def ImgSettings.parse (b : List Byte) : ImgSettings :=
  { enable := decide (fieldAt b 52 1 % 2 = 1), port := fieldAt b 0 1, vc := fieldAt b 1 1, dtype := fieldAt b 2 1
    bayer := fieldAt b 3 1, cropX := fieldAt b 4 2, cropY := fieldAt b 6 2, cropW := fieldAt b 8 2, cropH := fieldAt b 10 2
    outW := fieldAt b 12 2, outH := fieldAt b 14 2, planes := fieldAt b 16 1
    matrix := (List.range 9).map fun k => sint 16 (fieldAt b (20 + 2 * k) 2)
    pad := fieldAt b 17 1, ring := fieldAt b 18 1, ringBase := fieldAt b 40 8, takeTs := BitVec.ofNat 8 (fieldAt b 19 1)
    mapOffset := fieldAt b 48 4 }

/-- Settings that a record gives: a blank one leaves the defaults. -/
def ImgSettings.ofRecord (b : List Byte) : ImgSettings := if blankRecord b then ImgSettings.unset else ImgSettings.parse b

/-- Plane sets that a source allows: RGB888 all but Y, Cb, Cr; RAW only red, green, blue (R314). -/
def planesFit (dtype planes : Nat) : Bool :=
  if dtype = 0 then decide (planes < 3) else if dtype = 1 then decide (planes = 0 ∨ planes = 2) else decide (planes = 2)

/-- Crop and output sizes along one axis. -/
def axisOk (at' crop out : Nat) : Bool :=
  decide (at' ≤ 8191) && decide (16 ≤ crop) && decide (crop ≤ 8192) && decide (16 ≤ out) && decide (out ≤ 2048) &&
    decide (crop ≤ 8 * out) && decide (out ≤ 2 * crop)

/-- The frame ring lies in the programme area in force: while that is empty, no ring can (R266, R313). -/
def State.ringInArea (s : State) (g : ImgSettings) : Bool :=
  decide (g.ringBase % 256 = 0) && decide (s.prog.areaBase ≤ g.ringBase) &&
    decide (g.bufferAt g.ring ≤ s.prog.areaBase + s.prog.areaSize)

/-- Another enabled context names the port and virtual channel (R537). -/
def State.portTaken (s : State) (n : Nat) (g : ImgSettings) : Bool :=
  g.enable && (List.range 16).any fun m =>
    let y := ImgSettings.parse (s.acceptedOctets (0x297001 + m))
    decide (m ≠ n) && y.enable && decide (y.port = g.port) && decide (y.vc = g.vc)

def State.imgContextOk (s : State) (n : Nat) (b : List Byte) : Bool :=
  let g := ImgSettings.parse b
  blankRecord b || (decide (g.port < 8) && decide (g.vc < 16) && decide (g.dtype < 5) && decide (g.bayer < 4) &&
    axisOk g.cropX g.cropW g.outW && axisOk g.cropY g.cropH g.outH && planesFit g.dtype g.planes && decide (3 ≤ g.ring) &&
    decide (g.ring ≤ 8) && s.ringInArea g && decide (g.mapOffset % 16 = 0) && decide (0x800000 ≤ g.mapOffset) &&
    decide (g.mapOffset < hubSize) && decide (fieldAt b 38 2 = 0) && decide (fieldAt b 52 1 < 2) && decide (fieldAt b 53 11 = 0) &&
    !s.portTaken n g)

/-! ### Phase entries (R398) -/

def Phase.bytes (p : Phase) (id : Nat) : List Byte :=
  leBytes 1 id ++ leBytes 1 (bit p.valid 0 + bit p.learned 1 + bit p.frozen 2 + bit p.host 3) ++ leBytes 1 p.seen ++
    leBytes 1 p.band ++ leBytes 4 p.start ++ leBytes 4 p.length ++ leBytes 1 p.limit ++ leBytes 3 0 ++
    ((List.range 18).flatMap fun d => leBytes 2 (p.mean.getD d 0) ++ leBytes 2 (p.peak.getD d 0)) ++ leBytes 8 0

def Phase.parse (b : List Byte) : Phase :=
  let f := fieldAt b 1 1
  { valid := decide (bitsOf f 0 1 = 1), learned := decide (bitsOf f 1 1 = 1), frozen := decide (bitsOf f 2 1 = 1)
    host := decide (bitsOf f 3 1 = 1), seen := fieldAt b 2 1, band := fieldAt b 3 1, start := fieldAt b 4 4
    length := fieldAt b 8 4, limit := fieldAt b 12 1
    mean := (List.range 18).map fun d => fieldAt b (16 + 4 * d) 2
    peak := (List.range 18).map fun d => fieldAt b (18 + 4 * d) 2 }

def phaseOk (id : Nat) (b : List Byte) : Bool :=
  decide (fieldAt b 0 1 = id) && decide (fieldAt b 1 1 < 16) && decide (fieldAt b 3 1 < 4) && decide (fieldAt b 12 1 ≤ 16) &&
    decide (fieldAt b 13 3 = 0) && decide (fieldAt b 88 8 = 0)

/-- Identifier of a phase object. -/
def phaseId (k : Nat) : Nat := if k = 0x211101 then 255 else k % 256 - 1

/-! ### Group descriptors (R27) -/

def GroupDesc.bytes (d : GroupDesc) : List Byte :=
  leBytes 2 d.number ++ leBytes 1 d.face ++ leBytes 1 (bit d.throttle 1 + bit d.locked 0) ++ leBytes 2 d.members.length ++
    leBytes 2 0 ++ leBytes 4 d.generation.toNat ++ leBytes 4 0 ++ d.members.flatMap fun h => leBytes 4 h.toNat

def GroupDesc.parse (b : List Byte) : GroupDesc :=
  { number := fieldAt b 0 2, face := fieldAt b 2 1, throttle := decide (bitsOf (fieldAt b 3 1) 1 1 = 1), locked := false
    generation := BitVec.ofNat 32 (fieldAt b 8 4)
    members := (List.range (fieldAt b 4 2)).map fun k => BitVec.ofNat 32 (fieldAt b (16 + 4 * k) 4) }

/-- Length and reserved fields of a descriptor as written. -/
def descriptorShape (b : List Byte) : Bool :=
  decide (20 ≤ b.length) && decide (b.length ≤ 1040) && decide (b.length = 16 + 4 * fieldAt b 4 2)
def descriptorReserved (b : List Byte) : Bool :=
  decide (fieldAt b 3 1 < 4) && decide (fieldAt b 6 2 = 0) && decide (fieldAt b 12 4 = 0)

/-! ### Event log entries (R434) -/

def LogEntry.bytes (e : LogEntry) : List Byte :=
  leBytes 2 e.code.toNat ++ leBytes 2 e.repeats ++ leBytes 4 e.handle.toNat ++ leBytes 4 e.sequence ++ leBytes 4 e.frame ++
    leBytes 8 e.time ++ leBytes 4 e.param.toNat ++ leBytes 2 e.aux.toNat ++ leBytes 1 (bit e.pers 1 + bit e.gap 0) ++ leBytes 1 0

/-- The log entry with a sequence number, once it is readable (R435). -/
def State.logEntry (s : State) (q : Nat) : Option LogEntry :=
  match s.svc.readable with
  | none => none
  | some n => if q ≤ n then s.svc.log.find? fun e => decide (e.sequence = q) else none

/-- The newest persistent entry with a sequence number; one of this power cycle once it is readable. -/
def State.persistentEntry (s : State) (q : Nat) : Option LogEntry :=
  match (s.svc.persistent.filter fun e => decide (e.sequence = q)).getLast? with
  | none => none
  | some e =>
    let here := s.svc.log.any fun x => decide (x.sequence = e.sequence) && decide (x.time = e.time) && decide (x.code = e.code)
    if here && (s.logEntry q).isNone then none else some e

end Sys2Proof.Machine
end

