-- ==== Sys2Proof/Machine/Units.lean ====
section
/-!
DEFINITION. The unit-handle windows (spec/02, spec/18): the subtree of each kind of unit, its reads, and the writes that a
window takes.
-/
namespace Sys2Proof.Machine

/-! ### The subtree (R514) -/

/-- Kinds of a row: every unit, groups, or one kind code. -/
inductive UnitKinds
  | all
  | groups
  | kind (k : Nat)
  deriving DecidableEq, Repr

/-- The row at an offset: its kinds, its lowest and highest subindex. -/
def subtreeRow (off : Nat) : Option (UnitKinds × Nat × Nat) :=
  match off with
  | 0x01 => some (.all, 0, 0)
  | 0x02 => some (.groups, 0, 0)
  | 0x10 => some (.kind 2, 0, 0)
  | 0x11 => some (.kind 2, 1, 9)
  | 0x12 => some (.kind 2, 0, 0)
  | 0x20 => some (.kind 3, 1, 16)
  | 0x21 => some (.kind 3, 0, 0)
  | 0x22 => some (.kind 3, 0, 0)
  | 0x23 => some (.kind 3, 0, 0)
  | 0x30 => some (.kind 4, 1, 4)
  | 0x31 => some (.kind 4, 1, 2)
  | 0x32 => some (.kind 4, 1, 4)
  | 0x40 => some (.kind 5, 0, 0)
  | 0x41 => some (.kind 5, 1, 2)
  | 0x50 => some (.kind 6, 0, 0)
  | 0x51 => some (.kind 6, 0, 0)
  | 0x52 => some (.kind 6, 0, 0)
  | 0x60 => some (.kind 7, 0, 0)
  | _ => none

/-- Access and length of an object of the subtree. -/
def subtreeSpec (off sub : Nat) : ObjSpec :=
  match off with
  | 0x01 => ⟨.ro, some 2⟩
  | 0x10 => ⟨.ro, some 2⟩
  | 0x11 => ⟨.ro, some 2⟩
  | 0x12 => ⟨.rwc, some 4⟩
  | 0x20 => ⟨.rw, some 16⟩
  | 0x21 => ⟨.ro, some 1⟩
  | 0x22 => ⟨.rwc, some 4⟩
  | 0x23 => ⟨.ro, some 4⟩
  | 0x30 => ⟨.rwc, some 4⟩
  | 0x31 => if sub = 1 then ⟨.rw, some 2⟩ else ⟨.ro, some 4⟩
  | 0x32 => ⟨.ro, some 1040⟩
  | 0x40 => ⟨.ro, some 1⟩
  | 0x41 => ⟨.ro, some 8⟩
  | 0x50 => ⟨.ro, some 32⟩
  | 0x51 => ⟨.ro, some 4⟩
  | 0x60 => ⟨.ro, some 2⟩
  | _ => ⟨.ro, none⟩

def UnitKinds.fits (ks : UnitKinds) (h : Handle) : Bool :=
  match ks with
  | .all => true
  | .groups => Handle.isGroup h
  | .kind k => decide (Handle.kind h = k)

/-- Abort code of an object of a window on unit h, 0 when it is there. -/
def subtreeAbort (h : Handle) (off sub : Nat) : W32 :=
  match subtreeRow off with
  | none => 0x06020000
  | some (ks, lo, hi) => if !ks.fits h then 0x06020000 else if sub < lo ∨ hi < sub then 0x06090011 else 0

/-- The unit that a window reads: for a group its first member in service (R514). -/
def State.shownUnit (s : State) (h : Handle) : Handle :=
  if Handle.isGroup h then
    let fs := flattened s.prog.groups h
    ((fs.filter s.unitIn).head?).getD (fs.headD 0)
  else h

/-! ### Layouts -/

/-- CRC-32 of a byte string (R114; polynomial and form of IEEE 802.3). -/
def crcByte (crc : Nat) (b : Byte) : Nat :=
  (List.range 8).foldl (fun (c : Nat) _ => if c % 2 = 1 then Nat.xor (c / 2) 0xEDB88320 else c / 2) (Nat.xor crc b.toNat)

def crc32 (bs : List Byte) : Nat := Nat.xor (bs.foldl crcByte 0xFFFFFFFF) 0xFFFFFFFF

/-- An engine part with its CRC (R114). -/
def EnginePart.bytes (p : EnginePart) (band : Nat) : List Byte :=
  let head := leBytes 1 band ++ leBytes 1 (bit p.valid 0) ++ leBytes 1 (uint 8 p.tj) ++ leBytes 1 0 ++ leBytes 4 p.time ++
    leBytes 4 p.generation.toNat
  let rest := (List.range 256).flatMap fun j => leBytes 2 (p.gains.getD j 0) ++ leBytes 2 (uint 16 (p.offsets.getD j 0))
  head ++ leBytes 4 (crc32 (head ++ rest)) ++ rest

/-- An array part (R114). -/
def ArrayPart.word (p : ArrayPart) : Nat :=
  p.z % 65536 * 2 ^ 48 + p.band % 4 * 2 ^ 46 + bit p.valid 45 + uint 8 p.tj * 2 ^ 37 + p.time % 2 ^ 32

/-- A translation table entry (R146). -/
def XEntry.word (x : XEntry) : Nat :=
  bit x.v 31 + bit x.pend 30 + setCode x.set * 2 ^ 28 + x.gs % 4 * 2 ^ 26 + x.fset.val * 2 ^ 24 + bit x.nv 23 +
    x.narray.val * 2 ^ 12 + bit x.nbank 11 + x.array.val * 2 + bit x.bank 0

def BankState.code : BankState → Nat
  | .free => 0
  | .writing => 1
  | .ready => 2
  | .pending => 3
  | .live => 4
  | .retained => 5

/-- A manifest entry. -/
def Bank.manifest (k : Bank) : List Byte :=
  leBytes 1 k.state.code ++ leBytes 1 (bit k.reserved 1 + bit k.worn 0) ++ leBytes 2 k.block ++ leBytes 4 k.writes ++
    leBytes 8 k.image.toNat ++ leBytes 16 k.digest.toNat

/-- A safety-net list header (R129). -/
def Bank.netHeader (k : Bank) : Nat := k.netCount * 2 ^ 23 + k.netBase % 2 ^ 17

def Stat.bytes (x : Stat) : List Byte :=
  leBytes 4 x.ctl.toNat ++ leBytes 4 x.val.toNat ++ leBytes 4 x.clip.toNat ++ leBytes 4 x.cnt.toNat

/-! ### Reads -/

/-- A tile's row of the subtree. -/
def State.readTile (s : State) (t : TileId) (off sub : Nat) : List Byte :=
  let x := s.tile t
  match off with
  | 0x20 => (mget Stat.reset x.statSnap (sub - 1)).bytes
  | 0x21 => leBytes 1 x.flagSnap.bits
  | 0x22 => leBytes 4 x.corrected.toNat
  | _ => leBytes 4 x.longest

def State.readEngine (s : State) (e : EngineId) (off sub : Nat) : List Byte :=
  let g := s.engine e
  match off with
  | 0x30 => leBytes 4 ([g.acc.run, g.acc.misses, g.acc.clamped, g.acc.largest].getD (sub - 1) 0).toNat
  | 0x31 => if sub = 1 then leBytes 2 g.blockSel else leBytes 4 (s.entryOf e g.blockSel).word
  | _ => (mget EnginePart.nominal g.parts (sub - 1)).bytes (sub - 1)

def State.readBank (s : State) (b off : Nat) : List Byte :=
  let k := s.bank b
  match off with
  | 0x50 => k.manifest
  | 0x51 => leBytes 4 k.netHeader
  | _ =>
    let x := s.tile (engineTile (bankEngine b))
    (List.range k.netCount).flatMap fun i => leBytes 4 (mget 0 x.pool (k.netBase + i)).toNat

def State.readArray (s : State) (e : EngineId) (a off sub : Nat) : List Byte :=
  let x := e.val * 2048 + 2 * a
  match off with
  | 0x40 => leBytes 1 (bit ((s.bank x).classB || (s.bank (x + 1)).classB) 0)
  | _ => leBytes 8 (s.bank (x + (sub - 1))).part.word

/-- A die's row: channel 0 belongs to the hub. -/
def State.readDie (s : State) (h : Handle) (off sub : Nat) : List Byte :=
  let ch := Handle.dieField h
  match off with
  | 0x10 => leBytes 2 (uint 16 (s.chan ch).tj)
  | 0x11 => leBytes 2 (Config.voltageTable ch (sub - 1))
  | _ => match Handle.die? h with
    | some d => leBytes 4 (s.die d).fecCorrected.toNat
    | none => leBytes 4 0

/-- What a unit shows at an offset of the subtree. -/
def State.readUnit (s : State) (u : Handle) (off sub : Nat) : List Byte :=
  match Handle.kind u with
  | 2 => s.readDie u off sub
  | 3 => match Handle.tile? u with
    | some t => s.readTile t off sub
    | none => []
  | 4 => match Handle.engine? u with
    | some e => s.readEngine e off sub
    | none => []
  | 5 => match Handle.inEngine? u with
    | some e => s.readArray e (Handle.arrayField u) off sub
    | none => []
  | 6 => match Handle.bank? u with
    | some b => s.readBank b off
    | none => []
  | 7 => match Handle.inEngine? u with
    | some e => leBytes 2 (Config.refZ e.val (Handle.arrayField u))
    | none => []
  | _ => []

/-- The selected block number and group descriptors are settings: they read as last written. The rest is as it stood at the last
frame boundary. -/
def State.readSubtree (s : State) (h : Handle) (off sub : Nat) : List Byte :=
  if off = 0x01 then leBytes 2 (s.shown.statusWord h)
  else if off = 0x02 then
    match GroupTable.find s.prog.groups (Handle.number h) with
    | some d => (GroupDesc.bytes { d with locked := s.groupLocked d.number })
    | none => []
  else if off = 0x31 ∧ sub = 1 then s.readUnit (s.shownUnit h) off sub
  else if off = 0x31 then
    match Handle.engine? (s.shownUnit h) with
    | some e => leBytes 4 (s.shown.entryOf e (s.engine e).blockSel).word
    | none => []
  else s.shown.readUnit (s.shownUnit h) off sub

/-! ### Windows (R41 to R44) -/

/-- The window of an index 0x4000 to 0x4FFF, and the path that reaches it (R42). -/
def windowOf (ix : Nat) : Fin 16 := Fin.ofNat 16 (ix / 256)
def windowPath (w : Fin 16) (c : Channel) : Bool := if w.val < 8 then decide (c = .p3) else decide (c = .mailbox)

def State.selected (s : State) (w : Fin 16) : Handle := s.dict.windows.getD w.val 0

/-- The units that a write through a window reaches: the members in service of a group, or the unit itself. -/
def State.reached (s : State) (h : Handle) : List Handle :=
  if Handle.isGroup h then (flattened s.prog.groups h).filter s.unitIn else [h]

/-- R44: a write to a unit out of service. A group that is valid no longer, because its descriptor was deleted or replaced with one of
another face after the selector was written, reaches no unit: the selector keeps it, its status reads 3, and writes through it end
with 0x08000022 (DESIGN CHOICE, log 88: R44 does not name the case). -/
def State.unitOut (s : State) (h : Handle) : Bool := (s.reached h).isEmpty || (s.reached h).any fun u => !s.unitIn u

/-- WINDOW_SELECTOR_WRITE: 0x4w00:01. -/
def execWindowSelectorWrite (c : Channel) (window : Fin 16) (h : Handle) (s : State) : Host.Outcome State Fault Refusal :=
  .next (s.request c [(!windowPath window c, 0x06010000), (!Handle.valid s.prog.groups h, 0x06090030)] fun s =>
    { s with dict := { s.dict with windows := s.dict.windows.set window.val h } })

/-- STAT_REGISTER_WRITE: STAT_CTL and STAT_CLIP at +0x20 of a tile's subtree, in force from the next frame boundary on. -/
def execStatRegisterWrite (c : Channel) (window : Fin 16) (sub : Byte) (ctl clip : W32) (s : State) :
    Host.Outcome State Fault Refusal :=
  let h := s.selected window
  .next (s.request c [(!windowPath window c, 0x06010000),
      (decide (subtreeAbort h 0x20 sub.toNat ≠ 0), subtreeAbort h 0x20 sub.toNat), (s.unitOut h, 0x08000022)] fun s =>
    forAll ((s.reached h).filterMap Handle.tile?) (fun s t =>
      s.modTile t fun x => { x with statPend := x.statPend ++ [(Fin.ofNat 16 (sub.toNat - 1), ctl, clip)] }) s)

/-- The accuracy counters of an engine with one of them cleared. -/
def AccCounters.cleared (a : AccCounters) (sub : Nat) : AccCounters :=
  match sub with
  | 1 => { a with run := 0 }
  | 2 => { a with misses := 0 }
  | 3 => { a with clamped := 0 }
  | _ => { a with largest := 0 }

/-- A counter of a unit is cleared. -/
def State.clearUnit (s : State) (u : Handle) (off sub : Nat) : State :=
  if off = 0x12 then
    match Handle.die? u with
    | some d => s.modDie d fun x => { x with fecCorrected := 0 }
    | none => s
  else if off = 0x22 then
    match Handle.tile? u with
    | some t => s.modTile t fun x => { x with corrected := 0 }
    | none => s
  else match Handle.engine? u with
    | some e => s.modEngine e fun g => { g with acc := g.acc.cleared sub }
    | none => s

/-- The counter of an event class array. -/
def State.clearEvents (s : State) (k : Nat) : State :=
  { s with svc := { s.svc with counters := mset 0 s.svc.counters k 0 } }

/-- COUNTER_CLEAR: 0 at an RWC object (R494). -/
def execCounterClear (c : Channel) (a : ObjAddr) (value : W32) (s : State) : Host.Outcome State Fault Refusal :=
  let ix := a.index.toNat
  let sub := a.sub.toNat
  let off := ix % 256
  let h := s.selected (windowOf ix)
  .next (
    if 0x4000 ≤ ix ∧ ix < 0x5000 then
      s.request c [(!windowPath (windowOf ix) c, 0x06010000),
        (decide (subtreeAbort h off sub ≠ 0), subtreeAbort h off sub),
        (decide ((subtreeSpec off sub).access ≠ .rwc), 0x06010002), (s.unitOut h, 0x08000022),
        (decide (value ≠ 0), 0x06090030)] fun s =>
        forAll (s.reached h) (fun s u => s.clearUnit u off sub) s
    else
      s.request c [(!counterIndex ix, 0x06020000), (decide (sub = 0), 0x06090011), (decide (value ≠ 0), 0x06090030)] fun s =>
        s.clearEvents a.key)

end Sys2Proof.Machine
end

