-- ==== Sys2Proof/Machine/Requests.lean ====
section
/-!
DEFINITION. Requests of the dictionary that act on the whole device: the power state (spec/20, R562 to R565), the frame period
(R296), and the event log (spec/15, R435, R513).
-/
namespace Sys2Proof.Machine

/-! ### The requested state (R562, R565) -/

/-- An earlier transition still runs. -/
def State.moving (s : State) : Bool × W32 := (s.toward.isSome, 0x08000022)

/-- The conditions of Run at a request that needs them. -/
def State.runForbidden (s : State) : Bool × W32 := (decide (s.power ≠ .run) && !s.runConditions, 0x08000022)

/-- What leaves Idle for Doze is refused for; a request of the state in force changes nothing. -/
def State.dozeForbidden (s : State) : Bool × W32 := (decide (s.power ≠ .doze) && s.dozeBusy, 0x08000022)

/-- The requested state is stored, and a loop-back ends that the state would not allow (R573). -/
def State.acceptRequest (s : State) (p : PState) : State :=
  (s.breakLoop { s with power := p }).acceptSetting 0x200002 p.code

/-- The device heads for a state unless it is in it: Run is entered at a frame start, and Doze is left by the steps of the wake. -/
def State.head (s : State) (p : PState) : State := if s.power = p then s else { s with toward := some p }

/-- REQUEST_RUN: 1 at 0x2000:02. -/
def execRequestRun (c : Channel) (s : State) : Host.Outcome State Fault Refusal :=
  .next (s.request c [s.moving, s.runForbidden] fun s => (s.acceptRequest .run).head .run)

/-- REQUEST_IDLE: 2 at 0x2000:02. -/
def execRequestIdle (c : Channel) (s : State) : Host.Outcome State Fault Refusal :=
  .next (s.request c [s.moving] fun s => (s.acceptRequest .idle).head .idle)

/-- REQUEST_DOZE: 3 at 0x2000:02. From Idle the steps of R563 run at once; from Run the frame in progress ends first. -/
def execRequestDoze (c : Channel) (s : State) : Host.Outcome State Fault Refusal :=
  .next (s.request c [s.moving, s.dozeForbidden] fun s =>
    let s1 := s.acceptRequest .doze
    if s1.power = .idle then s1.enterDoze else s1.head .doze)

/-! ### The frame period (R296, R475, R478, R502) -/

/-- Programmes whose longest path has to fit in the frame. -/
def State.keptProgrammes (s : State) : List Container :=
  s.prog.running.toList ++ s.prog.staged.toList ++ s.prog.retained.toList ++ s.prog.continuity

/-- The Doze period of some segment is no whole multiple of t µs. -/
def State.dozeMisfit (s : State) (t : Nat) : Bool :=
  (List.range 3).any fun k => decide (1000 * s.accepted (0x291007 + 0x1000 * k) % t ≠ 0)

/-- FRAME_PERIOD_WRITE: 0x2000:03, in Idle; it takes effect at a later edge. -/
def execFramePeriodWrite (c : Channel) (t : W32) (s : State) : Host.Outcome State Fault Refusal :=
  let n := t.toNat
  .next (s.request c [
      (decide (s.power ≠ .idle), 0x08000022), (decide (10000 < n), 0x06090031), (decide (n < 250), 0x06090032),
      (decide (n ≤ s.accepted 0x200004), 0x06090032),
      (s.keptProgrammes.any fun k => decide (frameCc n < longestOf k), 0x06090032),
      (s.dozeMisfit n, 0x06090030)] fun s =>
    ({ s with frame := { s.frame with nextPeriod := some (n, s.frame.number) } }).acceptSetting 0x200003 n)

/-! ### The event log (R435, R513) -/

/-- EVENT_ENTRY_READ: 0x2E00:04 gives the entry that 0x2E00:03 selects, and the selector advances. -/
def execEventEntryRead (c : Channel) (s : State) : Host.Outcome State Fault Refusal :=
  let q := s.accepted 0x2E0003
  .next (s.fetch c [((s.logEntry q).isNone, 0x08000024)]
    (match s.logEntry q with
    | some e => e.bytes
    | none => []) fun s => s.acceptSetting 0x2E0003 ((q + 1) % 0x100000000))

/-- Every readable entry up to a sequence number is acknowledged. -/
def State.acknowledge (s : State) (q : Nat) : State :=
  match s.svc.readable with
  | none => s
  | some n => { s with svc := { s.svc with acked := some (max (min q n) (s.svc.acked.getD 0)) } }

/-- EVENT_ACKNOWLEDGE: 0x2E00:05. -/
def execEventAcknowledge (c : Channel) (sequence : W32) (s : State) : Host.Outcome State Fault Refusal :=
  .next (s.requestOpen c [] fun s => s.acknowledge sequence.toNat)

/-- A read of 0x2E01:02 gives the persistent entry that 0x2E01:01 selects, and the selector advances. -/
def State.readPersistent (s : State) (c : Channel) : State :=
  let q := s.accepted 0x2E0101
  s.fetch c [((s.persistentEntry q).isNone, 0x08000024)]
    (match s.persistentEntry q with
    | some e => e.bytes
    | none => []) fun s => s.acceptSetting 0x2E0101 ((q + 1) % 0x100000000)

end Sys2Proof.Machine
end

