-- ==== Sys2Proof/Machine/TestOps.lean ====
section
/-!
DEFINITION. Test access (spec/21): the loop-backs of the hall of mirrors (R569 to R573, R580) and the test access port
(R576 to R579).
-/
namespace Sys2Proof.Machine

/-! ### Loop-backs -/

/-- The PCIe link goes down; its queues wait (R570). -/
def State.pcieDown (s : State) : State :=
  ({ s with pcie := { s.pcie with link := false } }).event 0x4061 deviceHandle

/-- What the interface under test loses while depths 1 to 3 run. -/
def State.takeIface (s : State) (i depth : Nat) : State :=
  if depth = 4 ∨ i ≤ 2 then s
  else if i = 3 then
    ({ s with ecat := { s.ecat with p3Link := false }, svc := { s.svc with emergency := [] } }).event 0x4055 deviceHandle
  else if i = 8 then s.pcieDown
  else if 0x10 ≤ i ∧ i ≤ 0x17 then s.spoilPort (i - 0x10)
  else if 0x40 ≤ i then s.dropLink (ifaceDie i) (ifaceModule i)
  else s

/-- LOOPBACK_START: 1 at 0x2A00:03, for the interface and depth that the objects name. Depth 4 adds no pattern and runs at
once. -/
def execLoopbackStart (c : Channel) (s : State) : Host.Outcome State Fault Refusal :=
  let i := s.accepted 0x2A0001
  let depth := s.accepted 0x2A0002
  .next (s.request c [
      (s.test.looping || decide (depth = 0) || !s.loopAllowed i depth || !loopChannelOk c i depth, 0x08000022)] fun s =>
    ({ s with test := { s.test with
      loopIface := some i, loopDepth := depth, loopState := if depth = 4 then 2 else 1, loopErrors := 0 } }).takeIface i depth)

/-- LOOPBACK_STOP: 2 at 0x2A00:03. -/
def execLoopbackStop (c : Channel) (s : State) : Host.Outcome State Fault Refusal :=
  .next (s.request c [(!s.test.looping, 0x08000022)] fun s => s.endLoop 5)

/-- LOOPBACK_LOCK_TIMEOUT: 10 ms without lock. -/
def execLoopbackLockTimeout (s : State) : Host.Outcome State Fault Refusal :=
  .next (if s.test.loopState = 1 then s.endLoop 3 else s)

/-! ### The test access port -/

/-- The port is powered. -/
def State.tapAlive (s : State) : Bool := s.vin

/-- TEST_EN reads 1 only on a device held out of boot (R576). -/
def State.testable (s : State) (testEn : Bool) : Bool := testEn && decide (s.power = .off) && decide (s.ecat.p3 = .init)

/-- MBIST and WSEL need a module without keys. -/
def State.keyless (s : State) : Bool := decide (s.sec.state = .unprovisioned) || decide (s.sec.state = .zeroised)

/-- BYPASS: a data register of one bit that captures 0. -/
def Test.bypass (x : Test) : Test := { x with ir := 0xFF, dataReg := 0 }

/-- An instruction of the port: its effect where it is allowed, BYPASS elsewhere. TEST_EN at 1 keeps the device out of boot with
SAFE_N asserted. -/
def State.tap (s : State) (testEn allowed : Bool) (f : State → State) : State :=
  if !s.tapAlive then s
  else if s.testable testEn && allowed then
    let s1 := f s
    { s1 with porst := false, test := { s1.test with testMode := true }, sec := { s1.sec with safeN := true } }
  else { s with test := s.test.bypass }

/-- The boundary register samples the balls; what stands there is the board's. -/
def State.sampleBalls (s : State) : State :=
  { s.takeFree with test := { s.test with boundary := Config.boundarySample s.free } }

/-- EXTEST: the balls take the boundary register. -/
def execExtest (testEn : Bool) (s : State) : Host.Outcome State Fault Refusal :=
  .next (s.tap testEn true fun s =>
    let s1 := s.sampleBalls
    { s1 with test := { s1.test with ir := 0x00, pinsFloat := false } })

/-- IDCODE. -/
def execIdcode (s : State) : Host.Outcome State Fault Refusal :=
  .next (if s.tapAlive then { s with test := { s.test with ir := 0x01, dataReg := 0xB1640A8F } } else s)

/-- SAMPLE/PRELOAD. -/
def execSamplePreload (testEn : Bool) (s : State) : Host.Outcome State Fault Refusal :=
  .next (s.tap testEn true fun s =>
    let s1 := s.sampleBalls
    { s1 with test := { s1.test with ir := 0x02 } })

/-- CLAMP: the balls keep the boundary register's values behind a bypass register. -/
def execClamp (testEn : Bool) (s : State) : Host.Outcome State Fault Refusal :=
  .next (s.tap testEn true fun s => { s with test := { s.test with ir := 0x04, dataReg := 0, pinsFloat := false } })

/-- HIGHZ: the balls float behind a bypass register. -/
def execHighz (testEn : Bool) (s : State) : Host.Outcome State Fault Refusal :=
  .next (s.tap testEn true fun s => { s with test := { s.test with ir := 0x05, dataReg := 0, pinsFloat := true } })

/-- WSEL: the wrapper of a die. Die field 0 is the hub, whose wrapper lies on the chain; a weight die answers through the sideband
of G0 or reads all ones. What an answering wrapper holds is its die's. -/
def execWsel (testEn : Bool) (dieField : Byte) (answers : Bool) (s : State) : Host.Outcome State Fault Refusal :=
  .next (s.tap testEn s.keyless fun s =>
    let live := decide (dieField = 0) || (answers && decide (dieField.toNat ≤ 16))
    { s.takeFree with test := { s.test with
      ir := 0x10, wrapper := some dieField.toNat
      dataReg := if live then BitVec.ofNat 64 (Config.boundarySample s.free) else BitVec.allOnes 64 } })

/-- MBIST on the dies of a mask: bit 0 the hub, bit k Wk−1. -/
def execMbist (testEn : Bool) (mask : BitVec 17) (s : State) : Host.Outcome State Fault Refusal :=
  .next (s.tap testEn s.keyless fun s => { s with test := { s.test with ir := 0x11, mbistMask := some mask } })

/-- MBIST_COMPLETE: one fail bit per memory instance. -/
def execMbistComplete (failBits : Nat) (s : State) : Host.Outcome State Fault Refusal :=
  .next (match s.test.mbistMask with
    | none => s
    | some _ => { s with test := { s.test with mbistMask := none, mbistResult := failBits } })

/-- BYPASS. -/
def execBypass (s : State) : Host.Outcome State Fault Refusal :=
  .next (if s.tapAlive then { s with test := s.test.bypass } else s)

end Sys2Proof.Machine
end

