-- ==== Sys2Proof/Machine/Staged.lean ====
section
/-!
DEFINITION. The structures that a host stages, as bytes: signature trailer (R450, R451), weight image (R162 to R165), plan set
(R174), routine container (R240 to R243), firmware image (R423) and enrolment token (R466). Signatures, hashes, decryption and
the walk of the code are open functions of the bytes.
-/
namespace Sys2Proof.Machine

/-- Entries of n bytes each. -/
def entriesAt (b : List Byte) (off n count : Nat) : List (List Byte) := (List.range count).map fun k => sliceBytes b (off + n * k) n

def word32 (b : List Byte) (off : Nat) : W32 := BitVec.ofNat 32 (fieldAt b off 4)

def signedField (b : List Byte) (off n : Nat) : Int := sint (8 * n) (fieldAt b off n)

/-- Bytes of a trailer (R450). -/
def trailerSize : Nat := 3440

/-! ### Trailer -/

/-- The key id names an accepted anchor for the purpose (R451). -/
def State.anchorAccepted (s : State) (purpose id : Nat) : Bool :=
  if purpose = 1 ∨ purpose = 5 then decide (id = Config.vendorKeyId)
  else s.sec.owners.any fun o => match o with
    | some k => decide (Config.keyId k = id)
    | none => false

/-- Verdict on a trailer at the end of a structure whose other bytes are `body`. -/
def State.readTrailer (s : State) (body t : List Byte) : Trailer :=
  let message := sliceBytes t 0 32 ++ body
  let shape := decide (fieldAt t 0 4 = 0x47534854) && decide (fieldAt t 4 1 = 1) && decide (t.length = trailerSize)
  { purpose := fieldAt t 5 1, svn := fieldAt t 8 4
    ecdsaOk := shape && Config.signatureOk 0 message t, mldsaOk := shape && Config.signatureOk 1 message t
    anchorOk := s.anchorAccepted (fieldAt t 5 1) (fieldAt t 16 16) }

/-! ### Weight image -/

/-- Level set of a SET code (R146). -/
def levelSetOf (n : Nat) : LevelSet :=
  match n with
  | 0 => .bell
  | 1 => .uniform4
  | 2 => .pair8
  | _ => .binary

/-- The code of cell (i, j) (R164). -/
def codeAt (b : List Byte) (binary : Bool) (i j : Nat) : Nat :=
  let n := 128 * j + i
  if binary then bitsOf (fieldAt b (16 + n / 8) 1) (n % 8) 1 else bitsOf (fieldAt b (16 + n / 2) 1) (4 * (n % 2)) 4

/-- A safety-net entry of an outlier list (R129). -/
def NetEntry.parse (x : Nat) : NetEntry :=
  ⟨bitsOf x 30 2, Fin.ofNat 128 (bitsOf x 23 7), Fin.ofNat 256 (bitsOf x 15 8), decide (bitsOf x 14 1 = 1), sint 8 (bitsOf x 0 8)⟩

/-- A block record's plaintext (R163). `ok`: its tag verified. -/
def BlockRecord.parse (b : List Byte) (ok : Bool) : BlockRecord :=
  let set := levelSetOf (fieldAt b 6 1)
  let binary := decide (set = .binary)
  let c := 16 + if binary then 4096 else 16384
  let groups := if binary then 0 else rows4 (fieldAt b 7 1)
  let scales := c + 2560
  let list := scales + 1024 * groups
  { engine := word32 b 0, block := fieldAt b 4 2, set := set, gs := fieldAt b 7 1
    calset := if fieldAt b 12 4 = 0xFFFFFFFF then none else some (fieldAt b 12 4)
    codes := (List.range 256).map fun j => (List.range 128).map fun i => codeAt b binary i j
    tempo := (List.range 256).map fun j => (List.range 4).map fun g => fieldAt b (c + 4 * j + g) 1
    exponent := (List.range 256).map fun j => fieldAt b (c + 1024 + j) 1
    fine := (List.range 256).map fun j => fieldAt b (c + 1280 + j) 1
    step := (List.range 256).map fun j => word32 b (c + 1536 + 4 * j)
    scales := if binary then [] else (List.range 256).map fun j => (List.range groups).map fun g => word32 b (scales + 4 * (groups * j + g))
    list := (List.range (fieldAt b 8 2)).map fun k => NetEntry.parse (fieldAt b (list + 4 * k) 4)
    tagOk := ok }

/-- A calibration set (R165). -/
def calsetOf (b : List Byte) : List (List Int) :=
  (List.range (fieldAt b 0 2)).map fun k => (List.range 128).map fun i => signedField b (4 + 256 * k + 2 * i) 2

/-- The ciphertext that a directory entry locates. -/
def extentAt (b : List Byte) (dir k : Nat) : List Byte := sliceBytes b (fieldAt b (dir + 16 * k) 8) (fieldAt b (dir + 16 * k + 8) 4)

/-- Every extent of a directory ends before the trailer. -/
def extentsEnd (b : List Byte) (dir count trailer : Nat) : Bool :=
  decide (dir + 16 * count ≤ trailer) && (List.range count).all fun k =>
    decide (fieldAt b (dir + 16 * k) 8 + fieldAt b (dir + 16 * k + 8) 4 ≤ trailer)

/-- A weight image as staged. -/
def Image.parse (b : List Byte) : Image :=
  let header := sliceBytes b 0 128
  let key := fieldAt b 64 16
  let blocks := fieldAt b 8 4
  let sets := fieldAt b 12 4
  let dir := fieldAt b 88 8
  let setDir := fieldAt b 96 8
  let trailer := fieldAt b 104 8
  let ok := extentsEnd b dir blocks trailer && extentsEnd b setDir sets trailer && decide (trailer + trailerSize = b.length)
  let rec' := (List.range (if ok then blocks else 0)).map fun k => Config.openRecord key header k (extentAt b dir k)
  let cal := (List.range (if ok then sets else 0)).map fun k => Config.openRecord key header (0x80000000 + k) (extentAt b setDir k)
  { magic := word32 b 0, major := fieldAt b 4 1, minor := fieldAt b 5 1, modelDigest := BitVec.ofNat 384 (fieldAt b 16 48)
    keyId := BitVec.ofNat 128 key, blocks := rec'.map fun r => BlockRecord.parse (r.getD []) r.isSome
    sets := cal.map fun r => calsetOf (r.getD []), setTagsOk := cal.all Option.isSome, extentsOk := ok, length := b.length }

/-! ### Plan set -/

def PlanEntry.parse (b : List Byte) : PlanEntry := ⟨word32 b 0, fieldAt b 4 2, word32 b 8, fieldAt b 12 2⟩

/-- A remap plan (R174). -/
def Plan.parse (b : List Byte) : Plan :=
  { lostDie := word32 b 0, outMask := BitVec.ofNat 16 (fieldAt b 8 2), programme := BitVec.ofNat 384 (fieldAt b 16 48)
    continuity := BitVec.ofNat 384 (fieldAt b 64 48), modelDigest := BitVec.ofNat 384 (fieldAt b 112 48)
    entries := (entriesAt b 160 16 (fieldAt b 4 4)).map PlanEntry.parse }

/-- Plans that stand one after the other (DESIGN CHOICE, log 19); `fuel` bounds their number. -/
def plansOf : Nat → List Byte → List Plan
  | 0, _ => []
  | fuel + 1, b => if b.isEmpty then [] else Plan.parse b :: plansOf fuel (b.drop (160 + 16 * fieldAt b 4 4))

/-! ### Routine container -/

/-- Section of a type: element count and offset. -/
def sectionOf (b : List Byte) (type : Nat) : Nat × Nat :=
  match (entriesAt b (fieldAt b 68 8) 16 (fieldAt b 12 4)).find? fun e => decide (fieldAt e 0 2 = type) with
  | some e => (fieldAt e 4 4, fieldAt e 8 8)
  | none => (0, 0)

/-- Elements of n bytes of a section. -/
def sectionEntries (b : List Byte) (type n : Nat) : List (List Byte) := entriesAt b (sectionOf b type).2 n (sectionOf b type).1

def Placement.parse (b : List Byte) : Placement :=
  { handle := word32 b 0, code := fieldAt b 4 4, length := fieldAt b 8 4, entry := fieldAt b 12 2
    constFirst := fieldAt b 16 2, constRows := fieldAt b 18 2, workFirst := fieldAt b 20 2, workRows := fieldAt b 22 2
    comb := unpackNat 4 (fieldAt b 24 8) 16 }

def FormatEntry.parse (b : List Byte) : FormatEntry :=
  let f := fieldAt b 1 1
  { width := fieldAt b 0 1, signed := decide (bitsOf f 0 1 = 1), perToken := decide (bitsOf f 1 1 = 1), window := decide (bitsOf f 2 1 = 1)
    zp := if bitsOf f 0 1 = 1 then signedField b 2 2 else (fieldAt b 2 2 : Int), sA := word32 b 4, clip := word32 b 8, invS := word32 b 12 }

def xkindOf (n : Nat) : XKind :=
  match n with
  | 1 => .move
  | 2 => .load
  | 3 => .store
  | 4 => .hload
  | 5 => .hstore
  | _ => .ticket

def MoveDesc.parse (b : List Byte) : MoveDesc :=
  { kind := xkindOf (fieldAt b 0 1), compress := decide (fieldAt b 1 1 % 2 = 1), count := fieldAt b 2 2, target := word32 b 4
    remote := fieldAt b 8 8, strides := (List.range 4).map fun k => signedField b (16 + 4 * k) 4
    doneScope := (match fieldAt b 32 1 with
      | 0 => .own
      | 1 => .group (Fin.ofNat 16 (fieldAt b 33 1))
      | 2 => .global
      | _ => .none)
    doneTs := BitVec.ofNat 8 (fieldAt b 34 1), doneValue := fieldAt b 36 2 }

def VariantRule.parse (b : List Byte) : VariantRule := ⟨BitVec.ofNat 48 (fieldAt b 0 8), BitVec.ofNat 48 (fieldAt b 8 8), fieldAt b 16 1⟩

/-- A variant group record. -/
def VariantGroup.parse (b : List Byte) : VariantGroup :=
  { paths := (entriesAt b 4 4 (fieldAt b 0 1)).map fun e => (fieldAt e 0 2, fieldAt e 2 2)
    rules := (entriesAt b (4 + 4 * fieldAt b 0 1) 24 (fieldAt b 1 1)).map VariantRule.parse }

/-- Records of varying length one after the other. -/
def recordsAt {α : Type} (size : List Byte → Nat) (f : List Byte → α) : Nat → List Byte → List α
  | 0, _ => []
  | n + 1, b => f b :: recordsAt size f n (b.drop (size b))

def StatSetup.parse (b : List Byte) : StatSetup := ⟨word32 b 0, Fin.ofNat 16 (fieldAt b 4 1), word32 b 8, word32 b 12⟩

def DataRows.parse (b : List Byte) : DataRows :=
  ⟨word32 b 0, fieldAt b 4 2, (entriesAt b 8 256 (fieldAt b 6 2)).map fun r => BitVec.ofNat 2048 (leNat r)⟩

/-- Bytes of an entry that its table marks as reserved. -/
def zeroBytes (b : List Byte) (off n : Nat) : Bool := (sliceBytes b off n).all fun x => decide (x = 0)

/-- The header and directory agree with R240 and R241. -/
def containerShape (b : List Byte) : Bool :=
  let dir := entriesAt b (fieldAt b 68 8) 16 (fieldAt b 12 4)
  let types := dir.map fun e => fieldAt e 0 2
  decide (fieldAt b 12 4 ≤ 12) && decide (types.eraseDups = types) && (types.all fun t => decide (1 ≤ t) && decide (t ≤ 12)) &&
    (dir.all fun e => zeroBytes e 2 2) && decide (fieldAt b 6 2 < 4) && zeroBytes b 67 1 && zeroBytes b 84 44 &&
    decide (fieldAt b 76 8 + trailerSize = b.length)

/-- Reserved fields and codes of the entries of each section (R215, R241). A field that a table gives only to some scopes or
kinds is 0 outside them. -/
def placementShape (b : List Byte) : Bool := zeroBytes b 14 2
def formatShape (b : List Byte) : Bool := decide (fieldAt b 1 1 < 8)
def descShape (b : List Byte) : Bool :=
  let kind := fieldAt b 0 1
  decide (1 ≤ kind) && decide (kind ≤ 6) && decide (fieldAt b 1 1 < 2) && (decide (kind = 1 ∨ kind = 6) || zeroBytes b 4 4) &&
    decide (fieldAt b 32 1 ≤ 3) && (if fieldAt b 32 1 = 1 then decide (fieldAt b 33 1 < 16) else zeroBytes b 33 1) &&
    zeroBytes b 35 1 && zeroBytes b 38 2
def variantShape (b : List Byte) : Bool :=
  zeroBytes b 2 2 && (entriesAt b (4 + 4 * fieldAt b 0 1) 24 (fieldAt b 1 1)).all fun e =>
    zeroBytes e 6 2 && zeroBytes e 14 2 && zeroBytes e 17 7
def bandShape (b : List Byte) : Bool := zeroBytes b 7 1
def setupShape (b : List Byte) : Bool := decide (fieldAt b 4 1 < 16) && zeroBytes b 5 3

/-- A routine container as staged. -/
def Container.parse (b : List Byte) : Container :=
  let variantSize : List Byte → Nat := fun r => 4 + 4 * fieldAt r 0 1 + 24 * fieldAt r 1 1
  let groupSize : List Byte → Nat := fun r => 16 + 4 * fieldAt r 4 2
  let variantBytes := recordsAt variantSize id (min 17 (sectionOf b 6).1) (b.drop (sectionOf b 6).2)
  let groupBytes := recordsAt groupSize id (min 4033 (sectionOf b 8).1) (b.drop (sectionOf b 8).2)
  { magic := word32 b 0, major := fieldAt b 4 1, minor := fieldAt b 5 1, continuity := decide (fieldAt b 6 1 % 2 = 1)
    copyIndex := bitsOf (fieldAt b 6 1) 1 1, programmeId := word32 b 8, modelDigest := BitVec.ofNat 384 (fieldAt b 16 48)
    digest := Config.sha384 b, frameTs := BitVec.ofNat 8 (fieldAt b 64 1), flipTs := BitVec.ofNat 8 (fieldAt b 65 1)
    commitTs := BitVec.ofNat 8 (fieldAt b 66 1)
    placements := (sectionEntries b 1 32).map Placement.parse
    code := (sectionEntries b 2 32).map fun w => BitVec.ofNat 256 (leNat w)
    formats := (sectionEntries b 3 16).map FormatEntry.parse
    strides := (sectionEntries b 4 8).map fun e => (List.range 4).map fun k => signedField e (2 * k) 2
    descs := (sectionEntries b 5 40).map MoveDesc.parse
    variants := variantBytes.map VariantGroup.parse
    groupSlots := (sectionEntries b 7 4).map fun e => word32 e 0
    groups := groupBytes.map GroupDesc.parse
    throttle := (sectionEntries b 9 4).map fun e => word32 e 0
    bands := (sectionEntries b 10 8).map fun e => ⟨word32 e 0, fieldAt e 4 2, fieldAt e 6 1⟩
    dataRows := recordsAt (fun r => 8 + 256 * fieldAt r 6 2) DataRows.parse (min b.length (sectionOf b 11).1) (b.drop (sectionOf b 11).2)
    stats := (sectionEntries b 12 16).map StatSetup.parse
    shapeOk := containerShape b && (sectionEntries b 1 32).all placementShape && (sectionEntries b 3 16).all formatShape &&
      (sectionEntries b 5 40).all descShape && variantBytes.all variantShape && groupBytes.all descriptorReserved &&
      (sectionEntries b 10 8).all bandShape && (sectionEntries b 12 16).all setupShape }

/-! ### Firmware and token -/

/-- A structure and its trailer, which ends it. -/
def bodyOf (b : List Byte) : List Byte := b.take (b.length - trailerSize)
def trailerOfBytes (b : List Byte) : List Byte := b.drop (b.length - trailerSize)

def State.readFirmware (s : State) (b : List Byte) : Firmware :=
  ⟨s.readTrailer (bodyOf b) (trailerOfBytes b), Config.firmwareVersion b, Config.sha384 b⟩

def State.readToken (s : State) (b : List Byte) : Token :=
  ⟨s.readTrailer (bodyOf b) (trailerOfBytes b), Config.tokenGeneration b, Config.tokenAnchor b⟩

/-! ### Staged in LPDDR5X -/

/-- Bytes at the address and length that two settings give. -/
def State.staged (s : State) (address length : Nat) : List Byte := s.lpddr.read (s.accepted address) (s.accepted length)

def State.stagedTrailer (s : State) (b : List Byte) : Trailer := s.readTrailer (bodyOf b) (trailerOfBytes b)

end Sys2Proof.Machine
end

