-- ==== Sys2Proof/Machine/Sdo.lean ====
section
/-!
DEFINITION. SDO accesses (spec/18): the address and access checks of every access, the value that a read of each object gives, the
effect of a write to it, and complete access. An object that has a command of its own acts as that command.
-/
namespace Sys2Proof.Machine

/-! ### Checks of the address (R492, R494, R496, R498) -/

def windowIndex (ix : Nat) : Bool := decide (0x4000 ≤ ix) && decide (ix < 0x5000)

/-- Abort code of an index and subindex, 0 when the object is there for the party. -/
def State.addressAbort (s : State) (c : Channel) (ix sub : Nat) : W32 :=
  if windowIndex ix then
    if !windowPath (windowOf ix) c then 0x06010000
    else if ix % 256 = 0 then (if sub = 1 then 0 else 0x06090011)
    else subtreeAbort (s.selected (windowOf ix)) (ix % 256) sub
  else if revisionFive ix && decide (s.revision c < 5) then 0x06020000
  else if !indexListed ix then 0x06020000
  else if (objectSpec ix sub).isNone then 0x06090011
  else 0

/-- Access code and length of an object that is there. -/
def specAt (ix sub : Nat) : ObjSpec :=
  if windowIndex ix && decide (ix % 256 ≠ 0) then subtreeSpec (ix % 256) sub else (objectSpec ix sub).getD ⟨.ro, none⟩

def Access.reads : Access → Bool
  | .wo => false
  | _ => true

/-- What forbids a read. -/
def State.uploadAbort (s : State) (c : Channel) (ix sub : Nat) : W32 :=
  let a := s.addressAbort c ix sub
  if a ≠ 0 then a else if (specAt ix sub).access.reads then 0 else 0x06010001

/-- What forbids a write of n bytes, whatever they say. -/
def State.downloadAbort (s : State) (c : Channel) (ix sub n : Nat) : W32 :=
  let a := s.addressAbort c ix sub
  let o := specAt ix sub
  if a ≠ 0 then a
  else if o.access = .ro ∨ (ix = 0x7000 ∧ c = .mailbox) then 0x06010002
  else if o.access = .rwi ∧ s.power ≠ .idle then 0x08000022
  else match o.size with
    | some k => if k = n then 0 else 0x06070010
    | none => 0

/-! ### Reads -/

/-- The variable that the fallback window names: segment, number and entry of the network configuration, the loaded one included
that waits for Idle. -/
def State.fallbackVariable (s : State) : Option (Nat × Nat × EniOutput) :=
  let seg := s.accepted 0x295001
  let v := s.accepted 0x295002
  match ((s.segment seg).nextEni.or (s.segment seg).eni) with
  | none => none
  | some n => if h : v < n.outputs.length then some (seg, v, n.outputs[v]) else none

/-- Standard objects (R501). The mapping entries give index, subindex and length in bits. -/
def State.readStandard (s : State) (ix sub : Nat) : List Byte :=
  let map : Nat → Nat → List Byte := fun i n => leBytes 4 (i * 0x10000 + sub * 256 + 8 * n)
  match ix with
  | 0x1000 => leBytes 4 0
  | 0x1008 => "Keallatrum Ahnoux AHX1640".toList.map fun ch => BitVec.ofNat 8 ch.toNat
  | 0x1009 => "B1".toList.map fun ch => BitVec.ofNat 8 ch.toNat
  | 0x100A => Config.versionString (if s.svc.activeB then s.svc.slotB.version else s.svc.slotA.version)
  | 0x1018 => leBytes 4 (match sub with
    | 1 => 0x0A47
    | 2 => 0x1640
    | 3 => 0x000500B1
    | _ => s.sec.serial.toNat % 0x100000000)
  | 0x1600 => map 0x7000 ([1, 1, 2].getD (sub - 1) 0)
  | 0x1A00 => map 0x6000 ([4, 1, 4, 2, 2, 2, 2, 2].getD (sub - 1) 0)
  | 0x1C00 => leBytes 1 sub
  | 0x1C12 => leBytes 2 0x1600
  | _ => leBytes 2 0x1A00

/-- Bytes of a history record of n-th age, or zeros where none is kept. -/
def recordAt (xs : List (List Byte)) (sub size : Nat) : List Byte := xs.getD (sub - 1) (List.replicate size 0)

/-- Wear bins and the largest count of a die (R505). -/
def wearBins (counts : List Nat) (banks : Nat) : List Byte :=
  let bounds := [1, 10, 100, 1000, 9000, 10000]
  let ge : Nat → Nat := fun b => (counts.filter fun n => decide (b ≤ n)).length
  let bins := (List.range 7).map fun k =>
    (if k = 0 then banks else ge (bounds.getD (k - 1) 0)) - (if k = 6 then 0 else ge (bounds.getD k 0))
  bins.flatMap (leBytes 4) ++ leBytes 4 (counts.foldl max 0)

/-- The record of die k (R504). -/
def State.dieRecord (s : State) (d : DieId) : List Byte :=
  let x := s.die d
  leBytes 2 (s.statusWord (dieHandle d)) ++ leBytes 1 x.outCause ++ leBytes 1 0 ++ leBytes 4 x.outMinute ++ leBytes 4 x.remapMinute ++
    leBytes 4 x.remapMs

/-- A phase entry: the last accepted write, or the entry as it stood at the last boundary. -/
def State.shownPhase (s v : State) (id : Nat) : Phase :=
  match (s.pwr.phaseWrites.filter fun (p : Nat × Phase) => decide (p.1 = id)).getLast? with
  | some p => p.2
  | none => v.phase id

/-- The value that a record or list of the device shows; `v` is the state as it stood at the last frame boundary. -/
def State.readRecord (s v : State) (c : Channel) (k : Nat) : Option (List Byte) :=
  let ix := k / 256
  let sub := k % 256
  let die : DieId := Fin.ofNat 16 (sub - 1)
  match ix with
  | 0x2001 => some (recordAt (v.svc.history.map fun h =>
      leBytes 1 h.1 ++ leBytes 1 h.2.1 ++ leBytes 2 0 ++ leBytes 4 h.2.2.1 ++ leBytes 8 h.2.2.2.toNat) sub 16)
  | 0x2102 => some (recordAt (v.pwr.energyLog.map fun e => leBytes 8 e.1 ++ leBytes 8 e.2) sub 16)
  | 0x2106 => some ((List.range 28).flatMap fun b => leBytes 4 (mget 0 v.pwr.thermalMinutes ((sub - 1) * 28 + b)))
  | 0x2107 => some (recordAt (v.pwr.trips.map fun t => leBytes 4 t.1 ++ leBytes 4 t.2) sub 8)
  | 0x2202 => some (v.dieRecord die)
  | 0x2301 => some (wearBins ((v.banks.filter fun p => decide (bankDie p.1 = die)).map fun p => p.2.writes) (256 * 2048))
  | 0x2703 => some (recordAt (v.sec.alarmLog.map fun a => leBytes 1 a.1 ++ leBytes 1 a.2.1 ++ leBytes 2 0 ++ leBytes 4 a.2.2) sub 8)
  | 0x2701 => some (Config.identityCert (sub - 1))
  | 0x2702 => some (match ([s.sec.officer, s.sec.user] ++ s.sec.owners).getD (sub - 1) none with
    | some a => leBytes 2049 a
    | none => [])
  | 0x2110 => some (if sub = 0 then leBytes 1 255 else (s.shownPhase v (phaseId k)).bytes (phaseId k))
  | 0x2111 => some ((s.shownPhase v 255).bytes 255)
  | _ =>
    if counterIndex ix then some (leBytes 4 (mget 0 v.svc.counters k))
    else match k with
    | 0x20000E => some (leBytes 16 s.sec.serial.toNat)
    | 0x200006 => some (leBytes 1 s.svc.confirm)
    | 0x220102 => some (match (mget none s.prog.groups (s.accepted 0x220101)) with
      | some d => GroupDesc.bytes { d with locked := s.groupLocked d.number }
      | none => [])
    | 0x240004 => some (leBytes 4 (v.die (dieOfField (BitVec.ofNat 8 (s.accepted 0x240001)))).stuck.length)
    | 0x250702 =>
      let g := mget ⟨0, 0⟩ s.deepTable (s.accepted 0x250701)
      some (leBytes 4 g.engine.toNat ++ leBytes 2 g.b0 ++ leBytes 2 0)
    | 0x26000C => some (leBytes 4 s.prog.tokenCounter)
    | 0x270004 => some (leBytes 1 1)
    | 0x27000E => some (s.auth c).report
    | 0x280005 => some (leBytes 2 0x0203)
    | 0x280006 => some (leBytes 2 0x0200)
    | 0x280007 => some (leBytes 2 0x0104)
    | 0x280008 => some (leBytes 2 0x0100)
    | 0x295003 => some (leBytes 1 (match s.fallbackVariable with
      | some x => s.accepted (fallbackKey x.1 x.2.1 3)
      | none => 0))
    | 0x295004 => some (leBytes 1 (match s.fallbackVariable with
      | some x => s.accepted (fallbackKey x.1 x.2.1 4)
      | none => 3))
    | 0x295005 => some (match s.fallbackVariable with
      | some x =>
        let w := s.acceptedOctets (fallbackKey x.1 x.2.1 5)
        if w.isEmpty then sliceBytes x.2.2.default 0 x.2.2.length else w
      | none => [])
    | 0x700001 => some (leBytes 1 s.prog.rxVariant.toNat)
    | 0x700002 => some (leBytes 1 (bit s.prog.useRx 0))
    | 0x700003 => some (leBytes 2 s.prog.heartbeat.toNat)
    | _ => none

/-- The value of an object that a read finds. Settings read as last written; octet strings never written read as zeros. -/
def State.readObject (s : State) (c : Channel) (ix sub : Nat) : List Byte :=
  let k := ix * 256 + sub
  if windowIndex ix then
    if ix % 256 = 0 then leBytes 4 (s.selected (windowOf ix)).toNat
    else s.readSubtree (s.selected (windowOf ix)) (ix % 256) sub
  else if ix < 0x2000 then s.readStandard ix sub
  else match s.readRecord s.shown c k with
    | some b => b
    | none => match s.readRuntime k with
      | some b => b
      | none =>
        if (s.settingRange k).isSome || decide (ix = 0x2505) || [0x200002, 0x200003, 0x220003, 0x280001].contains k then
          leBytes ((specAt ix sub).size.getD 4) (s.accepted k)
        else
          let w := s.acceptedOctets k
          if w.isEmpty then List.replicate ((specAt ix sub).size.getD 0) 0 else w

/-- The state that a command leaves; no command of this model stops. -/
def after (o : Host.Outcome State Fault Refusal) (s : State) : State :=
  match o with
  | .next t => t
  | _ => s

/-- An SDO upload of one subindex. -/
def State.upload (s : State) (c : Channel) (ix sub : Nat) : State :=
  let a := s.uploadAbort c ix sub
  if a ≠ 0 then s.fetch c [(true, a)] [] id
  else match ix * 256 + sub with
    | 0x240003 => after (execStuckMapRead c s) s
    | 0x270005 => after (execAuthChallenge c s) s
    | 0x270008 => after (execSessionOpen c s) s
    | 0x2E0004 => after (execEventEntryRead c s) s
    | 0x2E0102 => s.readPersistent c
    | _ => s.fetch c [] (s.readObject c ix sub) id

/-! ### Writes -/

/-- A write with a value that no command takes. -/
def State.refuseValue (s : State) (c : Channel) (a : W32) : State := s.request c [(true, a)] id

/-- Seeds, carousel keys and the tie seed (R327, R352). -/
def HdSettings.put (h : HdSettings) (k : Nat) (v : Nat) : HdSettings :=
  let w : W64 := BitVec.ofNat 64 v
  if k = 0x250005 then { h with tie := w }
  else if k / 256 = 0x2501 then { h with carousel := h.carousel.set (k % 256 - 1) w }
  else { h with seeds := h.seeds.set (k % 256 - 1) w }

/-- A changed carousel key or encoder slot is rebuilt first. -/
def Hd.rebuild (h : Hd) (item : Nat) : Hd :=
  { h with
    rebuilding := (h.rebuilding.filter fun k => decide (k ≠ item)) ++ [item]
    rebuilt := h.rebuilt.filter fun k => decide (k ≠ item) }

/-- What the write of a numeric setting sets besides the setting. -/
def State.settingEffect (s : State) (k v : Nat) : State :=
  if (0x250001 ≤ k ∧ k ≤ 0x250005) ∨ k / 256 = 0x2501 then
    let w := s.hd.written.put k v
    let h := { s.hd with written := w }
    { s with hd := if k / 256 = 0x2501 ∧ w ≠ s.hd.written then h.rebuild (k % 256 - 1) else h }
  else if k = 0x290001 then { s with frame := { s.frame with nextPhase := some (v, s.frame.number) } }
  else s

/-- A numeric setting. -/
def State.writeSetting (s : State) (c : Channel) (k v : Nat) : State :=
  let a := s.settingAbort k v
  s.request c [(decide (a ≠ 0), a)] fun s => (s.settingEffect k v).acceptSetting k v

/-- A setting that is a record: its check and the number of the entry. -/
def State.recordOk (s : State) (k : Nat) (b : List Byte) : Bool :=
  match k / 256 with
  | 0x2502 => encoderOk b
  | 0x2911 => inBlockOk b
  | 0x2921 => inBlockOk b
  | 0x2931 => inBlockOk b
  | 0x2940 => outMapOk b
  | 0x2941 => outMapOk b
  | 0x2960 => streamOk b
  | 0x2970 => s.imgContextOk (k % 256 - 1) b
  | _ => phaseOk (phaseId k) b

/-- What the write of a record sets besides the setting. -/
def State.recordEffect (s : State) (k : Nat) (b : List Byte) : State :=
  match k / 256 with
  | 0x2502 =>
    let n := k % 256 - 1
    let e := Encoder.parse b
    let h := { s.hd with written := { s.hd.written with encoders := mset Encoder.zero s.hd.written.encoders n e } }
    { s with hd := if e = mget Encoder.zero s.hd.written.encoders n then h else h.rebuild (8 + n) }
  | 0x2970 => s.modContext (k % 256 - 1) fun x => { x with next := some (ImgSettings.ofRecord b) }
  | 0x2110 => { s with pwr := { s.pwr with phaseWrites := s.pwr.phaseWrites ++ [(phaseId k, Phase.parse b)] } }
  | 0x2111 => { s with pwr := { s.pwr with phaseWrites := s.pwr.phaseWrites ++ [(phaseId k, Phase.parse b)] } }
  | _ => s

/-- A setting of OCTET_STRING type with its own record. An overlapping output map is refused with event 0x4050 (R481). -/
def State.writeRecord (s : State) (c : Channel) (k : Nat) (b : List Byte) : State :=
  let overlap := (decide (k / 256 = 0x2940) || decide (k / 256 = 0x2941)) && s.recordOk k b && s.outMapOverlaps (outMapNumber k) b
  if overlap && s.serves c && !s.svc.restarting && !s.wiped then
    (s.raise 0x4050 deviceHandle (openParam 0x4050 5 0) (BitVec.ofNat 16 (fieldAt b 0 1))).answer c 0x06090030 []
  else s.request c [(!s.recordOk k b || overlap, 0x06090030)] fun s => (s.recordEffect k b).acceptOctets k b

/-- The fallback window 0x2950:03 to 05 (R205, R511). -/
def State.writeFallback (s : State) (c : Channel) (sub : Nat) (b : List Byte) : State :=
  match s.fallbackVariable with
  | none => s.refuseValue c 0x06090030
  | some x =>
    let k := fallbackKey x.1 x.2.1 sub
    if sub = 5 then s.request c [(decide (b.length ≠ x.2.2.length), 0x06070010)] fun s => s.acceptOctets k b
    else s.request c [(decide (sub = 3) && decide (1 < leNat b), 0x06090031)] fun s => s.acceptSetting k (leNat b)

/-- Commands at 0x2300:01 (R505): the structure lies at 0x2300:02. -/
def State.weightCommand (s : State) (c : Channel) (v : Nat) : State :=
  let b := s.staged 0x230002 0x230003
  let t := s.stagedTrailer b
  if v = 1 then after (execLoadImage c (Image.parse b) t s) s
  else if v = 2 then after (execLoadImageHold c (Image.parse b) t s) s
  else if v = 3 then after (execArmHeldSet c none s) s
  else if v = 4 then after (execLoadPlanSet c (plansOf 17 (bodyOf b)) t s) s
  else if 0x10 ≤ v ∧ v < 0x14 then after (execCancelFlipSet c (Fin.ofNat 4 (v - 0x10)) s) s
  else s.refuseValue c 0x06090030

/-- Commands at 0x2600:01 (R508): the container lies at 0x2600:02. -/
def State.programmeCommand (s : State) (c : Channel) (v : Nat) : State :=
  let b := s.staged 0x260002 0x260003
  if v = 1 then after (execLoadContainer c (Container.parse b) (s.stagedTrailer b) s) s
  else if v = 2 then after (execSwitchStaged c s) s
  else if v = 3 then after (execSwitchRetained c s) s
  else s.refuseValue c 0x06090030

/-- Commands at 0x2700:0F (R509). -/
def State.securityCommand (s : State) (c : Channel) (v : Nat) : State :=
  if v = 1 then after (execSelfTest c (Config.selfTestPasses s.free) s.takeFree) s
  else if v = 2 then after (execClearLock c s) s
  else if v = 3 then after (execZeroise c s) s
  else if v = 4 then after (execRaiseVersionFloor c s) s
  else s.refuseValue c 0x06090030

/-- A credential at 0x2700:06: the key names the role's anchor, and the signatures verify for the channel's nonce (R445). -/
def State.writeCredential (s : State) (c : Channel) (b : List Byte) : State :=
  let role := fieldAt b 0 1
  let r : Role := if role = 1 then .officer else .user
  let key := decide (s.anchorOf r = some (fieldAt b 1 2049))
  let ok := key && (match (s.auth c).nonce with
    | some n => Config.credentialOk b n s.sec.serial
    | none => false)
  if (role = 1 ∨ role = 2) ∧ fieldAt b 5455 63 = 0 then after (execAuthenticate c r ok s) s else s.refuseValue c 0x06090030

/-- A group descriptor at 0x2201:02 (R27, R504). -/
def State.writeDescriptor (s : State) (c : Channel) (b : List Byte) : State :=
  if b.isEmpty then after (execGroupDescriptorWrite c none s) s
  else if !descriptorShape b then s.refuseValue c 0x06070010
  else if !descriptorReserved b then s.refuseValue c 0x06090030
  else after (execGroupDescriptorWrite c (some (GroupDesc.parse b)) s) s

/-- Writes to groups 0x2700 and 0x2702 (R509). -/
def State.writeSecurity (s : State) (c : Channel) (ix sub : Nat) (b : List Byte) : State :=
  if ix = 0x2702 then
    if b.isEmpty ∨ b.length = 2049 then
      let slot : AnchorSlot := if sub = 1 then .officer else if sub = 2 then .user else .owner (Fin.ofNat 4 (sub - 3))
      after (execAnchorWrite c slot (if b.isEmpty then none else some (leNat b)) s) s
    else s.refuseValue c 0x06070010
  else match sub with
  | 0x06 => s.writeCredential c b
  | 0x07 => after (execLogout c (BitVec.ofNat 8 (leNat b)) s) s
  | 0x09 => after (execSessionCiphertext c b s) s
  | 0x0A =>
    let ok := match (s.auth c).sessionKey with
      | some k => Config.importTagOk k b
      | none => false
    after (execImageKeyImport c (BitVec.ofNat 128 (fieldAt b 0 16)) ok s) s
  | 0x0B => after (execImageKeyDelete c (BitVec.ofNat 128 (leNat b)) s) s
  | 0x0D => after (execAttestation c (BitVec.ofNat 256 (leNat b)) s) s
  | 0x0F => s.securityCommand c (leNat b)
  | 0x11 => after (execEnrolment c (s.readToken b) s) s
  | _ => if s.isUser c then s.writeSetting c (ix * 256 + sub) (leNat b) else s.refuseValue c 0x08000022

/-- Process data written as objects through P3 (R515, R517). -/
def State.writeProcessData (s : State) (c : Channel) (sub : Nat) (b : List Byte) : State :=
  let v := leNat b
  s.request c [(decide (sub = 2) && decide (1 < v), 0x06090030)] fun s =>
    { s with prog :=
        if sub = 1 then { s.prog with rxVariant := BitVec.ofNat 8 v }
        else if sub = 2 then { s.prog with useRx := decide (v = 1) }
        else { s.prog with heartbeat := BitVec.ofNat 16 v } }

/-- Writes through a unit-handle window (R41 to R44, R514). -/
def State.writeWindow (s : State) (c : Channel) (ix sub : Nat) (b : List Byte) : State :=
  let w := windowOf ix
  let h := s.selected w
  if ix % 256 = 0 then after (execWindowSelectorWrite c w (BitVec.ofNat 32 (leNat b)) s) s
  else if ix % 256 = 0x20 then
    after (execStatRegisterWrite c w (BitVec.ofNat 8 sub) (word32 b 0) (word32 b 8) s) s
  else if ix % 256 = 0x31 then
    s.request c [(s.unitOut h, 0x08000022), (decide (2047 < leNat b), 0x06090031)] fun s =>
      forAll ((s.reached h).filterMap Handle.engine?) (fun s e => s.modEngine e fun g => { g with blockSel := leNat b }) s
  else after (execCounterClear c ⟨BitVec.ofNat 16 ix, BitVec.ofNat 8 sub⟩ (BitVec.ofNat 32 (leNat b)) s) s

/-- Writes to group 0x2000 (R502). -/
def State.writeControl (s : State) (c : Channel) (sub : Nat) (b : List Byte) : State :=
  let v := leNat b
  match sub with
  | 0x02 =>
    if v = 1 then after (execRequestRun c s) s else if v = 2 then after (execRequestIdle c s) s
    else if v = 3 then after (execRequestDoze c s) s
    else s.refuseValue c (if v = 0 then 0x06090032 else 0x06090031)
  | 0x03 => after (execFramePeriodWrite c (BitVec.ofNat 32 v) s) s
  | 0x05 =>
    if v = 1 then after (execFirmwareSwitch c s) s else if v = 2 then after (execFirmwareRevert c s) s
    else s.refuseValue c 0x06090030
  | 0x06 => after (execFirmwareConfirm c (BitVec.ofNat 8 v) s) s
  | 0x09 =>
    if b.length = 0 ∨ 0x800000 < b.length then s.refuseValue c 0x06070010
    else after (execFirmwareImageWrite c (s.readFirmware b) s) s
  | _ => s.writeSetting c (0x200000 + sub) v

/-- 1 at the first object of a segment loads the configuration file that the next two name. -/
def State.loadNetwork (s : State) (c : Channel) (seg : Fin 3) (v : Nat) : State :=
  let key := (0x2910 + 16 * seg.val) * 256
  if v = 1 then after (execLoadEni c seg (Config.readEni (s.staged (key + 2) (key + 3))) s) s else s.refuseValue c 0x06090030

/-- A write of an object with an effect of its own; none for a plain setting. -/
def State.writeSpecial (s : State) (c : Channel) (k : Nat) (b : List Byte) : Option State :=
  let v := leNat b
  let byte : Byte := BitVec.ofNat 8 v
  let ix := k / 256
  match ix with
  | 0x2000 => some (s.writeControl c (k % 256) b)
  | 0x2503 => some (after (execListTableWrite c (Fin.ofNat 16 (k % 256 - 1)) b s) s)
  | 0x2505 =>
    let a := bankSettingAbort v
    some (s.request c [(decide (a ≠ 0), a)] fun s => s.acceptSetting k v)
  | 0x2700 => some (s.writeSecurity c ix (k % 256) b)
  | 0x2702 => some (s.writeSecurity c ix (k % 256) b)
  | 0x7000 => some (s.writeProcessData c (k % 256) b)
  | _ =>
  if counterIndex ix then some (after (execCounterClear c ⟨BitVec.ofNat 16 ix, BitVec.ofNat 8 (k % 256)⟩ (BitVec.ofNat 32 v) s) s)
  else match k with
  | 0x220002 => some (after (execMarkOutDie c byte s) s)
  | 0x220003 => some (after (execClearOutMark c byte s) s)
  | 0x220102 => some (s.writeDescriptor c b)
  | 0x230001 => some (s.weightCommand c v)
  | 0x230008 => some (after (execSelectPlan c byte s) s)
  | 0x240006 => some (after (execQueueRecalibration c (BitVec.ofNat 32 v) s) s)
  | 0x25000A =>
    some (if fieldAt b 1 1 ≠ 0 then s.refuseValue c 0x06090030
      else after (execStartConsolidation c (BitVec.ofNat 8 (fieldAt b 0 1)) (BitVec.ofNat 16 (fieldAt b 2 2)) (BitVec.ofNat 16 (fieldAt b 4 2))
        (BitVec.ofNat 16 (fieldAt b 6 2)) s) s)
  | 0x25000C => some (after (execRequestRespread c byte s) s)
  | 0x250402 => some (after (execListWrite c b s) s)
  | 0x250702 => some (after (execDeepGroupWrite c b s) s)
  | 0x260001 => some (s.programmeCommand c v)
  | 0x26000C => some (s.request c [] fun s => { s with prog := { s.prog with tokenCounter := v } })
  | 0x280001 => some (after (execRevisionOffer c byte s) s)
  | 0x291001 => some (s.loadNetwork c 0 v)
  | 0x292001 => some (s.loadNetwork c 1 v)
  | 0x293001 => some (s.loadNetwork c 2 v)
  | 0x295003 => some (s.writeFallback c 3 b)
  | 0x295004 => some (s.writeFallback c 4 b)
  | 0x295005 => some (s.writeFallback c 5 b)
  | 0x2A0003 =>
    some (if v = 1 then after (execLoopbackStart c s) s else if v = 2 then after (execLoopbackStop c s) s
      else s.refuseValue c 0x06090030)
  | 0x2A0005 =>
    some (after (execStrongmanRun c (BitVec.ofNat 32 v) s) s)
  | 0x2E0005 => some (after (execEventAcknowledge c (BitVec.ofNat 32 v) s) s)
  | _ => none

/-- Objects whose write a level-3 alarm leaves open (R464). -/
def openWrite (k : Nat) : Bool := decide (k / 256 = 0x2E00) || decide (k / 256 = 0x2E01) || decide (k = 0x27000D) || decide (k = 0x270011)

/-- An SDO download to one subindex. -/
def State.download (s : State) (c : Channel) (ix sub : Nat) (b : List Byte) : State :=
  let k := ix * 256 + sub
  let a := s.downloadAbort c ix sub b.length
  if a ≠ 0 then (if openWrite k then s.requestOpen c [(true, a)] id else s.request c [(true, a)] id)
  else if windowIndex ix then s.writeWindow c ix sub b
  else match s.writeSpecial c k b with
    | some t => t
    | none =>
      if decide (ix / 256 = 0x2E) then
        let e := s.settingAbort k (leNat b)
        s.requestOpen c [(decide (e ≠ 0), e)] fun s => s.acceptSetting k (leNat b)
      else if (s.settingRange k).isSome then s.writeSetting c k (leNat b)
      else s.writeRecord c k b

/-! ### Complete access -/

/-- Abort code and data of the last access on a channel. -/
def State.abortOf (s : State) (c : Channel) : W32 :=
  match c with
  | .p3 => s.dict.p3Abort
  | .mailbox => s.dict.mbAbort
def State.dataOf (s : State) (c : Channel) : List Byte :=
  match c with
  | .p3 => s.dict.p3Data
  | .mailbox => s.dict.mbData

/-- Listed subindices of an index from 1 on, or from the one named. -/
def State.subindices (s : State) (c : Channel) (ix first : Nat) : List Nat :=
  (List.range 256).filter fun n => decide (max 1 first ≤ n) && decide (s.addressAbort c ix n = 0)

/-- Uploads of several subindices; the first abort ends the access without data. -/
def State.uploadMany (s : State) (c : Channel) (ix : Nat) : List Byte → List Nat → State
  | acc, [] => s.answer c 0 acc
  | acc, n :: ns =>
    let t := s.upload c ix n
    if t.abortOf c ≠ 0 then t else t.uploadMany c ix (acc ++ t.dataOf c) ns

/-- Downloads to several subindices; the first abort undoes the access. -/
def State.downloadMany (s start : State) (c : Channel) (ix : Nat) : List Byte → List Nat → State
  | b, [] => if b.isEmpty then s.answer c 0 [] else start.answer c 0x06070010 []
  | b, n :: ns =>
    match (specAt ix n).size with
    | none => start.answer c 0x06070010 []
    | some k =>
      if b.length < k then start.answer c 0x06070010 [] else
      let t := s.download c ix n (b.take k)
      if t.abortOf c ≠ 0 then start.answer c (t.abortOf c) [] else t.downloadMany start c ix (b.drop k) ns

/-- A complete access, whose subindices are there. -/
def State.completely (s : State) (c : Channel) (ix sub : Nat) (f : List Nat → State) : State :=
  let ns := s.subindices c ix sub
  let a := s.addressAbort c ix 1
  if ns.isEmpty then s.fetch c [(true, if a = 0 then 0x06090011 else a)] [] id
  else if !s.serves c ∨ s.svc.restarting then s.fetch c [] [] id
  else f ns

/-- One access with its answer. -/
def State.access (s : State) (c : Channel) (ix sub : Nat) (op : SdoOp) : State :=
  match op with
  | .upload => s.upload c ix sub
  | .download b => s.download c ix sub b
  | .uploadAll => s.completely c ix sub fun ns => s.uploadMany c ix [] ns
  | .downloadAll b => s.completely c ix sub fun ns => s.downloadMany s c ix b ns

/-- SDO_ACCESS (R12, R492 to R518). -/
def execSdoAccess (c : Channel) (a : ObjAddr) (op : SdoOp) (s : State) : Host.Outcome State Fault Refusal :=
  .next (s.access c a.index.toNat a.sub.toNat op)

end Sys2Proof.Machine
end

