-- ==== Sys2Proof/Machine/HostQueues.lean ====
section
/-!
DEFINITION. The host queues of the PCIe endpoint (spec/19, R524 to R530): rings, mailbox, HD commands, hints and events; and the
commands at whose end the HD queue may go on (LIST_END, OUTV_WRITE, SEARCH_COMPLETE, GLOBAL_UPDATE_ARRIVAL, FRAME_START).
-/
namespace Sys2Proof.Machine

/-! ### Rings (R524, R525) -/

/-- Entries of a queue, and the hub-buffer offset and size of its entries. -/
def queueLength (q : Nat) : Nat := [256, 256, 256, 256, 64, 1024].getD q 1
def queueBase (q : Nat) : Nat := [0x400000, 0x404000, 0x405000, 0x407000, 0x408000, 0x408400].getD q 0
def entrySize (q : Nat) : Nat := [64, 16, 32, 16, 16, 32].getD q 1

def State.hostIndex (s : State) (q : Nat) : Nat := s.pcie.hostIdx.getD q 0
def State.deviceIndex (s : State) (q : Nat) : Nat := s.pcie.devIdx.getD q 0

/-- The queues work: the link is up and the protocol is negotiated. -/
def State.queuesUp (s : State) : Bool := s.pcie.link && s.pcie.ready && decide (s.power ≠ .off)

/-- The host writes its index of a queue. -/
def State.setHostIndex (s : State) (q v : Nat) : State :=
  { s with pcie := { s.pcie with hostIdx := s.pcie.hostIdx.set q (v % queueLength q) } }

/-- The device index of a queue moves on. -/
def State.advanceQueue (s : State) (q : Nat) : State :=
  { s with pcie := { s.pcie with devIdx := s.pcie.devIdx.set q ((s.deviceIndex q + 1) % queueLength q) } }

/-- A host-to-device queue holds an entry that the device has not taken. -/
def State.waitingEntry (s : State) (q : Nat) : Bool := decide (s.deviceIndex q ≠ s.hostIndex q)

/-- A device-to-host queue has room for an entry. -/
def State.roomIn (s : State) (q : Nat) : Bool := decide ((s.deviceIndex q + 1) % queueLength q ≠ s.hostIndex q)

def State.entryAt (s : State) (q : Nat) : List Byte := s.hub.read (queueBase q + entrySize q * s.deviceIndex q) (entrySize q)

/-- The PHASE of a completion queue, 1 or 3, and its inversion at a wrap. -/
def phaseSlot (q : Nat) : Nat := q / 2
def State.phaseOf (s : State) (q : Nat) : Bool := s.pcie.phases.getD (phaseSlot q) true

/-- A completion entry is posted in queue 1 or 3. -/
def State.complete (s : State) (q : Nat) (tag status : W32) (length : Nat) : State :=
  let bytes := leBytes 4 tag.toNat ++ leBytes 4 status.toNat ++ leBytes 4 length ++ leBytes 1 (bit (s.phaseOf q) 0) ++ leBytes 3 0
  let s1 := { s with hub := s.hub.write (queueBase q + 16 * s.deviceIndex q) bytes }
  let wraps := decide (s.deviceIndex q + 1 = queueLength q)
  let s2 := { s1 with pcie := { s1.pcie with
    phases := if wraps then s1.pcie.phases.set (phaseSlot q) (!s1.phaseOf q) else s1.pcie.phases } }
  s2.advanceQueue q

/-! ### The mailbox (R518, R526, R527) -/

/-- A mailbox request entry. -/
structure MailboxRequest where
  op : Nat
  sub : Nat
  index : Nat
  tag : W32
  length : Nat
  place : Nat
  address : Nat
  inline : List Byte
  deriving DecidableEq, Repr

def MailboxRequest.parse (b : List Byte) : MailboxRequest :=
  ⟨fieldAt b 0 1, fieldAt b 1 1, fieldAt b 2 2, word32 b 4, fieldAt b 8 4, fieldAt b 12 1, fieldAt b 16 8, sliceBytes b 32 32⟩

/-- Offsets of the mailbox data area and of the inline return area. -/
def mailboxArea : Nat := 0x420000
def inlineArea : Nat := 0x5FE000

/-- The extent of a request is one that R527 allows. In Doze LPDDR5X is in self-refresh, and no address of place 1 is. -/
def State.extentAllowed (s : State) (r : MailboxRequest) : Bool :=
  if r.place = 0 then decide (r.address % 8 = 0) && decide (mailboxArea + r.address + r.length ≤ inlineArea)
  else if r.place = 1 then decide (r.address % 8 = 0) && decide (r.address + r.length ≤ s.pcie.devbase) && decide (s.power ≠ .doze)
  else true

/-- Status of a request that reaches no object, 0 where it does. -/
def State.requestFlaw (s : State) (r : MailboxRequest) : W32 :=
  if r.op = 0 ∨ 4 < r.op then 0x06070010
  else if 2 < r.place ∨ !s.extentAllowed r then 0x06090030
  else if r.place = 2 ∧ 32 < r.length ∧ r.op % 2 = 0 then 0x06070010
  else 0

/-- Bytes that a download carries. -/
def State.requestData (s : State) (r : MailboxRequest) : List Byte :=
  if r.place = 0 then s.hub.read (mailboxArea + r.address) r.length
  else if r.place = 1 then s.lpddr.read r.address r.length
  else r.inline.take r.length

/-- Data of an upload go to its place. A slot of the inline return area is filled with zeros behind them. -/
def State.returnData (s : State) (r : MailboxRequest) (data : List Byte) : State :=
  if r.place = 0 then { s with hub := s.hub.write (mailboxArea + r.address) data }
  else if r.place = 1 then { s with lpddr := s.lpddr.write r.address data }
  else { s with hub := s.hub.write (inlineArea + 32 * s.deviceIndex 1) (sliceBytes data 0 32) }

/-- The longest data that an upload may return. -/
def MailboxRequest.room (r : MailboxRequest) : Nat := if r.place = 2 then 32 else r.length

/-- The operation of a request. -/
def MailboxRequest.sdo (r : MailboxRequest) (data : List Byte) : SdoOp :=
  match r.op with
  | 1 => .upload
  | 2 => .download data
  | 3 => .uploadAll
  | _ => .downloadAll data

/-- One request is served: status and bytes transferred. An upload that is too long for its place leaves everything as it was. -/
def State.serveRequest (s : State) (r : MailboxRequest) : State × W32 × Nat :=
  let flaw := s.requestFlaw r
  if flaw ≠ 0 then (s, flaw, 0) else
  let t := s.access .mailbox r.index r.sub (r.sdo (s.requestData r))
  let a := t.abortOf .mailbox
  if a ≠ 0 then (t, a, 0)
  else if r.op % 2 = 0 then (t, 0, r.length)
  else if r.room < (t.dataOf .mailbox).length then (s, 0x06070010, 0)
  else (t.returnData r (t.dataOf .mailbox), 0, (t.dataOf .mailbox).length)

/-- Requests are served in order while completions have room. The Boolean says that a completion was posted. -/
def State.serveMailbox (s : State) (posted : Bool) : Nat → State × Bool
  | 0 => (s, posted)
  | fuel + 1 =>
    if !s.queuesUp || !s.waitingEntry 0 || !s.roomIn 1 then (s, posted) else
    let r := MailboxRequest.parse (s.entryAt 0)
    let (t, status, n) := s.serveRequest r
    ((t.advanceQueue 0).complete 1 r.tag status n).serveMailbox true fuel

/-- The mailbox goes on, and vector 0 signals new completions. -/
def State.runMailbox (s : State) : State :=
  let (t, posted) := s.serveMailbox false 256
  if posted then t.vector 0 else t

/-- MAILBOX_DOORBELL: a write of DB_0. -/
def execMailboxDoorbell (tail : W32) (s : State) : Host.Outcome State Fault Refusal :=
  .next (if s.queuesUp then (s.setHostIndex 0 tail.toNat).runMailbox else s)

/-! ### Host HD commands (R351, R525, R528) -/

/-- The meaning of a decoded HD or recall command. -/
def runHd (i : Instr) (s : State) : State :=
  match i with
  | .hdNop o => after (execHdNop o s) s
  | .gen o w d id k => after (execGen o w d id k s) s
  | .bind o w d a b => after (execBind o w d a b s) s
  | .not o w d a => after (execNot o w d a s) s
  | .hdCopy o w d a => after (execHdCopy o w d a s) s
  | .hdRot o w d a k => after (execHdRot o w d a k s) s
  | .car o w d a c v => after (execCar o w d a c v s) s
  | .bclr o c => after (execBclr o c s) s
  | .badd o w c a n m => after (execBadd o w c a n m s) s
  | .baddx o w c a b n m => after (execBaddx o w c a b n m s) s
  | .bthr o w d c => after (execBthr o w d c s) s
  | .level o w d k h => after (execLevel o w d k h s) s
  | .record o w d c h => after (execRecord o w d c h s) s
  | .seq o w d a c m r b => after (execSeq o w d a c m r b s) s
  | .loadv o w d h => after (execLoadv o w d h s) s
  | .storev o w a h => after (execStorev o w a h s) s
  | .sign o w d f h => after (execSign o w d f h s) s
  | .outv o w a t r n v => after (execOutv o w a t r n v s) s
  | .addg o n v => after (execAddg o n v s) s
  | .waitg o n => after (execWaitg o n s) s
  | .srch o w a d m c f e b x y h => after (execSrch o w a d m c f e b x y h s) s
  | .cstep o c p k h => after (execCstep o c p k h s) s
  | .glist o => after (execGlist o s) s
  | .cfree o c => after (execCfree o c s) s
  | .ins o w a b h => after (execIns o w a b h s) s
  | .del o b f n => after (execDel o b f n s) s
  | .upd o w a b k p h => after (execUpd o w a b k p h s) s
  | .rde o w b p h => after (execRde o w b p h s) s
  | .dcoll o c f e x y h => after (execDcoll o c f e x y h s) s
  | _ => s

/-- The command need not wait at issue. -/
def State.issues (s : State) (i : Instr) : Bool :=
  match i with
  | .srch _ _ _ _ _ c .. => s.cursorReady c.val && decide (s.rcl.queries.length < 16)
  | .rde .. => decide (s.rcl.queries.length < 16)
  | .cstep _ c .. => s.cursorReady c.val
  | .dcoll _ c .. => s.cursorReady c.val
  | .ins .. => !s.updatesFull
  | .del .. => !s.updatesFull
  | .upd .. => !s.updatesFull
  | .outv .. => decide (s.hd.outvs.length < 4)
  | .addg .. => !s.outvBusy .host && !s.recallBusy false
  | _ => true

/-- The host command in progress has completed: its searches are visible, its rows written, its wait over. -/
def State.hostDone (s : State) : Bool :=
  !s.recallBusy false && !s.outvBusy .host && (match s.hd.waiting with
    | some (.host, _) => false
    | _ => true)

/-- A RECORD command finds a descriptor that it may read (R336, R342). -/
def State.recordFits (s : State) (i : Instr) : Bool :=
  match i with
  | .record _ _ _ _ hbo => s.recordReadable s.hd.settings hbo.toNat
  | _ => true

/-- The command of a queue entry, where R325, R342 and R364 accept it. -/
def State.hostCommand (s : State) (b : List Byte) : Option Instr :=
  match hdDecode .host (BitVec.ofNat 128 (fieldAt b 0 16)) with
  | some i => if Instr.wf i && s.hd.settings.offsetOk i && s.recordFits i then some i else none
  | none => none

/-- One move of the HD command queue: the command in progress completes, or the next one is taken; none where it waits. One host
command is in progress at a time (DESIGN CHOICE, log 47). -/
def State.hdMove (s : State) : Option State :=
  if !s.queuesUp || !s.roomIn 3 then none
  else match s.hd.hostTag with
  | some tag =>
    if s.hostDone then
      some ({ s with hd := { s.hd with hostTag := none } }.complete 3 tag (if s.hd.hostPoison then 2 else 0) 0)
    else none
  | none =>
    if !s.waitingEntry 2 || !s.hdIdle || s.hd.waiting.isSome || !s.awake then none else
    let b := s.entryAt 2
    let tag := word32 b 16
    match s.hostCommand b with
    | none => some (((s.advanceQueue 2).deviceEvent 0x7013 0xFF).complete 3 tag 1 0)
    | some i =>
      if !s.issues i then none
      else some (runHd i { s.advanceQueue 2 with hd := { s.hd with hostTag := some tag, hostPoison := false } })

/-- The HD queue goes on as far as it can. -/
def State.serveHd (s : State) : Nat → State
  | 0 => s
  | fuel + 1 => match s.hdMove with
    | none => s
    | some t => t.serveHd fuel

/-- The HD queue goes on, and vector 1 signals new completions. -/
def State.runHdQueue (s : State) : State :=
  let t := s.serveHd 512
  if t.deviceIndex 3 = s.deviceIndex 3 then t else t.vector 1

/-- HD_DOORBELL: a write of DB_2. -/
def execHdDoorbell (tail : W32) (s : State) : Host.Outcome State Fault Refusal :=
  .next (if s.queuesUp then (s.setHostIndex 2 tail.toNat).runHdQueue else s)

/-- COMPLETION_QUEUE_DOORBELL: a write of DB_1 or DB_3 frees completion entries. -/
def execCompletionQueueDoorbell (hd : Bool) (head : W32) (s : State) : Host.Outcome State Fault Refusal :=
  .next (
    if !s.queuesUp then s
    else if hd then (s.setHostIndex 3 head.toNat).runHdQueue
    else (s.setHostIndex 1 head.toNat).runMailbox)

/-- LIST_END. -/
def execListEnd (n : Fin 16) (s : State) : Host.Outcome State Fault Refusal := .next (s.endList n).runHdQueue

/-- OUTV_WRITE. -/
def execOutvWrite (s : State) : Host.Outcome State Fault Refusal := .next s.writeOutv.runHdQueue

/-- SEARCH_COMPLETE. -/
def execSearchComplete (s : State) : Host.Outcome State Fault Refusal := .next s.completeSearch.runHdQueue

/-- GLOBAL_UPDATE_ARRIVAL. -/
def execGlobalUpdateArrival (s : State) : Host.Outcome State Fault Refusal := .next s.arriveGlobal.runHdQueue

/-- FRAME_START. -/
def execFrameStart (edge : EdgeInput) (s : State) : Host.Outcome State Fault Refusal := .next (s.frameStart edge).runHdQueue

/-! ### Hints (R529) -/

/-- A host command that the device does not act on is counted. -/
def State.countDrop (s : State) : State :=
  { s with pcie := { s.pcie with drop := BitVec.ofNat 32 (min 0xFFFFFFFF (s.pcie.drop.toNat + 1)) } }

/-- One hint entry. A length outside its range is ignored like the two cases of R529. -/
def State.takeHint (s : State) (b : List Byte) : State :=
  let id := fieldAt b 0 1
  let us := fieldAt b 4 4
  let start := fieldAt b 8 8
  let p := s.phase id
  if !p.host || decide (start < s.nowNs + 50000) || decide (us = 0) || decide (10000000 < us) then s.countDrop
  else { s with pwr := { s.pwr with hints := s.pwr.hints ++ [(id, start, us)] } }

def State.takeHints (s : State) : Nat → State
  | 0 => s
  | fuel + 1 => if s.waitingEntry 4 then ((s.takeHint (s.entryAt 4)).advanceQueue 4).takeHints fuel else s

/-- HINT_DOORBELL: a write of DB_4; version 3.0 has no hint queue. -/
def execHintDoorbell (tail : W32) (s : State) : Host.Outcome State Fault Refusal :=
  .next (if s.queuesUp && decide (s.pcie.hpver = 0x0301) then (s.setHostIndex 4 tail.toNat).takeHints 64 else s)

/-! ### Events (R530) -/

/-- The oldest readable log entry that the event queue has not had. -/
def State.nextForHost (s : State) : Option LogEntry :=
  match s.svc.readable with
  | none => none
  | some n => s.svc.log.find? fun e => decide (s.pcie.nextCopy ≤ e.sequence) && decide (e.sequence ≤ n)

def State.copyEvents (s : State) : Nat → State
  | 0 => s
  | fuel + 1 =>
    match s.nextForHost with
    | none => s
    | some e =>
      if !s.roomIn 5 then s else
      let k := s.deviceIndex 5
      let s1 := { s with
        hub := s.hub.write (queueBase 5 + 32 * k) e.bytes
        pcie := { s.pcie with nextCopy := e.sequence + 1, slotSeq := mput s.pcie.slotSeq k e.sequence } }
      (s1.advanceQueue 5).copyEvents fuel

/-- EVENT_QUEUE_COPY: vector 2 signals new entries. -/
def execEventQueueCopy (s : State) : Host.Outcome State Fault Refusal :=
  .next (
    if !s.queuesUp then s else
    let t := s.copyEvents 1024
    if t.deviceIndex 5 = s.deviceIndex 5 then t else t.vector 2)

/-- EVENT_DOORBELL: head h at DB_5 acknowledges every entry up to that of slot h − 1. -/
def execEventDoorbell (head : W32) (s : State) : Host.Outcome State Fault Refusal :=
  .next (
    if !s.queuesUp then s else
    let h := head.toNat % 1024
    let s1 := s.setHostIndex 5 h
    match s.pcie.slotSeq.find? fun p => decide (p.1 = (h + 1023) % 1024) with
    | some p => s1.acknowledge p.2
    | none => s1)

end Sys2Proof.Machine
end

