-- ==== Sys2Proof/Machine/Kv.lean ====
section
/-!
DEFINITION. The KV engine (spec/09): the spill of a frame's token to LPDDR5X and the gather of recalled tokens into tiles.
-/
namespace Sys2Proof.Machine

/-- The gather map header: layers, heads, capacity and the address of block 0. -/
structure GatherMap where
  layers : Nat
  heads : Nat
  capacity : Nat
  base : Nat
  deriving DecidableEq, Repr

/-- A gather map entry with its layer and head. -/
structure GatherEntry where
  layer : Nat
  head : Nat
  tile : Handle
  ring : Nat
  fetch : Nat
  doneTs : Byte
  doneValue : Nat
  deriving DecidableEq, Repr

def State.mapAddr (s : State) : Nat := routineArea + s.prog.gatherMap

def State.gatherHeader (s : State) : GatherMap :=
  let b := s.hub.read s.mapAddr 16
  ⟨fieldAt b 0 1, fieldAt b 1 1, fieldAt b 4 4, fieldAt b 8 8⟩

/-- The entries, layer-major. -/
def State.gatherEntries (s : State) : List GatherEntry :=
  let m := s.gatherHeader
  (List.range (m.layers * m.heads)).map fun k =>
    let b := s.hub.read (s.mapAddr + 16 + 16 * k) 16
    ⟨k / m.heads, k % m.heads, BitVec.ofNat 32 (fieldAt b 0 4), fieldAt b 4 2, fieldAt b 6 2, BitVec.ofNat 8 (fieldAt b 8 1),
      fieldAt b 10 2⟩

/-- Bytes of a record (R275). -/
def GatherMap.recordSize (m : GatherMap) : Nat := 8 + 260 * m.heads
/-- Record l of the block of token t. -/
def GatherMap.recordAt (m : GatherMap) (t l : Nat) : Nat :=
  m.base + t % m.capacity * (m.layers * m.recordSize) + l * m.recordSize

/-- A row of a tile as the hub reads it: poisoned when the die is out. -/
def State.hubRow (s : State) (t : TileId) (n : Nat) : Row := if s.tileIn t then (s.tile t).row n else Row.zero.allPoison

/-- Bytes on their way to memory: address, contents, and whether the word that they come from is poisoned. -/
abbrev MemPart := Nat × List Byte × Bool

/-- A part lies in part or whole in the memory word w. -/
def MemPart.touches (p : MemPart) (w : Nat) : Bool := decide (p.1 < 8 * w + 8) && decide (8 * w < p.1 + p.2.1.length)

/-- A part holds byte b. -/
def MemPart.holds (p : MemPart) (b : Nat) : Bool := decide (p.1 ≤ b) && decide (b < p.1 + p.2.1.length)

/-- Write parts together: a word is poisoned when a part in it is, and keeps its poison when bytes of it stay as they were
(R192, R540). -/
def ByteMem.writeParts (m : ByteMem) (ps : List MemPart) : ByteMem :=
  let words := (ps.flatMap fun p => (List.range ((p.1 + p.2.1.length + 7) / 8 - p.1 / 8)).map (p.1 / 8 + ·)).eraseDups
  { cells := ps.foldl (fun c p => msetMany 0 c p.1 p.2.1) m.cells
    poison := words.foldl (fun q w =>
      let mine := ps.filter fun p => MemPart.touches p w
      let whole := (List.range 8).all fun k => mine.any fun p => MemPart.holds p (8 * w + k)
      mset false q w ((mine.any fun p => p.2.2) || (!whole && m.poisoned (8 * w)))) m.poison }

/-- A row as parts, one per word, from any byte address on. -/
def Row.parts (r : Row) (a : Nat) : List MemPart :=
  (List.range 32).map fun w => (a + 8 * w, sliceBytes r.bytes (8 * w) 8, r.poison.getLsbD w)

/-! ### Spill (R276) -/

/-- What one entry of a spill of token t writes: the record's header, its head's scales, and the slot row. -/
def State.spillParts (s : State) (m : GatherMap) (t : Nat) (e : GatherEntry) : List MemPart :=
  match Handle.tile? e.tile with
  | none => []
  | some u =>
    let hdr := s.hubRow u (e.ring + 263)
    let a := m.recordAt t e.layer
    (a, leBytes 4 t ++ leBytes 4 (s.setting 0x26000D), false) ::
      (a + 8 + 4 * e.head, sliceBytes hdr.bytes 248 4, hdr.poison.getLsbD 31) ::
      (s.hubRow u (e.ring + 255)).parts (a + 8 + 4 * m.heads + 256 * e.head)

/-- KV_SPILL: the token of a frame whose spill turnstile completed. -/
def execKvSpill (s : State) : Host.Outcome State Fault Refusal :=
  .next (
    if !s.awake || !s.kv.spillDue then s else
    let t := s.prog.tokenCounter
    { s with
      lpddr := s.lpddr.writeParts (s.gatherEntries.flatMap (s.spillParts s.gatherHeader t))
      kv := { s.kv with spillDue := false }
      prog := { s.prog with tokenCounter := (t + 1) % 2 ^ 32 } })

/-! ### Gather (R277, R278) -/

/-- The slot row and the header entry of list position k: bytes, and whether they are poisoned. -/
def State.gatherSlot (s : State) (m : GatherMap) (e : GatherEntry) (list : List (W32 × Bool)) (k : Nat) :
    List Byte × List Byte × Bool × Bool :=
  let empty : List Byte × List Byte := (List.replicate 256 0, List.replicate 4 0 ++ leBytes 4 0xFFFFFFFF)
  match list[k]? with
  | none => (empty.1, empty.2, false, false)
  | some (w, poisoned) =>
    let t := w.toNat
    let first := m.recordAt t 0
    let a := m.recordAt t e.layer
    if poisoned then (empty.1, empty.2, false, true)
    else
      let bad := s.lpddr.anyPoison a m.recordSize || s.lpddr.anyPoison first 4
      if s.prog.tokenCounter ≤ t ∨ leNat (s.lpddr.read first 4) ≠ t then (empty.1, empty.2, bad, bad)
      else
        (s.lpddr.read (a + 8 + 4 * m.heads + 256 * e.head) 256,
          s.lpddr.read (a + 8 + 4 * e.head) 4 ++ leBytes 4 t, bad, bad)

/-- The 264 rows of an area. -/
def State.gatherRows (s : State) (e : GatherEntry) (list : List (W32 × Bool)) : List Row :=
  let m := s.gatherHeader
  let slots := (List.range 256).map (s.gatherSlot m e list)
  (slots.map fun x => Row.ofBytes x.1 (if x.2.2.1 then BitVec.allOnes 32 else 0)) ++
  (List.range 8).map fun r =>
    let part := (slots.drop (32 * r)).take 32
    Row.ofBytes (part.flatMap fun x => x.2.1) (BitVec.ofNat 32 (packNat 1 (part.map fun x => if x.2.2.2 then 1 else 0)))

/-- A gather starts once the KV engine is free and no spill is due (R276). -/
def State.startGather (s : State) : State :=
  if s.kv.list.isNone && s.kv.gatherDue && !s.kv.spillDue then
    { s with
      kv := { s.kv with list := some (s.rcl.handed.getD []), entry := 0, gatherDue := false }
      rcl := { s.rcl with handed := none } }
  else s

/-- The next entry of the gather asks for its tickets; after the last one the gather ends. -/
def State.requestGather (s : State) : Nat → State
  | 0 => s
  | fuel + 1 =>
    match s.kv.list with
    | none => s
    | some list =>
      match s.gatherEntries[s.kv.entry]? with
      | none => { s with kv := { s.kv with list := none, entry := 0 } }
      | some e =>
        let s1 := { s with kv := { s.kv with entry := s.kv.entry + 1 } }
        match Handle.tile? e.tile with
        | some t => s1.agentRequest 0x102 0 t e.fetch (s.gatherRows e list) (.tile t e.doneTs e.doneValue)
        | none => s1.requestGather fuel

/-- KV_GATHER: the granted entry is written, and the gather goes on to its next entry. -/
def execKvGather (s : State) : Host.Outcome State Fault Refusal :=
  .next (
    if !s.awake then s else
    let s1 := match s.agents.find? (fun a => decide (a.holder = 0x102) && a.granted) with
      | some a => s.agentWrite a false
      | none => s
    if s1.agents.any (fun a => decide (a.holder = 0x102)) then s1
    else
      let s2 := s1.startGather
      s2.requestGather (s2.gatherEntries.length + 1 - s2.kv.entry))

end Sys2Proof.Machine
end

