-- ==== Sys2Proof/Machine/PcieOps.lean ====
section
/-!
DEFINITION. The PCIe endpoint (spec/19, R519 to R523, R531 to R535; spec/20, R552): registers, resets, the two windows, and the
link.
-/
namespace Sys2Proof.Machine

/-! ### ENABLE and RESET (R522, R523) -/

/-- Every queue is empty, its indices 0; completions of requests that were taken are discarded. -/
def Pcie.emptied (p : Pcie) : Pcie :=
  { p with
    enable := false, ready := false, hpver := 0, hostIdx := List.replicate 6 0, devIdx := List.replicate 6 0
    phases := [true, true, true], slotSeq := [] }

/-- RESET. A host HD command that runs finishes without a completion. -/
def State.resetQueues (s : State) : State := { s with pcie := s.pcie.emptied, hd := { s.hd with hostTag := none } }

/-- Highest minor version at major 3 in an offer; none for 0xFF. -/
def offeredMinor (offer : List Byte) : Option Nat :=
  match offer.getD 3 0xFF with
  | 0xFF => none
  | m => some m.toNat

/-- ENABLE = 1: negotiation under R438 on DEVOFFER, which offers 3.1, and HOSTOFFER. -/
def State.enableQueues (s : State) (offer : List Byte) : State :=
  let p := { s.pcie with offer := offer, enable := true }
  match offeredMinor offer with
  | some m => { s with pcie := { p with ready := true, failed := false, hpver := BitVec.ofNat 16 (0x0300 + min 1 m) } }
  | none => { s with pcie := { p with ready := false, failed := true, hpver := 0 } }.event 0x8029 deviceHandle

/-- The endpoint answers the host. -/
def State.endpointUp (s : State) : Bool := s.pcie.link && decide (s.power ≠ .off)

/-- PCIE_ENABLE: HOSTOFFER and ENABLE = 1. -/
def execPcieEnable (offer : List Byte) (s : State) : Host.Outcome State Fault Refusal :=
  .next (if s.endpointUp then s.enableQueues offer else s)

/-- PCIE_RESET: RESET = 1. -/
def execPcieReset (s : State) : Host.Outcome State Fault Refusal := .next (if s.endpointUp then s.resetQueues else s)

/-- FUNCTION_LEVEL_RESET acts as RESET. -/
def execFunctionLevelReset (s : State) : Host.Outcome State Fault Refusal := .next (if s.endpointUp then s.resetQueues else s)

/-! ### BAR0 (R520, R521) -/

/-- ENABLE = 0: the queues are disabled. -/
def Pcie.disabled (p : Pcie) : Pcie := { p with enable := false, ready := false, hpver := 0 }

/-- A write of CTRL. -/
def State.writeCtrl (s : State) (v : Nat) : State :=
  if bitsOf v 1 1 = 1 then s.resetQueues
  else if bitsOf v 0 1 = 0 then { s with pcie := s.pcie.disabled }
  else if s.pcie.enable then s
  else s.enableQueues s.pcie.offer

/-- A write of 4 bytes to a register; a read-only one discards it. -/
def State.writeRegister (s : State) (o v : Nat) : State :=
  let w : W32 := BitVec.ofNat 32 v
  if 0x20 ≤ o ∧ o < 0x30 then
    { s with pcie := { s.pcie with offer := putBytes (sliceBytes s.pcie.offer 0 16) (o - 0x20) (leBytes 4 v) } }
  else match o with
  | 0x34 => s.writeCtrl v
  | 0x100 => after (execMailboxDoorbell w s) s
  | 0x108 => after (execCompletionQueueDoorbell false w s) s
  | 0x110 => after (execHdDoorbell w s) s
  | 0x118 => after (execCompletionQueueDoorbell true w s) s
  | 0x120 => after (execHintDoorbell w s) s
  | 0x128 => after (execEventDoorbell w s) s
  | _ => s

/-- A window write takes effect in the queue area and the HD part of the work areas. -/
def windowWritable (o n : Nat) : Bool :=
  (decide (0x400000 ≤ o) && decide (o + n ≤ 0x600000)) || (decide (0x600000 ≤ o) && decide (o + n ≤ 0x680000))

/-- A write to the MSI-X table: vectors that it unmasks leave the PBA and are sent. -/
def Pcie.writeMsix (p : Pcie) (o : Nat) (data : List Byte) : Pcie :=
  let q := { p with msixTable := putBytes (sliceBytes p.msixTable 0 128) o data }
  { q with
    msix := q.msix ++ q.msixPending.filter fun n => !q.masked n
    msixPending := q.msixPending.filter fun n => q.masked n }

/-- Offsets of the MSI-X table, written 4 or 8 bytes at a time. -/
def msixWritable (o n : Nat) : Bool :=
  decide (0x100000 ≤ o) && decide (o + n ≤ 0x100080) && decide (o % 4 = 0) && (decide (n = 4) || decide (n = 8))

/-- BAR0_WINDOW_WRITE at a BAR0 offset. Offsets below 0x10_0000 are registers, written 4 or 8 bytes at a time. -/
def execBar0WindowWrite (offset : Nat) (data : List Byte) (s : State) : Host.Outcome State Fault Refusal :=
  .next (
    if !s.endpointUp then s
    else if offset < 0x100000 then
      if offset % 4 ≠ 0 then s
      else if data.length = 4 then s.writeRegister offset (leNat data)
      else if data.length = 8 then (s.writeRegister offset (fieldAt data 0 4)).writeRegister (offset + 4) (fieldAt data 4 4)
      else s
    else if msixWritable offset data.length then { s with pcie := s.pcie.writeMsix (offset - 0x100000) data }
    else if offset < 0x400000 ∨ 0x800000 < offset + data.length then s
    else if windowWritable offset data.length then { s with hub := s.hub.write offset data }
    else s.countDrop)

/-! ### BAR2 (R532 to R534) -/

/-- An access that BAR2 refuses: in Doze, or to the device region. -/
def State.bar2Refused (s : State) (addr n : Nat) : Bool := decide (s.power = .doze) || decide (s.pcie.devbase < addr + n)

/-- BAR2_ACCESS. A read is as long as the data of the command. -/
def execBar2Access (write : Bool) (addr : Nat) (data : List Byte) (s : State) : Host.Outcome State Fault Refusal :=
  .next (
    let n := data.length
    if !s.endpointUp || decide (0x1000000000 < addr + n) then s
    else if s.bar2Refused addr n then
      let s1 := s.countDrop.event 0x4060 deviceHandle
      if write then s1 else { s1 with pcie := { s1.pcie with readData := [], readPoison := false } }
    else if write then { s with lpddr := s.lpddr.write addr data }
    else { s with pcie := { s.pcie with readData := s.lpddr.read addr n, readPoison := s.lpddr.anyPoison addr n } })

/-! ### The link (R520, R533, R535, R552) -/

/-- The endpoint restarts: its registers are at their defaults. -/
def Pcie.restarted (p : Pcie) : Pcie := { p.emptied with link := false, failed := false, offer := [], drop := 0, msix := [], msixTable := msixReset, msixPending := [] }

/-- PERST_N_ASSERT resets only the endpoint. -/
def execPerstNAssert (s : State) : Host.Outcome State Fault Refusal :=
  .next (
    if s.pcie.perst then s else
    let s1 := { s with pcie := { s.pcie.restarted with perst := true }, hd := { s.hd with hostTag := none } }
    if s.power = .off then s1 else s1.event 0x4061 deviceHandle)

/-- PERST_N_RELEASE: training starts; the link is up once PCIE_LINK_UP ends it. -/
def execPerstNRelease (s : State) : Host.Outcome State Fault Refusal :=
  .next { s with pcie := { s.pcie with perst := false } }

/-- PCIE_LINK_UP: training ends at the highest common rate, 1 for 2.5 GT/s to 5 for 32 GT/s, and width. In Doze the link stays at
2.5 GT/s x1. A retrain of a link that is up to a lower rate or width outside Doze raises 0x4061. -/
def execPcieLinkUp (rate width : Nat) (s : State) : Host.Outcome State Fault Refusal :=
  .next (
    if s.power = .off ∨ s.pcie.perst ∨ s.loopHolds 8 ∨ rate = 0 ∨ 5 < rate ∨ !([1, 2, 4, 8].contains width) then s else
    let lower := s.pcie.link && (decide (rate < s.pcie.rate) || decide (width < s.pcie.width))
    if s.power = .doze then
      { s with pcie := { s.pcie with link := true, rate := 1, width := 1, fullRate := rate, fullWidth := width } }
    else
      let s1 := { s with pcie := { s.pcie with link := true, rate := rate, width := width, fullRate := rate, fullWidth := width } }
      if lower then s1.event 0x4061 deviceHandle else s1)

/-- PCIE_LINK_LOSS, or a downgrade of a link that stays up; what rate and width a downgrade leaves is open. Loss restarts the
endpoint as RESET does (R567). -/
def execPcieLinkLoss (downgrade : Bool) (s : State) : Host.Outcome State Fault Refusal :=
  .next (
    if !s.endpointUp then s
    else if downgrade then
      if s.power = .doze then s else
      let rw := Config.retrained s.free
      { s.takeFree with pcie := { s.pcie with rate := rw.1, width := rw.2 } }.event 0x4061 deviceHandle
    else { s.resetQueues with pcie := { s.pcie.emptied with link := false } }.event 0x4061 deviceHandle)

end Sys2Proof.Machine
end

