-- ==== Sys2Proof/Machine/Startup.lean ====
section
/-!
DEFINITION. Reset and start-up (spec/20, spec/22): Off, the cold start with its checks, the restored boot set, wakes from Doze,
thermal trips and the loss of supply.
-/
namespace Sys2Proof.Machine

/-! ### Off (R19, R20, R454, R551, R586, R588) -/

/-- The marks of a die that outlive Off (R433, R441). -/
def Die.kept (x : Die) : Die :=
  { Die.init with
    out := x.out, outMark := x.outMark, outCause := x.outCause, outMinute := x.outMinute, outAt := x.outAt
    remapMinute := x.remapMinute, remapMs := x.remapMs, remapped := x.remapped, stuck := x.stuck, stuckFull := x.stuckFull
    classBMinutes := x.classBMinutes, ageStep := x.ageStep }

/-- The record area of an engine: its parts, its counters. -/
def Engine.kept (g : Engine) : Engine :=
  { Engine.init with
    parts := g.parts, nextParts := g.nextParts, acc := g.acc, lifeRun := g.lifeRun, lifeMiss := g.lifeMiss }

/-- A tile without core power. Its safety-net lists come from the record areas at the next start. -/
def Tile.lost (x : Tile) : Tile := { Tile.init with pool := x.pool }

/-- Records, firmware slots, persistent log and boot set of the ringmaster. -/
def Service.kept (v : Service) : Service :=
  { State.reset.svc with
    slotA := v.slotA, slotB := v.slotB, activeB := v.activeB, trial := v.trial, confirm := v.confirm, persistent := v.persistent
    minutes := v.minutes, minutesIn := v.minutesIn, history := v.history, boot := v.boot, savedCoeff := v.savedCoeff }

/-- The island's nonvolatile part and what the regulator controller latches; SAFE_N is asserted. -/
def Security.kept (v : Security) : Security :=
  { v with
    p3 := Auth.init, mailbox := Auth.init, imageKeys := [], dieKeys := List.replicate 16 none, testFailures := 0
    testsStopped := false, safeN := true }

/-- Energy counters, trips and thermal history outlive Off. -/
def Power.kept (p : Power) : Power :=
  { State.reset.pwr with
    energy := p.energy, energyEst := p.energyEst, energyLog := p.energyLog, thermTrip := p.thermTrip, tripDie := p.tripDie
    trips := p.trips, thermalMinutes := p.thermalMinutes, hubAge := p.hubAge }

/-- Core power is removed. -/
def State.powerOff (s : State) : State :=
  { State.reset with
    pending := s.pending, now := s.now, vin := s.vin, porst := s.porst, free := s.free
    tiles := dropDefault Tile.init (mapValues s.tiles Tile.lost)
    engines := dropDefault Engine.init (mapValues s.engines Engine.kept)
    dies := dropDefault Die.init (mapValues s.dies Die.kept)
    banks := s.banks
    weights := { State.reset.weights with liveDigest := s.weights.liveDigest, lastCommitted := s.weights.lastCommitted }
    svc := s.svc.kept
    sec := s.sec.kept
    pwr := s.pwr.kept
    pcie := { State.reset.pcie with perst := s.pcie.perst }
    test := { s.test with loopIface := none, loopDepth := 0, loopState := 0, loopErrors := 0, strongPassed := 0, strongLargest := 0 } }

/-- PORST_N_ASSERT: Off at once. THERMTRIP_N is released, and with the state zeroised ALARM_N (R415, R464). -/
def execPorstNAssert (s : State) : Host.Outcome State Fault Refusal :=
  .next (
    let s1 := s.powerOff
    { s1 with
      porst := true
      pwr := { s1.pwr with thermTrip := false }
      sec := { s1.sec with alarmN := s1.sec.alarmN && decide (s1.sec.state ≠ .zeroised) && decide (s1.sec.before ≠ .zeroised) }
      test := { s1.test with testMode := false, pinsFloat := false } })

/-- THERMAL_TRIP: a comparator of a powered die trips, in Doze only those of the hub; the trip is latched and core power removed. -/
def execThermalTrip (channel : Fin 17) (s : State) : Host.Outcome State Fault Refusal :=
  .next (
    if s.power = .off ∨ (s.power = .doze ∧ channel.val ≠ 0) then s else
    let s1 := s.powerOff
    { s1 with pwr := { s1.pwr with
      thermTrip := true, tripDie := some channel.val
      trips := (((channelHandle channel.val).toNat, s.svc.minutes) :: s1.pwr.trips).take 32 } })

/-- The one excursion that a shutdown counts as: a level-1 alarm at most. -/
def State.shutdownExcursion (s : State) : State :=
  let recent := s.sec.excursions.filter fun x => decide (s.now < x.2 + 8000000000)
  let s1 := { s with sec := { s.sec with
    excursions := recent ++ [(TamperSensor.voltage, s.now)], lastExcursion := some s.now } }
  (s1.logAlarm 1 (Config.reasonCode 0x6010 0)).raise 0x6010 deviceHandle (openParam 0x6010 0 0) 0xFFFF

/-- VIN_UNDERVOLTAGE: VIN has stayed below 1.60 V for 5 µs, and counts as absent until VIN_APPLY. -/
def execVinUndervoltage (s : State) : Host.Outcome State Fault Refusal :=
  .next (if s.power = .off then { s with vin := false } else { s.shutdownExcursion.powerOff with vin := false })

/-- VIN_APPLY: the regulator controller runs, without core power. THERMTRIP_N went with VIN; the latched trip stays for the next
start-up. A level-3 trigger that is latched asserts ALARM_N. -/
def execVinApply (s : State) : Host.Outcome State Fault Refusal :=
  .next (
    if s.vin then s
    else { s with
      vin := true, pwr := { s.pwr with thermTrip := false }
      sec := { s.sec with alarmN := s.sec.alarmN || s.sec.levelThreeLatched.isSome } })

/-! ### Cold start, steps 1 to 3 (R415, R416, R435, R452, R456, R460, R465) -/

/-- PORST_N is released: the energy counters start again. -/
def State.releaseReset (s : State) (f : StartFindings) : State :=
  { s with
    porst := false
    frame := { s.frame with start := s.now }
    ingress := { s.ingress with csiMode := f.csiMode }
    pwr := { s.pwr with
      energyLog := ((s.pwr.energy, s.pwr.energyEst) :: s.pwr.energyLog).take 32, energy := 0, energyEst := 0 }
    sec := { s.sec with serial := Config.serialNumber } }

/-- A latched thermal trip is reported with the die that tripped. -/
def State.reportTrip (s : State) : State :=
  match s.pwr.tripDie with
  | none => s
  | some ch => { s with pwr := { s.pwr with tripDie := none } }.event 0x1040 (channelHandle ch)

/-- A latched level-3 trigger: erasure and fuse are completed before the key store is unwrapped. -/
def State.completeLevelThree (s : State) : State :=
  match s.sec.levelThreeLatched with
  | none => s
  | some cause =>
    let s1 := s.logAlarm 3 cause
    let s2 := { s1 with sec := { s1.sec with levelThreeLatched := none, alarmN := true } }
    let s3 := if s2.wiped then s2 else s2.eraseStore
    s3.raise 0x6013 deviceHandle (eventParam cause 0) 0xFFFF

/-- The error state ends with a start-up. -/
def Security.leaveError (v : Security) : Security := if v.state = .error then { v with state := v.before } else v

/-- The die keys of the cloak root, if there is one. -/
def Security.deriveKeys (v : Security) : Security :=
  { v with dieKeys := (List.range 16).map fun k => v.cloakRoot.map fun r => Config.dieKey r k v.cloakGen }

/-- Start-up stops in BOOT. -/
def State.haltStart (s : State) : State := { s with ecat := { s.ecat with p3 := .boot, phyReset := false } }

/-- Secure boot: the active slot, else the other one; none where both fail. -/
def State.secureBoot (s : State) (f : StartFindings) : Option State :=
  let a := s.svc.slotA.valid && f.slotAOk
  let b := s.svc.slotB.valid && f.slotBOk
  let active := if s.svc.activeB then b else a
  let other := if s.svc.activeB then a else b
  if active then some s
  else if other then
    let s1 := s.putSlot s.svc.activeB { (if s.svc.activeB then s.svc.slotB else s.svc.slotA) with valid := false }
    some ({ s1 with svc := { s1.svc with activeB := !s1.svc.activeB, trial := false } }.event 0x6019 deviceHandle)
  else none

/-- Both slots failed. -/
def State.noImage (s : State) : State :=
  { s with svc := { s.svc with slotA := { s.svc.slotA with valid := false }, slotB := { s.svc.slotB with valid := false } } }

/-! ### Steps 4 to 6 (R433, R439, R546, R555) -/

/-- A die that is powered. -/
def Die.startUp (x : Die) (modules : List Bool) (link : GoineLink) : Die :=
  { x with
    out := false, powered := true, modulesUp := if link = .none then [] else modules
    goineVersion := match link with
      | .agreed v => some v
      | .fallback => some 0x0100
      | .none => none }

/-- Version offers and training of a die: their events. -/
def State.trainDie (s : State) (d : DieId) (modules : List Bool) (link : GoineLink) : State :=
  let s1 := s.modDie d fun x => x.startUp modules link
  match link with
  | .none => s1.event 0x8029 (dieHandle d)
  | l =>
    let s2 := if l = .fallback then s1.event 0x8028 (dieHandle d) else s1
    forAll ((List.range 4).filter fun m => !modules.getD m false) (fun s m => s.raise 0x4013 (dieHandle d) 0 (BitVec.ofNat 16 m)) s2

/-- Steps 4 and 6 of a die. One that carries an out mark is not powered. -/
def State.startDie (s : State) (f : StartFindings) (d : DieId) : State :=
  if (s.die d).outMark then s.modDie d fun x => { x with out := true, powered := false }
  else
    let s1 := s.trainDie d (f.modules.getD d.val []) (f.links.getD d.val .none)
    let dark := !s1.moduleUp d 0 && !s1.moduleUp d 1
    if dark || !f.tilesOk.getD d.val false || f.strongmanOut.contains d then
      (s1.markOut d 6).modDie d fun x => { x with powered := false }
    else s1

/-- A ring module is up only with its peer (R543). -/
def State.joinRing (s : State) : State :=
  let up : DieId → Nat → Bool := fun d m => s.dieIn d && s.moduleUp d m
  forAll allDies (fun t d => t.modDie d fun x =>
    if x.modulesUp.isEmpty then x
    else { x with modulesUp := (List.range 4).map fun m => match ringPeer d m with
      | some (e, n) => up d m && up e n
      | none => up d m }) s

/-! ### Step 7 (R161, R555, R561, R588) -/

/-- A bank whose binding is (or is not) in the last complete commit record. -/
def Bank.rebuilt (k : Bank) (bound : Bool) : Bank :=
  let st : BankState :=
    if k.image = 0 then .free
    else if bound then .live
    else match k.state with
      | .writing => .free
      | .pending => .ready
      | .live => .ready
      | x => x
  { k with state := st, lane := false, fset := none }

/-- Bindings of the last complete commit record whose banks are live. -/
def State.rebuildBindings (s : State) : State :=
  let bound : Nat → Bool := fun b => s.weights.lastCommitted.any fun x => decide (x.2.2 = b)
  let s1 := { s with banks := dropDefault Bank.init (s.banks.map fun p => (p.1, p.2.rebuilt (bound p.1))) }
  let live := s1.weights.lastCommitted.filter fun x => decide ((s1.bank x.2.2).state = .live)
  let s2 := forAll live (fun s x =>
    let k := s.bank x.2.2
    s.setEntry x.1 x.2.1 { XEntry.zero with v := true, set := k.contents.set, gs := k.contents.gs, array := arrayOf x.2.2, bank := isY x.2.2 })
    s1
  { s2 with weights := { s2.weights with lastCommitted := live } }

/-- Maintenance that still applies is queued again: rewrites of live banks, and re-calibrations of class B. -/
def State.requeueTasks (s : State) : State :=
  forAll (s.banks.filter fun p => decide (p.2.state = .live) && s.dieIn (bankDie p.1)) (fun s p =>
    let b := p.1
    let waits := (s.stuckOf b).any fun e => decide (e.state = 4)
    s.modEngine (bankEngine b) fun g =>
      let g1 := if waits then g.addTask (.absorb b) else g
      let g2 := if p.2.refreshQueued then g1.addTask (.refresh b) else g1
      if p.2.classB then g2.addTask (.classB b) else g2) s

/-- A bank that fails the sampled strongman: its array enters class B, and a drift refresh is queued. -/
def State.failSample (s : State) (b : Nat) : State :=
  if (s.bank b).state ≠ .live ∨ !s.dieIn (bankDie b) then s
  else (((s.modBank b fun k => { k with driftB := true }).evalClass (2 * (b / 2))).queueRefresh b)

/-- Manifests and sampled cells. -/
def State.checkWeights (s : State) (f : StartFindings) : State :=
  let s1 := s.rebuildBindings.requeueTasks
  let s2 := if f.manifestsOk then s1
    else { s1 with svc := { s1.svc with weightsInvalid := true } }.raise 0x8034 deviceHandle (eventParam 7 0) 0xFFFF
  forAll f.sampledFails State.failSample s2

/-! ### Steps 8 and 9 (R116, R393, R411, R487, R559, R561) -/

/-- The first OP frame waits for a calibration. -/
def State.awaitCal (s : State) (e : EngineId) (t : Task) : State :=
  { s with svc := { s.svc with startCal := s.svc.startCal ++ [(e, t)] } }

/-- A part that failed its check is calibrated. -/
def State.failBankPart (s : State) (b : Nat) : State :=
  if !s.dieIn (bankDie b) then s else
  let s1 := s.modBank b fun k => { k with part := { k.part with valid := false } }
  ((s1.modEngine (bankEngine b) fun g => g.addTask (.recalBank b)).awaitCal (bankEngine b) (.recalBank b)).event 0x2036
    (arrayHandle (bankEngine b) (b % 2048 / 2))

def State.recalibrate (s : State) (e : EngineId) : State :=
  if s.dieIn (engineDie e) then s.modEngine e fun g => g.addTask .recalEngine else s

def State.failEnginePart (s : State) (e : EngineId) : State :=
  if s.dieIn (engineDie e) then ((s.recalibrate e).awaitCal e .recalEngine).event 0x2036 (engineHandle e) else s

/-- Coefficients and fitted states are reloaded. -/
def State.reloadCoefficients (s : State) : State :=
  { s with pwr := { s.pwr with
    chans := s.svc.savedCoeff.map fun p =>
      (p.1, { Chan.init with coeff := p.2.coeff, leak := p.2.leak, fitted := p.2.fitted, fitRuns := p.2.fitRuns }) } }

/-- Records are active, LPDDR5X holds zeros, the resident copy is absent, P3 stands in PRE-OP. -/
def State.startMemory (s : State) (f : StartFindings) : State :=
  let a := min 2 (s.svc.minutes / 1576800)
  let s1 := forAll f.failedEngines State.failEnginePart (forAll f.failedBanks State.failBankPart s.activateRecords)
  let s2 := (forAll f.strongmanFails State.recalibrate s1).reloadCoefficients
  let s3 := forAll allDies (fun s d => s.modDie d fun x => { x with ageStep := a }) s2
  { s3 with
    ecat := { s3.ecat with p3 := .preOp, phyReset := false }
    pwr := { s3.pwr with hubAge := a }
    sec := s3.sec.deriveKeys }.event 0x8032 deviceHandle

/-! ### The end of the cold start (R554, R555, R594) -/

/-- The device is in Idle: event 0x8030, and SAFE_N released unless a level-3 alarm holds it. -/
def State.finishStart (s : State) (ms : Nat) : State :=
  let s1 := { s with now := s.now + 800000 * ms }.raise 0x8030 deviceHandle (eventParam 0 ms) 0xFFFF
  { s1 with
    frame := { s1.frame with start := s1.now }
    svc := { s1.svc with restoreDue := none }
    sec := { s1.sec with safeN := s1.sec.alarmN || s1.svc.supervisorFailed } }

/-- Steps 4 to 9, and Idle. Unprovisioned and zeroised devices stay there without a programme; any other waits for its boot set. -/
def State.startHardware (s : State) (f : StartFindings) : State :=
  let s1 := (forAll allDies (fun s d => s.startDie f d) s).joinRing
  let s2 := { (s1.checkWeights f).startMemory f with power := .idle }
  if s2.keyless then s2.finishStart f.timeMs
  else { s2 with svc := { s2.svc with restoreDue := some (f.bootSetOk, f.timeMs) } }

/-- Steps 2 and 3, and what follows them. -/
def State.startIsland (s : State) (f : StartFindings) : State :=
  let s1 := { s with sec := s.sec.leaveError }
  if !f.selfTestOk then
    { s1 with sec := { s1.sec with state := .error, before := s1.sec.state, testReport := true } }.haltStart
  else
    let s2 := if s1.sec.testReport then
        { s1 with sec := { s1.sec with testReport := false } }.event 0x6016 deviceHandle
      else s1
    match s2.secureBoot f with
    | some s3 => s3.startHardware f
    | none => s2.noImage.haltStart

/-- COLD_START: PORST_N is released while VIN is present. A start that stopped in BOOT goes on once it has an image. -/
def execColdStart (f : StartFindings) (s : State) : Host.Outcome State Fault Refusal :=
  .next (
    if s.power ≠ .off ∨ !s.vin then s
    else if s.porst then ((s.releaseReset f).reportTrip.completeLevelThree).startIsland f
    else if s.startHalted ∧ s.booted then s.startIsland f
    else s)

/-! ### The boot set (R557, R558) -/

/-- The HD settings that the restored settings give. -/
def State.restoredHd (s : State) : HdSettings :=
  { seeds := (List.range 4).map fun k => BitVec.ofNat 64 (s.accepted (0x250001 + k)), tie := BitVec.ofNat 64 (s.accepted 0x250005)
    carousel := (List.range 8).map fun k => BitVec.ofNat 64 (s.accepted (0x250101 + k))
    encoders := (List.range 16).foldl (fun m k => match s.acceptedOctets (0x250201 + k) with
      | [] => m
      | b => mset Encoder.zero m k (Encoder.parse b)) [] }

/-- List table and image contexts that the restored settings give. -/
def State.restoreUnits (s : State) : State :=
  let w := s.restoredHd
  let lists : SMap HdList := (List.range 16).foldl (fun m k => match s.acceptedOctets (0x250301 + k) with
    | [] => m
    | b => mset HdList.zero m k (HdList.parse b)) []
  let s1 := { s with hd := { s.hd with settings := w, written := w, listSettings := w, lists := lists } }
  let s2 := forAll (List.range 16) (fun s k => match s.acceptedOctets (0x297001 + k) with
    | [] => s
    | b => s.modContext k fun x => { x with settings := ImgSettings.ofRecord b }) s1
  match s2.acceptedOctets 0x250402 with
  | [] => s2
  | b => s2.hubWrite (s2.accepted 0x250401) b false

/-- The settings are restored and in force. -/
def State.restoreSettings (s : State) : State :=
  let b := s.svc.boot
  let put : SMap Nat → SMap Nat := fun m => b.settings.foldl (fun m q => mput m q.1 q.2) m
  let putB : SMap (List Byte) → SMap (List Byte) := fun m => b.octets.foldl (fun m q => mput m q.1 q.2) m
  let s1 := { s with
    dict := { s.dict with
      accepted := put s.dict.accepted, inForce := put s.dict.inForce, octets := putB s.dict.octets
      octetsInForce := putB s.dict.octetsInForce }
    prog := { s.prog with groups := b.groups }
    pwr := { s.pwr with phases := b.phases } }
  { s1.restoreUnits with frame := { s1.frame with period := s1.accepted 0x200003, phase := s1.accepted 0x290001 } }

/-- A trailer whose signatures verified when the boot set was read. -/
def bootTrailer (purpose : Nat) : Trailer := ⟨purpose, 0, true, true, true⟩

/-- A container of the boot set passes R245. -/
def State.bootContainerOk (s : State) (c : Container) : Bool := (s.containerFlaw c (bootTrailer 2)).isNone

/-- The plan set passes R174; one for other dies out is not the current one and is kept unchecked. -/
def State.bootPlansOk (s : State) (ps : List Plan) : Bool :=
  ps.isEmpty || ps.any (fun p => decide (p.outMask.toNat ≠ s.outWord)) || s.planSetOk ps

/-- Container and continuity copies, plan set and network configurations. -/
def State.bootChecks (s : State) : Bool :=
  let b := s.svc.boot
  let held := { s with prog := { s.prog with running := b.container, continuity := b.continuity } }
  (b.container.toList.all s.bootContainerOk) && (b.continuity.all held.bootContainerOk) && s.bootPlansOk b.plans &&
    b.enis.all fun e => e.all fun n => decide (s.eniReason n = 0)

/-- The structures of the boot set take their places; the next frame start decides on Run. -/
def State.takeBoot (s : State) : State :=
  let b := s.svc.boot
  let s1 := b.continuity.foldl State.placeData (b.container.toList.foldl State.placeData s)
  let s2 := { s1 with
    prog := { s1.prog with
      running := b.container, continuity := b.continuity, firstStart := true
      contRuns := match b.container with
        | some c => c.continuity
        | none => false }
    weights := { s1.weights with plans := b.plans }
    svc := { s1.svc with bootRun := true } }
  forAll (List.range 3) (fun s k => match b.enis.getD k none with
    | some n => s.applyEni k n
    | none => s) s2

/-- BOOT_SET_RESTORE: the settings, then every structure under its checks. Without a boot set, or when a check fails, the device
stays in Idle with no programme. -/
def execBootSetRestore (s : State) : Host.Outcome State Fault Refusal :=
  .next (
    if s.power = .off then s else
    match s.svc.restoreDue with
    | none => s
    | some (ok, ms) =>
      let s1 := if s.svc.boot.present then s.restoreSettings else s
      let s2 := if s1.svc.boot.present && ok && s1.bootChecks then s1.takeBoot
        else s1.raise 0x8034 deviceHandle (openParam 0x8034 10 0) 0xFFFF
      s2.finishStart ms)

/-! ### Wakes (R565, R566) -/

/-- WAKE_N_EDGE in Doze requests the state that the boot set holds; Doze itself there means Idle. -/
def execWakeNEdge (s : State) : Host.Outcome State Fault Refusal :=
  .next (
    if s.power ≠ .doze ∨ s.toward.isSome then s else
    let p : PState := if s.svc.boot.requested = 1 ∧ s.runConditions then .run else .idle
    { s with toward := some p }.acceptSetting 0x200002 p.code)

/-- A die in service is powered again. -/
def Die.wake (x : Die) : Die := { x with powered := !x.out }

/-- The routines of the boot set are loaded; a staged or retained programme has lost its routines. -/
def State.reloadRoutines (s : State) : State :=
  let s1 := s.prog.continuity.foldl State.placeData (s.prog.running.toList.foldl State.placeData s)
  { s1 with prog := { s1.prog with
    staged := none, retained := none, status := 0, switchReq := none, switchReady := false, wakeStart := true } }

/-- DOZE_WAKE: the steps of the wake end. The device is in Idle, or heads for Run at the next frame start. -/
def execDozeWake (s : State) : Host.Outcome State Fault Refusal :=
  .next (
    match s.power, s.toward with
    | .doze, some p =>
      let s1 := s.reloadRoutines.takeEnis.requeueTasks
      let s2 := forAll allDies (fun s d => s.modDie d Die.wake) s1
      let s3 := { s2 with
        pcie := if s2.pcie.link then { s2.pcie with rate := s2.pcie.fullRate, width := s2.pcie.fullWidth } else s2.pcie }
      if p = .run then { s3 with power := .idle } else s3.enter .idle
    | _, _ => s)

end Sys2Proof.Machine
end

