-- ==== Sys2Proof/Machine/Dispatch.lean ====
section
/-!
DEFINITION. The dispatch of commands: one arm per constructor of Instr, each a call of that command's meaning.
-/
namespace Sys2Proof.Machine

/-- A command's effect on everything but the queue. -/
def exec (i : Instr) (s : State) : Host.Outcome State Fault Refusal :=
  match i with
  | .loop t w last trips => Sys2Proof.Machine.execLoop t w last trips s
  | .var t w group => Sys2Proof.Machine.execVar t w group s
  | .pend t w => Sys2Proof.Machine.execPend t w s
  | .win t w latch reg => Sys2Proof.Machine.execWin t w latch reg s
  | .hint t w phase => Sys2Proof.Machine.execHint t w phase s
  | .fend t w => Sys2Proof.Machine.execFend t w s
  | .nopWord t bad => Sys2Proof.Machine.execNopWord t bad s
  | .arrive t w sc n => Sys2Proof.Machine.execArrive t w sc n s
  | .synAdd t w sc n value => Sys2Proof.Machine.execSynAdd t w sc n value s
  | .wait t w sc n rel value => Sys2Proof.Machine.execWait t w sc n rel value s
  | .reset t w sc n value => Sys2Proof.Machine.execReset t w sc n value s
  | .poison t w sc n => Sys2Proof.Machine.execPoison t w sc n s
  | .move t w desc row str upset => Sys2Proof.Machine.execMove t w desc row str upset s
  | .load t w desc row str => Sys2Proof.Machine.execLoad t w desc row str s
  | .store t w desc row str => Sys2Proof.Machine.execStore t w desc row str s
  | .hload t w desc row str => Sys2Proof.Machine.execHload t w desc row str s
  | .hstore t w desc row str => Sys2Proof.Machine.execHstore t w desc row str s
  | .ticket t w desc row str => Sys2Proof.Machine.execTicket t w desc row str s
  | .rd t w row str vreg upset => Sys2Proof.Machine.execRd t w row str vreg upset s
  | .wr t w row str vreg st tag fmt rs re => Sys2Proof.Machine.execWr t w row str vreg st tag fmt rs re s
  | .feed t w row str emask part fidx upset => Sys2Proof.Machine.execFeed t w row str emask part fidx upset s
  | .fill t w row str vreg countM1 => Sys2Proof.Machine.execFill t w row str vreg countM1 s
  | .memCopy t w row str dst countM1 upset => Sys2Proof.Machine.execMemCopy t w row str dst countM1 upset s
  | .eval t w emask block pw matchSense clr bipolar str badEntries => Sys2Proof.Machine.execEval t w emask block pw matchSense clr bipolar str badEntries s
  | .engAdd t w emask toRows addr str => Sys2Proof.Machine.execEngAdd t w emask toRows addr str s
  | .clear t w emask => Sys2Proof.Machine.execClear t w emask s
  | .vecAdd t w f vd va vb => Sys2Proof.Machine.execVecAdd t w f vd va vb s
  | .sub t w f vd va vb => Sys2Proof.Machine.execSub t w f vd va vb s
  | .mul t w f vd va vb => Sys2Proof.Machine.execMul t w f vd va vb s
  | .fma t w f vd va vb vc => Sys2Proof.Machine.execFma t w f vd va vb vc s
  | .max t w f vd va vb => Sys2Proof.Machine.execMax t w f vd va vb s
  | .min t w f vd va vb => Sys2Proof.Machine.execMin t w f vd va vb s
  | .abs t w f vd va => Sys2Proof.Machine.execAbs t w f vd va s
  | .neg t w f vd va => Sys2Proof.Machine.execNeg t w f vd va s
  | .wadd t w f vd va vb => Sys2Proof.Machine.execWadd t w f vd va vb s
  | .cmpeq t w f vd va vb => Sys2Proof.Machine.execCmpeq t w f vd va vb s
  | .cmplt t w f vd va vb => Sys2Proof.Machine.execCmplt t w f vd va vb s
  | .cmple t w f vd va vb => Sys2Proof.Machine.execCmple t w f vd va vb s
  | .sel t w f vd va vb vc => Sys2Proof.Machine.execSel t w f vd va vb vc s
  | .and t w f vd va vb => Sys2Proof.Machine.execAnd t w f vd va vb s
  | .or t w f vd va vb => Sys2Proof.Machine.execOr t w f vd va vb s
  | .xor t w f vd va vb => Sys2Proof.Machine.execXor t w f vd va vb s
  | .shl t w f vd va imm => Sys2Proof.Machine.execShl t w f vd va imm s
  | .shra t w f vd va imm => Sys2Proof.Machine.execShra t w f vd va imm s
  | .cvt t w f vd va dst part => Sys2Proof.Machine.execCvt t w f vd va dst part s
  | .qnt t w f vd va vb vc tag imm rs re => Sys2Proof.Machine.execQnt t w f vd va vb vc tag imm rs re s
  | .pack t w vd va vb nibbles => Sys2Proof.Machine.execPack t w vd va vb nibbles s
  | .dq t w vd va vb vc => Sys2Proof.Machine.execDq t w vd va vb vc s
  | .dqt t w vd va vb vc entry => Sys2Proof.Machine.execDqt t w vd va vb vc entry s
  | .vecRot t w f vd va imm => Sys2Proof.Machine.execVecRot t w f vd va imm s
  | .macw t w f vd va vb part => Sys2Proof.Machine.execMacw t w f vd va vb part s
  | .rsum t w f vd va => Sys2Proof.Machine.execRsum t w f vd va s
  | .rmax t w f vd va => Sys2Proof.Machine.execRmax t w f vd va s
  | .rcp t w f vd va => Sys2Proof.Machine.execRcp t w f vd va s
  | .rsqrt t w f vd va => Sys2Proof.Machine.execRsqrt t w f vd va s
  | .exp t w f vd va => Sys2Proof.Machine.execExp t w f vd va s
  | .stclr t w reg => Sys2Proof.Machine.execStclr t w reg s
  | .strd t w vd reg => Sys2Proof.Machine.execStrd t w vd reg s
  | .stwr t w va reg => Sys2Proof.Machine.execStwr t w va reg s
  | .flrd t w vd => Sys2Proof.Machine.execFlrd t w vd s
  | .flclr t w => Sys2Proof.Machine.execFlclr t w s
  | .wscl t w vd latch => Sys2Proof.Machine.execWscl t w vd latch s
  | .bcast t w f vd va imm => Sys2Proof.Machine.execBcast t w f vd va imm s
  | .resultLanding t => Sys2Proof.Machine.execResultLanding t s
  | .arraySlot e c => Sys2Proof.Machine.execArraySlot e c s
  | .laneUpdate e badEntries => Sys2Proof.Machine.execLaneUpdate e badEntries s
  | .slotStart d free badWords => Sys2Proof.Machine.execSlotStart d free badWords s
  | .droopSample channel milliVolts => Sys2Proof.Machine.execDroopSample channel milliVolts s
  | .droopLimitRise d => Sys2Proof.Machine.execDroopLimitRise d s
  | .frameStart edge => Sys2Proof.Machine.execFrameStart edge s
  | .commitDeadline => Sys2Proof.Machine.execCommitDeadline s
  | .commitRecordsComplete set => Sys2Proof.Machine.execCommitRecordsComplete set s
  | .globalUpdateArrival => Sys2Proof.Machine.execGlobalUpdateArrival s
  | .shadowUpdate d => Sys2Proof.Machine.execShadowUpdate d s
  | .moveRowLanding t => Sys2Proof.Machine.execMoveRowLanding t s
  | .narrowRowWrite t transfer => Sys2Proof.Machine.execNarrowRowWrite t transfer s
  | .ticketRequestReceived t => Sys2Proof.Machine.execTicketRequestReceived t s
  | .ticketGrant t => Sys2Proof.Machine.execTicketGrant t s
  | .transferDone t k upset fixed => Sys2Proof.Machine.execTransferDone t k upset fixed s
  | .goineFlitDelivery d m toHub late flit => Sys2Proof.Machine.execGoineFlitDelivery d m toHub late flit s
  | .kvSpill => Sys2Proof.Machine.execKvSpill s
  | .kvGather => Sys2Proof.Machine.execKvGather s
  | .processDataForward seg => Sys2Proof.Machine.execProcessDataForward seg s
  | .outputCollect entry => Sys2Proof.Machine.execOutputCollect entry s
  | .hdNop o => Sys2Proof.Machine.execHdNop o s
  | .gen o w d id slot => Sys2Proof.Machine.execGen o w d id slot s
  | .bind o w d a b => Sys2Proof.Machine.execBind o w d a b s
  | .not o w d a => Sys2Proof.Machine.execNot o w d a s
  | .hdCopy o w d a => Sys2Proof.Machine.execHdCopy o w d a s
  | .hdRot o w d a k => Sys2Proof.Machine.execHdRot o w d a k s
  | .car o w d a c inverse => Sys2Proof.Machine.execCar o w d a c inverse s
  | .bclr o acc => Sys2Proof.Machine.execBclr o acc s
  | .badd o w acc a weight subtract => Sys2Proof.Machine.execBadd o w acc a weight subtract s
  | .baddx o w acc a b weight subtract => Sys2Proof.Machine.execBaddx o w acc a b weight subtract s
  | .bthr o w d acc => Sys2Proof.Machine.execBthr o w d acc s
  | .level o w d slot hbo => Sys2Proof.Machine.execLevel o w d slot hbo s
  | .record o w d acc hbo => Sys2Proof.Machine.execRecord o w d acc hbo s
  | .seq o w d a acc mM1 r bundle => Sys2Proof.Machine.execSeq o w d a acc mM1 r bundle s
  | .loadv o w d hbo => Sys2Proof.Machine.execLoadv o w d hbo s
  | .storev o w a hbo => Sys2Proof.Machine.execStorev o w a hbo s
  | .sign o w d fmt hbo => Sys2Proof.Machine.execSign o w d fmt hbo s
  | .outv o w a tile row ts value => Sys2Proof.Machine.execOutv o w a tile row ts value s
  | .outvWrite => Sys2Proof.Machine.execOutvWrite s
  | .addg o ts value => Sys2Proof.Machine.execAddg o ts value s
  | .waitg o ts => Sys2Proof.Machine.execWaitg o ts s
  | .listTrigger n => Sys2Proof.Machine.execListTrigger n s
  | .listEnd n => Sys2Proof.Machine.execListEnd n s
  | .srch o w a d mask cursor fill enables bestKey dmin dmax hbo => Sys2Proof.Machine.execSrch o w a d mask cursor fill enables bestKey dmin dmax hbo s
  | .cstep o cursor append kM1 hbo => Sys2Proof.Machine.execCstep o cursor append kM1 hbo s
  | .glist o => Sys2Proof.Machine.execGlist o s
  | .cfree o cursor => Sys2Proof.Machine.execCfree o cursor s
  | .ins o w a bank hbo => Sys2Proof.Machine.execIns o w a bank hbo s
  | .del o bank first countM1 => Sys2Proof.Machine.execDel o bank first countM1 s
  | .upd o w a bank withKey pos hbo => Sys2Proof.Machine.execUpd o w a bank withKey pos hbo s
  | .rde o w bank pos hbo => Sys2Proof.Machine.execRde o w bank pos hbo s
  | .dcoll o cursor fill enables dmin dmax hbo => Sys2Proof.Machine.execDcoll o cursor fill enables dmin dmax hbo s
  | .recallSlot badWords => Sys2Proof.Machine.execRecallSlot badWords s
  | .searchComplete => Sys2Proof.Machine.execSearchComplete s
  | .parityScanWord bank bad => Sys2Proof.Machine.execParityScanWord bank bad s
  | .carouselRebuildComplete item => Sys2Proof.Machine.execCarouselRebuildComplete item s
  | .csi2Packet port p overflow => Sys2Proof.Machine.execCsi2Packet port p overflow s
  | .cameraFrameEnd context => Sys2Proof.Machine.execCameraFrameEnd context s
  | .ingressDelivery => Sys2Proof.Machine.execIngressDelivery s
  | .cyclicFrameReturn seg r => Sys2Proof.Machine.execCyclicFrameReturn seg r s
  | .frameReturnTimeout seg => Sys2Proof.Machine.execFrameReturnTimeout seg s
  | .portLinkLoss seg => Sys2Proof.Machine.execPortLinkLoss seg s
  | .portLinkReturn seg => Sys2Proof.Machine.execPortLinkReturn seg s
  | .subdeviceOpRetry seg => Sys2Proof.Machine.execSubdeviceOpRetry seg s
  | .acyclicFrame seg => Sys2Proof.Machine.execAcyclicFrame seg s
  | .dcReferenceLost => Sys2Proof.Machine.execDcReferenceLost s
  | .sdoAccess c a op => Sys2Proof.Machine.execSdoAccess c a op s
  | .foeWrite c nameOk isRead image => Sys2Proof.Machine.execFoeWrite c nameOk isRead image s
  | .p3LinkLoss => Sys2Proof.Machine.execP3LinkLoss s
  | .rxpdoReceive variant useVariant heartbeat => Sys2Proof.Machine.execRxpdoReceive variant useVariant heartbeat s
  | .emergencySend => Sys2Proof.Machine.execEmergencySend s
  | .estimatorTick acts => Sys2Proof.Machine.execEstimatorTick acts s
  | .currentLimitRise => Sys2Proof.Machine.execCurrentLimitRise s
  | .measurementSample reports => Sys2Proof.Machine.execMeasurementSample reports s
  | .energyBin => Sys2Proof.Machine.execEnergyBin s
  | .measurementFail channel => Sys2Proof.Machine.execMeasurementFail channel s
  | .measurementRestore channel => Sys2Proof.Machine.execMeasurementRestore channel s
  | .coefficientSave => Sys2Proof.Machine.execCoefficientSave s
  | .phaseLimitCompute d phase => Sys2Proof.Machine.execPhaseLimitCompute d phase s
  | .sensorSample channel readings => Sys2Proof.Machine.execSensorSample channel readings s
  | .thermalTrip channel => Sys2Proof.Machine.execThermalTrip channel s
  | .driftScan bank => Sys2Proof.Machine.execDriftScan bank s
  | .driftRefresh bank => Sys2Proof.Machine.execDriftRefresh bank s
  | .periodicRecalibration e => Sys2Proof.Machine.execPeriodicRecalibration e s
  | .calibrationComplete e => Sys2Proof.Machine.execCalibrationComplete e s
  | .strongmanMissLimit e => Sys2Proof.Machine.execStrongmanMissLimit e s
  | .bankWriteComplete bank failed => Sys2Proof.Machine.execBankWriteComplete bank failed s
  | .dieMarkOut d cause => Sys2Proof.Machine.execDieMarkOut d cause s
  | .ringmasterRestart => Sys2Proof.Machine.execRingmasterRestart s
  | .hubFailure cause => Sys2Proof.Machine.execHubFailure cause s
  | .firmwareTrialTimeout => Sys2Proof.Machine.execFirmwareTrialTimeout s
  | .bootSetPeriodicWrite => Sys2Proof.Machine.execBootSetPeriodicWrite s
  | .tamperExcursion sensor time => Sys2Proof.Machine.execTamperExcursion sensor time s
  | .authTimeout c => Sys2Proof.Machine.execAuthTimeout c s
  | .authLockoutEnd c => Sys2Proof.Machine.execAuthLockoutEnd c s
  | .periodicSelfTest ok => Sys2Proof.Machine.execPeriodicSelfTest ok s
  | .selfTestRetry ok => Sys2Proof.Machine.execSelfTestRetry ok s
  | .goineRetrain d m ok => Sys2Proof.Machine.execGoineRetrain d m ok s
  | .scrub word uncorrectable => Sys2Proof.Machine.execScrub word uncorrectable s
  | .requestRun c => Sys2Proof.Machine.execRequestRun c s
  | .requestIdle c => Sys2Proof.Machine.execRequestIdle c s
  | .requestDoze c => Sys2Proof.Machine.execRequestDoze c s
  | .framePeriodWrite c t => Sys2Proof.Machine.execFramePeriodWrite c t s
  | .firmwareImageWrite c image => Sys2Proof.Machine.execFirmwareImageWrite c image s
  | .firmwareSwitch c => Sys2Proof.Machine.execFirmwareSwitch c s
  | .firmwareRevert c => Sys2Proof.Machine.execFirmwareRevert c s
  | .firmwareConfirm c value => Sys2Proof.Machine.execFirmwareConfirm c value s
  | .markOutDie c dieField => Sys2Proof.Machine.execMarkOutDie c dieField s
  | .clearOutMark c dieField => Sys2Proof.Machine.execClearOutMark c dieField s
  | .groupDescriptorWrite c desc => Sys2Proof.Machine.execGroupDescriptorWrite c desc s
  | .loadImage c image trailer => Sys2Proof.Machine.execLoadImage c image trailer s
  | .loadImageHold c image trailer => Sys2Proof.Machine.execLoadImageHold c image trailer s
  | .armHeldSet c container => Sys2Proof.Machine.execArmHeldSet c container s
  | .loadPlanSet c plans trailer => Sys2Proof.Machine.execLoadPlanSet c plans trailer s
  | .cancelFlipSet c set => Sys2Proof.Machine.execCancelFlipSet c set s
  | .selectPlan c dieField => Sys2Proof.Machine.execSelectPlan c dieField s
  | .stuckMapRead c => Sys2Proof.Machine.execStuckMapRead c s
  | .queueRecalibration c h => Sys2Proof.Machine.execQueueRecalibration c h s
  | .startConsolidation c bank first count group => Sys2Proof.Machine.execStartConsolidation c bank first count group s
  | .requestRespread c bank => Sys2Proof.Machine.execRequestRespread c bank s
  | .listTableWrite c n entry => Sys2Proof.Machine.execListTableWrite c n entry s
  | .listWrite c data => Sys2Proof.Machine.execListWrite c data s
  | .deepGroupWrite c entry => Sys2Proof.Machine.execDeepGroupWrite c entry s
  | .loadContainer c k trailer => Sys2Proof.Machine.execLoadContainer c k trailer s
  | .switchStaged c => Sys2Proof.Machine.execSwitchStaged c s
  | .switchRetained c => Sys2Proof.Machine.execSwitchRetained c s
  | .authChallenge c => Sys2Proof.Machine.execAuthChallenge c s
  | .authenticate c role ok => Sys2Proof.Machine.execAuthenticate c role ok s
  | .logout c value => Sys2Proof.Machine.execLogout c value s
  | .sessionOpen c => Sys2Proof.Machine.execSessionOpen c s
  | .sessionCiphertext c ciphertext => Sys2Proof.Machine.execSessionCiphertext c ciphertext s
  | .imageKeyImport c keyId tagOk => Sys2Proof.Machine.execImageKeyImport c keyId tagOk s
  | .imageKeyDelete c keyId => Sys2Proof.Machine.execImageKeyDelete c keyId s
  | .attestation c nonce => Sys2Proof.Machine.execAttestation c nonce s
  | .selfTest c ok => Sys2Proof.Machine.execSelfTest c ok s
  | .clearLock c => Sys2Proof.Machine.execClearLock c s
  | .zeroise c => Sys2Proof.Machine.execZeroise c s
  | .raiseVersionFloor c => Sys2Proof.Machine.execRaiseVersionFloor c s
  | .enrolment c token => Sys2Proof.Machine.execEnrolment c token s
  | .anchorWrite c slot key => Sys2Proof.Machine.execAnchorWrite c slot key s
  | .revisionOffer c rev => Sys2Proof.Machine.execRevisionOffer c rev s
  | .loadEni c seg eni => Sys2Proof.Machine.execLoadEni c seg eni s
  | .segmentStart seg => Sys2Proof.Machine.execSegmentStart seg s
  | .loopbackStart c => Sys2Proof.Machine.execLoopbackStart c s
  | .loopbackStop c => Sys2Proof.Machine.execLoopbackStop c s
  | .loopbackLockTimeout => Sys2Proof.Machine.execLoopbackLockTimeout s
  | .strongmanRun c h => Sys2Proof.Machine.execStrongmanRun c h s
  | .eventEntryRead c => Sys2Proof.Machine.execEventEntryRead c s
  | .eventAcknowledge c sequence => Sys2Proof.Machine.execEventAcknowledge c sequence s
  | .counterClear c a value => Sys2Proof.Machine.execCounterClear c a value s
  | .windowSelectorWrite c window h => Sys2Proof.Machine.execWindowSelectorWrite c window h s
  | .statRegisterWrite c window sub ctl clip => Sys2Proof.Machine.execStatRegisterWrite c window sub ctl clip s
  | .pcieEnable offer => Sys2Proof.Machine.execPcieEnable offer s
  | .pcieReset => Sys2Proof.Machine.execPcieReset s
  | .functionLevelReset => Sys2Proof.Machine.execFunctionLevelReset s
  | .mailboxDoorbell tail => Sys2Proof.Machine.execMailboxDoorbell tail s
  | .hdDoorbell tail => Sys2Proof.Machine.execHdDoorbell tail s
  | .hintDoorbell tail => Sys2Proof.Machine.execHintDoorbell tail s
  | .eventDoorbell head => Sys2Proof.Machine.execEventDoorbell head s
  | .eventQueueCopy => Sys2Proof.Machine.execEventQueueCopy s
  | .bar2Access write addr data => Sys2Proof.Machine.execBar2Access write addr data s
  | .bar0WindowWrite offset data => Sys2Proof.Machine.execBar0WindowWrite offset data s
  | .perstNAssert => Sys2Proof.Machine.execPerstNAssert s
  | .pcieLinkLoss downgrade => Sys2Proof.Machine.execPcieLinkLoss downgrade s
  | .porstNAssert => Sys2Proof.Machine.execPorstNAssert s
  | .coldStart f => Sys2Proof.Machine.execColdStart f s
  | .bootSetRestore => Sys2Proof.Machine.execBootSetRestore s
  | .vinUndervoltage => Sys2Proof.Machine.execVinUndervoltage s
  | .wakeNEdge => Sys2Proof.Machine.execWakeNEdge s
  | .dozeWake => Sys2Proof.Machine.execDozeWake s
  | .extest testEn => Sys2Proof.Machine.execExtest testEn s
  | .idcode => Sys2Proof.Machine.execIdcode s
  | .samplePreload testEn => Sys2Proof.Machine.execSamplePreload testEn s
  | .clamp testEn => Sys2Proof.Machine.execClamp testEn s
  | .highz testEn => Sys2Proof.Machine.execHighz testEn s
  | .wsel testEn dieField answers => Sys2Proof.Machine.execWsel testEn dieField answers s
  | .mbist testEn mask => Sys2Proof.Machine.execMbist testEn mask s
  | .mbistComplete failBits => Sys2Proof.Machine.execMbistComplete failBits s
  | .bypass => Sys2Proof.Machine.execBypass s
  | .ringmasterRestartComplete => Sys2Proof.Machine.execRingmasterRestartComplete s
  | .perstNRelease => Sys2Proof.Machine.execPerstNRelease s
  | .pcieLinkUp rate width => Sys2Proof.Machine.execPcieLinkUp rate width s
  | .goineModuleLoss d m => Sys2Proof.Machine.execGoineModuleLoss d m s
  | .p3StateTransition request => Sys2Proof.Machine.execP3StateTransition request s
  | .completionQueueDoorbell hd head => Sys2Proof.Machine.execCompletionQueueDoorbell hd head s
  | .vinApply => Sys2Proof.Machine.execVinApply s
  | .excursionLasting100Ms sensor => Sys2Proof.Machine.execExcursionLasting100Ms sensor s

end Sys2Proof.Machine
end

