-- ==== Sys2Proof/Safety.lean ====
section
/-!
DEFINITION. What counts as a safe run of the block: the predicates over states that the statements use.
-/
namespace Sys2Proof.Machine

/-- The machine answered a next state. -/
def Completes (o : Host.Outcome State Fault Refusal) : Prop := ∃ t, o = .next t

/-- Memory.wf of the block's two byte memories: addresses rise strictly, and no entry equals what an unlisted address
reads as. -/
def ByteMem.wf (m : ByteMem) : Bool := SMap.wf 0 m.cells && SMap.wf false m.poison
abbrev Memory.wf (s : State) : Prop := ByteMem.wf s.hub = true ∧ ByteMem.wf s.lpddr = true

/-- What holds in every state that commands reach: without VIN, or with PORST_N asserted, the device is in Off (R551, R586);
in Off SAFE_N is asserted (R594); the byte memories are canonical. -/
def State.Sound (s : State) : Prop :=
  (s.vin = false ∨ s.porst = true → s.power = .off) ∧ (s.power = .off → s.sec.safeN = true) ∧ Memory.wf s

/-! ### Words of a routine -/

/-- The sequencer issues the word's fields, and SECDED found the word good in every pass of this frame (R193, R213). -/
abbrev Issues (s : State) (t : TileId) (w : WordTag) : Prop := s.canIssue t = true ∧ (s.tile t).wordBad w = false

/-- A data field of the word takes its effect: the word issues, and its predicate holds (R222). -/
abbrev Acts (s : State) (t : TileId) (w : WordTag) : Prop := Issues s t w ∧ (s.tile t).predicate w = true

/-- The HD engine issues command i: hub power is up, no command waits, every register that it reads holds its final result, and it
is the next command of the running list or, for a host command, no list runs or waits (R344, R351). -/
def HdIssues (s : State) (o : HdOrigin) (i : Instr) : Prop :=
  s.awake = true ∧ s.hd.waiting = none ∧ (hdReads i).any s.regPending = false ∧
    match o with
    | .list n => s.hd.running = some n ∧ (s.listRest n).head?.map Prod.snd = some i
    | .host => s.hdIdle = true

/-- The command that issues leaves its list (R344). -/
def State.hdPassed (s : State) (o : HdOrigin) : State :=
  match o with
  | .list n => match (s.listRest n).head? with
    | some (k, _) => s.passCommand k
    | none => s
  | .host => s

/-- Settings that a command of this origin uses (R352). -/
def State.hdInForce (s : State) (o : HdOrigin) : HdSettings :=
  match o with
  | .list _ => s.hd.listSettings
  | .host => s.hd.settings

/-- The channel reaches the dictionary, and the ringmaster is not restarting (R422, R487, R518). -/
def Serves (s : State) (c : Channel) : Prop := s.serves c = true ∧ s.svc.restarting = false

/-- The channel's writes are taken: no level-3 alarm stands (R464). -/
def Takes (s : State) (c : Channel) : Prop := Serves s c ∧ s.wiped = false

/-- What follows a field: errors that SECDED corrected in the word's fetch are counted (R194), and after the last field of a word its
cycle ends (R213). -/
def State.endWord (s : State) (t : TileId) (w : WordTag) : State :=
  if w.last then (s.countFixed t w.fixed).advance t else s.countFixed t w.fixed

end Sys2Proof.Machine
end

