-- ==== Sys2Proof/Certificates/Slice0/Terms.lean ====
section
/-!
DEFINITION. The terms of the statements: when a command takes its effect, and the state that the rules give for it.
-/
namespace Sys2Proof.Machine

/-- Tile t alone changes, to x. -/
def State.withTile (s : State) (t : TileId) (x : Tile) : State := { s with tiles := mset Tile.init s.tiles t.val x }

/-- A result of tile t is on its way and lands `latency` cycles later (R213); `n` more free values have been used. -/
def State.onItsWay (s : State) (t : TileId) (latency : Nat) (what : LandEffect) (n : Nat) : State :=
  { s with
    tiles := mset Tile.init s.tiles t.val
      { s.tile t with landings := insertLanding ⟨(s.tile t).pcyc + latency, what⟩ (s.tile t).landings }
    free := s.free + n }

/-- A vector result of n elements of b bits: element k is val k, or a free value where it forms from poisoned data (R192). -/
def State.vecResult (s : State) (b n : Nat) (val : Nat → FRes) (pois : Nat → Bool) (vd : Fin 32) : LandEffect :=
  .vreg vd
    (VReg.ofElems b ((List.range n).map fun k => if pois k then Config.poisonedValue s.free k else (val k).bits)
      ((List.range n).map pois))
    (TileFlags.orAll ((List.range n).map fun k => (val k).flags))

/-- The results of element-wise operations of one, two and three sources (R235, R236). -/
def State.result1 (s : State) (t : TileId) (f : VFmt) (vd va : Fin 32) (op : Nat → FRes) : LandEffect :=
  s.vecResult (VFmt.bits f) (VFmt.count f) (fun k => op (((s.tile t).vreg va).elem f k)) (fun k => ((s.tile t).vreg va).elemPoison f k) vd
def State.result2 (s : State) (t : TileId) (f : VFmt) (vd va vb : Fin 32) (op : Nat → Nat → FRes) : LandEffect :=
  s.vecResult (VFmt.bits f) (VFmt.count f) (fun k => op (((s.tile t).vreg va).elem f k) (((s.tile t).vreg vb).elem f k))
    (fun k => ((s.tile t).vreg va).elemPoison f k || ((s.tile t).vreg vb).elemPoison f k) vd
def State.result3 (s : State) (t : TileId) (f : VFmt) (vd va vb vc : Fin 32) (op : Nat → Nat → Nat → FRes) : LandEffect :=
  s.vecResult (VFmt.bits f) (VFmt.count f)
    (fun k => op (((s.tile t).vreg va).elem f k) (((s.tile t).vreg vb).elem f k) (((s.tile t).vreg vc).elem f k))
    (fun k => ((s.tile t).vreg va).elemPoison f k || ((s.tile t).vreg vb).elemPoison f k ||
      ((s.tile t).vreg vc).elemPoison f k) vd

/-- Latency of an element-wise operation: the first figure for elements of 8 and 16 bits, the second for 32 bits (R235). -/
def latency (f : VFmt) (short long : Nat) : Nat := if VFmt.bits f = 32 then long else short

/-! ### Turnstile updates and transfers -/

/-- An update of turnstile n that tile t sends now (R182, R284): visible 2 cc later on its own tile, 4 cc later on the tiles of
a group, at the hub 30 cc later. A tile under frame poison sends poison (R193). -/
def State.sent (s : State) (t : TileId) (sc : SynScope) (n : Byte) (op : TsOp) : State :=
  match sc with
  | .own => s.tileUpdate t n op (s.tile t).framePoison (s.tileNow t + 2)
  | .group slot => (s.handleTiles (s.groupSlot slot.val)).foldl
      (fun r u => r.tileUpdate u n op (s.tile t).framePoison (s.tileNow t + 4)) s
  | .global => { s with fabric := { s.fabric with
      globals := s.fabric.globals ++ [⟨s.tileNow t + 30, n, op, (s.tile t).framePoison, t⟩] } }

/-- The dies of the list wait (R189). -/
def State.withWaiting (s : State) (ds : List DieId) : State :=
  ds.foldl (fun r d => r.modDie d fun x => { x with waitSlot := true }) s

/-- The wide port accesses row n of tile t in this cycle (R251). -/
def State.usesWide (s : State) (t : TileId) (n : Nat) : State :=
  s.withTile t { s.tile t with wideRows := n :: (s.tile t).wideRows }

/-- A slot of the dies is counted (R392, R399): a hold slot leaves the mark of wait slots as it is, any other sets it; a slot that
is neither is a free one; in a hold or a wait slot the narrow writes that tiles have put off take effect. -/
def State.countSlot (s : State) (ds : List DieId) (hold waits : Bool) : State :=
  let s1 := forAll ds (fun r d => r.modDie d fun x => { x with
    waitSlot := if hold then x.waitSlot else waits
    slotsAll := x.slotsAll + 1, slotsFree := x.slotsFree + (if hold || waits then 0 else 1) }) s
  let s2 := ([0, 17] ++ ds.map fun (d : DieId) => d.val + 1).foldl State.countBand s1
  if hold || waits then forAll (ds.flatMap dieTiles) (fun r t => r.modTile t Tile.settleNarrow) s2 else s2

/-- The transfer that a LOAD, STORE, HLOAD or HSTORE of tile t starts (R266). -/
def State.newTransfer (s : State) (t : TileId) (row : Nat) (d : MoveDesc) : Transfer where
  tag := s.fabric.nextTag
  kind := d.kind
  row := row
  remote := s.remoteOf t d
  count := d.count
  compress := d.compress
  landed := 0
  poison := (s.tile t).framePoison
  taint := (s.tile t).framePoison
  done := s.doneTo t d

/-- The transfer joins those of its tile, and takes a tag. -/
def State.withTransfer (s : State) (t : TileId) (tr : Transfer) : State :=
  { s with
    tiles := mset Tile.init s.tiles t.val { s.tile t with transfers := (s.tile t).transfers ++ [tr] }
    fabric := { s.fabric with nextTag := s.fabric.nextTag + 1 } }

/-- From s to u nothing changes but tile t, which becomes x. -/
def TileOnly (s u : State) (t : TileId) (x : Tile) : Prop :=
  u.tile t = x ∧ (∀ v, v ≠ t → u.tile v = s.tile v) ∧ u = { s with tiles := u.tiles }

/-- From s to u nothing changes but engine e, which becomes x. -/
def EngineOnly (s u : State) (e : EngineId) (x : Engine) : Prop :=
  u.engine e = x ∧ (∀ g, g ≠ e → u.engine g = s.engine g) ∧ u = { s with engines := u.engines }

/-- From s to u nothing changes but die d, which becomes x. -/
def DieOnly (s u : State) (d : DieId) (x : Die) : Prop :=
  u.die d = x ∧ (∀ c, c ≠ d → u.die c = s.die c) ∧ u = { s with dies := u.dies }

/-- A result of a command of origin o goes to HD register d; a poisoned one poisons what the origin reports (R346, R350). -/
def State.hdResult (s : State) (o : HdOrigin) (d : Fin 32) (x : BitVec 8192) (poison : Bool) : State :=
  { s with hd := { s.hd with
    regs := mset HReg.zero s.hd.regs d.val ⟨x, poison⟩
    listPoison := s.hd.listPoison || (poison && decide (o ≠ .host))
    hostPoison := s.hd.hostPoison || (poison && decide (o = .host)) } }

/-- A bundle goes to accumulator a, in the same way. -/
def State.hdSum (s : State) (o : HdOrigin) (a : Fin 4) (x : HAcc) : State :=
  { s with hd := { s.hd with
    accs := mset HAcc.zero s.hd.accs a.val x
    listPoison := s.hd.listPoison || (x.poison && decide (o ≠ .host))
    hostPoison := s.hd.hostPoison || (x.poison && decide (o = .host)) } }

/-! ### The deep candidates of DCOLL (R385, R386) -/

/-- Numbers of the entries of every present deep group. -/
def State.deepNumbers (s : State) : List Nat :=
  if s.rcl.deepValid then
    (s.rcl.deep.filter fun g => decide (g.2.engine ≠ 0)).flatMap fun g => (List.range 256).map fun j => g.1 * 256 + j
  else []

/-- Place of the coarse sum of entry e. -/
def State.deepPlace (s : State) (e : Nat) : Nat := routineArea + s.setting 0x250006 + 2 * e

/-- The valid entries whose tags pass and whose coarse distance lies within 64 of the range; poisoned sums take no part. -/
def State.deepCandidates (s : State) (numbers : List Nat) (enables : BitVec 4) (ranges : List Byte) (dmin dmax : Nat) :
    List Candidate :=
  let bad := numbers.filter fun e => s.hub.poisoned (s.deepPlace e)
  (numbers.filter fun e => !bad.contains e).filterMap fun e =>
    let d := sint 16 (leNat (s.hub.read (s.deepPlace e) 2))
    let x := s.deepRecord e
    if x.isValid && tagsPass x enables ranges && decide (max 0 ((dmin : Int) - 64) ≤ d) &&
        decide (d ≤ min 8192 ((dmax : Int) + 64)) then
      some ⟨e, d.toNat, decide (d < dmin) || decide ((dmax : Int) < d), x.pay⟩
    else none

/-- A block of a present group is in class B. -/
def State.deepClassB (s : State) : Bool :=
  (s.rcl.deep.filter fun g => decide (g.2.engine ≠ 0)).any fun g => s.groupClassB g.2

/-- Flags of the record: two or more, poison met, a damaged entry, a marginal one, class B, truncated. `dirty`: the ranges are
poisoned. -/
def State.deepFlags (s : State) (numbers : List Nat) (cands : List Candidate) (fill dirty : Bool) : Nat :=
  bit (decide (2 ≤ cands.length)) 0 + bit (!(numbers.filter fun e => s.hub.poisoned (s.deepPlace e)).isEmpty || dirty) 1 +
    bit (numbers.any fun e => decide ((s.deepRecord e).state = 2)) 2 + bit (cands.any fun c => c.marginal) 4 +
    bit s.deepClassB 5 + bit (fill && decide (4096 < cands.length)) 6

/-- Payload of the best candidate. -/
def State.deepPay (s : State) (cands : List Candidate) : Nat :=
  match bestOf (cands.map fun c => (c.number, c.distance)) with
  | some (p, _) => (s.deepRecord p).pay
  | none => 0

end Sys2Proof.Machine
end

