-- ==== Sys2Proof/Certificates/Slice0/Obligations.lean ====
section
/-!
DEFINITION. The statements for the provers: what the commands do to the block, as the rules of spec/ say it.
-/
open Sys2Proof Sys2Proof.Machine

/-- For every command c, queue q and state s: step of s with c in front of q is exec of c on s with the queue q. (R213,
R427) -/
def Obligations.StepRunsFront : Prop :=
  ∀ (c : Instr) (q : List Instr) (s : State), step { s with pending := c :: q } = exec c { s with pending := q }

/-- Model choice (assumption log entry 1): on an empty queue step answers the state unchanged. (R213) -/
def Obligations.EmptyQueueIdles : Prop :=
  ∀ s : State, s.pending = [] → step s = .next s

/-- After reset VIN is present, PORST_N is asserted, the device is in Off, SAFE_N is asserted, no command waits and the
invariant Sound holds: Off whenever VIN is absent or PORST_N asserted, SAFE_N in Off, both byte memories canonical.
That reset stands at PORST_N asserted with VIN present is the choice of the model (assumption log entry 60). (R551,
R594) -/
def Obligations.Reset : Prop :=
  State.reset.vin = true ∧ State.reset.porst = true ∧ State.reset.power = .off ∧ State.reset.sec.safeN = true ∧
    State.reset.pending = [] ∧ State.reset.Sound

/-- From every state in which VIN absent or PORST_N asserted means Off, Off means SAFE_N asserted, and both byte memories
are canonical: whatever command a step takes, the next state is again such a state. (R551, R586, R594) -/
def Obligations.SoundAlways : Prop :=
  ∀ s t : State, s.Sound → step s = .next t → t.Sound

/-- In every sound state a step that answers a next state leaves the waiting commands without the one at the front: no
command removes, adds or reorders commands. (R213, R427) -/
def Obligations.OneCommandAStep : Prop :=
  ∀ s t : State, s.Sound → step s = .next t → t.pending = s.pending.tail

/-- A command that takes the device out of Off is a COLD_START with VIN present, and either PORST_N was asserted until it
or secure boot had stopped and now has an image to run. (R551, R586, R452) -/
def Obligations.OffIsLeftByColdStart : Prop :=
  ∀ (i : Instr) (s t : State), s.Sound → s.power = .off → exec i s = .next t → t.power ≠ .off →
    ∃ f, i = .coldStart f ∧ s.vin = true ∧ (s.porst = true ∨ s.startHalted = true ∧ s.booted = true)

/-- Only PORST_N, undervoltage of VIN and a thermal trip take the device to Off. (R415, R551, R586) -/
def Obligations.OffIsEnteredBy : Prop :=
  ∀ (i : Instr) (s t : State), s.Sound → s.power ≠ .off → exec i s = .next t → t.power = .off →
    i = .porstNAssert ∨ i = .vinUndervoltage ∨ ∃ channel, i = .thermalTrip channel

/-- When the word acts, ADD, SUB, MUL, MAX and MIN put a result on its way whose element k is the operation on elements k
of a and b; it lands 2 cc later (MUL 4 cc), for 32-bit elements 5 cc. Nothing else of the state changes but by the end
of the word. An element formed from poisoned data is poisoned and its value free. When the word acts, CMPEQ, CMPLT and
CMPLE give all ones where the comparison of elements k of a and b holds and 0 elsewhere, and SEL gives element k of a
where the pattern of c is not 0 and of b elsewhere; the result lands 2 cc later (32-bit elements 5 cc) and nothing
else changes but by the end of the word. (R235, R236, R213, R222, R192, R109) -/
def Obligations.VecArithmetic : Prop :=
  (∀ (s : State) (t : TileId) (w : WordTag) (f : VFmt) (vd va vb : Fin 32), Acts s t w →
    exec (.vecAdd t w f vd va vb) s =
      .next ((s.onItsWay t (latency f 2 5) (s.result2 t f vd va vb (elemAdd f)) 1).endWord t w) ∧
    exec (.sub t w f vd va vb) s =
      .next ((s.onItsWay t (latency f 2 5) (s.result2 t f vd va vb (elemSub f)) 1).endWord t w) ∧
    exec (.mul t w f vd va vb) s =
      .next ((s.onItsWay t (latency f 4 5) (s.result2 t f vd va vb (elemMul f)) 1).endWord t w) ∧
    exec (.max t w f vd va vb) s =
      .next ((s.onItsWay t (latency f 2 5) (s.result2 t f vd va vb (elemMax f)) 1).endWord t w) ∧
    exec (.min t w f vd va vb) s =
      .next ((s.onItsWay t (latency f 2 5) (s.result2 t f vd va vb (elemMin f)) 1).endWord t w)) ∧
  (∀ (s : State) (t : TileId) (w : WordTag) (f : VFmt) (vd va vb vc : Fin 32), Acts s t w →
    exec (.cmpeq t w f vd va vb) s =
      .next ((s.onItsWay t (latency f 2 5) (s.result2 t f vd va vb (elemCmpeq f)) 1).endWord t w) ∧
    exec (.cmplt t w f vd va vb) s =
      .next ((s.onItsWay t (latency f 2 5) (s.result2 t f vd va vb (elemCmplt f)) 1).endWord t w) ∧
    exec (.cmple t w f vd va vb) s =
      .next ((s.onItsWay t (latency f 2 5) (s.result2 t f vd va vb (elemCmple f)) 1).endWord t w) ∧
    exec (.sel t w f vd va vb vc) s =
      .next ((s.onItsWay t (latency f 2 5)
        (s.result3 t f vd va vb vc fun a b c => .clean (if c ≠ 0 then a else b)) 1).endWord t w))

/-- For the integer formats, when the word acts: WADD adds modulo 2 to the element width, AND, OR and XOR act bit by bit,
SHL shifts left and drops the bits shifted out, SHRA shifts right with rounding to nearest; the shift count is IMM
modulo 32. The result lands 2 cc later (INT32 5 cc). (R235, R110, R213, R222, R192) -/
def Obligations.VecInteger : Prop :=
  ∀ (s : State) (t : TileId) (w : WordTag) (f : VFmt) (vd va vb : Fin 32) (imm : Byte), Acts s t w → VFmt.isInt f = true →
    exec (.wadd t w f vd va vb) s =
      .next ((s.onItsWay t (latency f 2 5) (s.result2 t f vd va vb fun a b => .clean ((a + b) % 2 ^ VFmt.bits f)) 1).endWord t w) ∧
    exec (.and t w f vd va vb) s =
      .next ((s.onItsWay t (latency f 2 5) (s.result2 t f vd va vb fun a b => .clean (a &&& b)) 1).endWord t w) ∧
    exec (.or t w f vd va vb) s =
      .next ((s.onItsWay t (latency f 2 5) (s.result2 t f vd va vb fun a b => .clean (a ||| b)) 1).endWord t w) ∧
    exec (.xor t w f vd va vb) s =
      .next ((s.onItsWay t (latency f 2 5) (s.result2 t f vd va vb fun a b => .clean (a ^^^ b)) 1).endWord t w) ∧
    exec (.shl t w f vd va imm) s =
      .next ((s.onItsWay t (latency f 2 5) (s.result1 t f vd va fun a => .clean (a * 2 ^ (imm.toNat % 32) % 2 ^ VFmt.bits f)) 1).endWord t w) ∧
    exec (.shra t w f vd va imm) s =
      .next ((s.onItsWay t (latency f 2 5) (s.result1 t f vd va fun a =>
        .clean (uint (VFmt.bits f) (rshift (sint (VFmt.bits f) a) (imm.toNat % 32)))) 1).endWord t w)

/-- When the word acts: ABS and NEG (2 cc, 32-bit elements 5 cc); FMA, in every format but INT8, gives a times b plus c
rounded or saturated once (4 cc, 32-bit elements 5 cc); RCP, RSQRT and EXP, in the floating-point formats, land 10 cc
later. (R235, R236, R109, R213, R222, R192) -/
def Obligations.VecOneSource : Prop :=
  ∀ (s : State) (t : TileId) (w : WordTag) (f : VFmt) (vd va vb vc : Fin 32), Acts s t w →
    exec (.abs t w f vd va) s =
      .next ((s.onItsWay t (latency f 2 5) (s.result1 t f vd va (elemAbs f)) 1).endWord t w) ∧
    exec (.neg t w f vd va) s =
      .next ((s.onItsWay t (latency f 2 5) (s.result1 t f vd va (elemNeg f)) 1).endWord t w) ∧
    (f ≠ .int8 → exec (.fma t w f vd va vb vc) s =
      .next ((s.onItsWay t (latency f 4 5) (s.result3 t f vd va vb vc (elemFma f)) 1).endWord t w)) ∧
    (VFmt.isInt f = false →
      exec (.rcp t w f vd va) s =
        .next ((s.onItsWay t 10 (s.result1 t f vd va (FpFmt.recip (VFmt.fp f))) 1).endWord t w) ∧
      exec (.rsqrt t w f vd va) s =
        .next ((s.onItsWay t 10 (s.result1 t f vd va (FpFmt.rsqrt (VFmt.fp f))) 1).endWord t w) ∧
      exec (.exp t w f vd va) s =
        .next ((s.onItsWay t 10 (s.result1 t f vd va (FpFmt.exp (VFmt.fp f))) 1).endWord t w))

/-- When the HD engine issues the command (hub power is up, no command waits for a turnstile, the registers it reads
hold their final results, and it is the next command of the running list or a host command while no list runs or
waits) and its registers belong to its origin: NOP changes no register; GEN writes the item of its identifier (not the
reserved one); BIND the XOR, NOT the complement, COPY and ROT (by less than the width) and CAR the copied, rotated and
permuted vector, with the poison of the sources; LOADV loads n/8 bytes from a readable place that is a multiple of 32,
STOREV stores them there with the poison of the register; SIGN takes the signs of n elements. A command of a list
leaves it; a poisoned result is noted for the list or for the host; nothing else of the state changes. (R326, R327,
R328, R331, R332, R340, R342, R344, R346, R351, R352) -/
def Obligations.HdVectors : Prop :=
  ∀ (s : State),
    (∀ (o : HdOrigin),
        HdIssues s o (.hdNop o) →
        exec (.hdNop o) s = .next (s.hdPassed o)) ∧
    (∀ (o : HdOrigin) (w : HdWidth) (d : Fin 32) (id : W32) (slot : Fin 4),
        HdIssues s o (.gen o w d id slot) →
        HdOrigin.regOk o d = true →
        id ≠ tieId →
        exec (.gen o w d id slot) s = .next ((s.hdPassed o).hdResult o d (itemVector ((s.hdInForce o).seed slot.val) id (HdWidth.bits w)) false)) ∧
    (∀ (o : HdOrigin) (w : HdWidth) (d a b : Fin 32),
        HdIssues s o (.bind o w d a b) →
        HdOrigin.regOk o d = true →
        HdOrigin.regOk o a = true →
        HdOrigin.regOk o b = true →
        exec (.bind o w d a b) s = .next ((s.hdPassed o).hdResult o d (lowDims (HdWidth.bits w) ((s.hreg a).bits ^^^ (s.hreg b).bits))
          ((s.hreg a).poison || (s.hreg b).poison))) ∧
    (∀ (o : HdOrigin) (w : HdWidth) (d a : Fin 32),
        HdIssues s o (.not o w d a) →
        HdOrigin.regOk o d = true →
        HdOrigin.regOk o a = true →
        exec (.not o w d a) s = .next ((s.hdPassed o).hdResult o d (lowDims (HdWidth.bits w) (~~~(s.hreg a).bits)) (s.hreg a).poison)) ∧
    (∀ (o : HdOrigin) (w : HdWidth) (d a : Fin 32),
        HdIssues s o (.hdCopy o w d a) →
        HdOrigin.regOk o d = true →
        HdOrigin.regOk o a = true →
        exec (.hdCopy o w d a) s = .next ((s.hdPassed o).hdResult o d (lowDims (HdWidth.bits w) (s.hreg a).bits) (s.hreg a).poison)) ∧
    (∀ (o : HdOrigin) (w : HdWidth) (d a : Fin 32) (k : BitVec 13),
        HdIssues s o (.hdRot o w d a k) →
        HdOrigin.regOk o d = true →
        HdOrigin.regOk o a = true →
        k.toNat < HdWidth.bits w →
        exec (.hdRot o w d a k) s = .next ((s.hdPassed o).hdResult o d (rotDims (HdWidth.bits w) k.toNat (s.hreg a).bits) (s.hreg a).poison)) ∧
    (∀ (o : HdOrigin) (w : HdWidth) (d a : Fin 32) (c : Fin 8) (inverse : Bool),
        HdIssues s o (.car o w d a c inverse) →
        HdOrigin.regOk o d = true →
        HdOrigin.regOk o a = true →
        exec (.car o w d a c inverse) s = .next ((s.hdPassed o).hdResult o d
          (carouselDims ((s.hdInForce o).carousel.getD c.val 0) inverse (HdWidth.bits w) (s.hreg a).bits) (s.hreg a).poison)) ∧
    (∀ (o : HdOrigin) (w : HdWidth) (d : Fin 32) (hbo : W32),
        HdIssues s o (.loadv o w d hbo) →
        HdOrigin.regOk o d = true →
        hbo.toNat % 32 = 0 →
        hdReadOk hbo.toNat (HdWidth.bits w / 8) = true →
        exec (.loadv o w d hbo) s = .next ((s.hdPassed o).hdResult o d
          (BitVec.ofNat 8192 (leNat (s.hub.read hbo.toNat (HdWidth.bits w / 8)))) (s.hub.anyPoison hbo.toNat (HdWidth.bits w / 8)))) ∧
    (∀ (o : HdOrigin) (w : HdWidth) (a : Fin 32) (hbo : W32),
        HdIssues s o (.storev o w a hbo) →
        HdOrigin.regOk o a = true →
        hbo.toNat % 32 = 0 →
        hdWriteOk hbo.toNat (HdWidth.bits w / 8) = true →
        exec (.storev o w a hbo) s = .next (((s.hdPassed o).hubWrite hbo.toNat
          (leBytes (HdWidth.bits w / 8) (s.hreg a).bits.toNat) (s.hreg a).poison).noteHdPoison o (s.hreg a).poison)) ∧
    (∀ (o : HdOrigin) (w : HdWidth) (d : Fin 32) (fmt : SignFmt) (hbo : W32),
        HdIssues s o (.sign o w d fmt hbo) →
        HdOrigin.regOk o d = true →
        hbo.toNat % 32 = 0 →
        hdReadOk hbo.toNat (HdWidth.bits w * signBytes fmt) = true →
        exec (.sign o w d fmt hbo) s = .next ((s.hdPassed o).hdResult o d (BitVec.ofNat 8192
          (packNat 1 ((List.range (HdWidth.bits w)).map fun i =>
            let v := sint (8 * signBytes fmt) (leNat (s.hub.read (hbo.toNat + i * signBytes fmt) (signBytes fmt)))
            if 0 < v then 1 else if v < 0 then 0 else if ((s.hdInForce o).tieVector (HdWidth.bits w)).getLsbD i then 1 else 0)))
          (s.hub.anyPoison hbo.toNat (HdWidth.bits w * signBytes fmt))))

/-- When the HD engine issues the command and its registers and accumulator belong to its origin: BCLR clears the
accumulator; BADD and BADDX with a weight other than 0 add or subtract the vector, or the XOR of two, and raise event
0x7012 when a counter saturates; LEVEL writes the level of its input value, and for a NaN or a poisoned word the level
0 poisoned, with event 0x7011; a value whose level the rules do not give counts as a free one; SEQ writes the bound
or, from registers without poison, the bundled sequence of its registers; RECORD, where its descriptor and values may
be read, bundles every field of its descriptor and thresholds the sum. A command of a list leaves it. (R329, R330,
R334, R335, R336, R337, R338, R342, R344, R346, R351) -/
def Obligations.HdBundles : Prop :=
  ∀ (s : State),
    (∀ (o : HdOrigin) (acc : Fin 4),
        HdIssues s o (.bclr o acc) →
        HdOrigin.accOk o acc = true →
        exec (.bclr o acc) s = .next ((s.hdPassed o).hdSum o acc HAcc.zero)) ∧
    (∀ (o : HdOrigin) (w : HdWidth) (acc : Fin 4) (a : Fin 32) (weight : Byte) (subtract : Bool) (b : HAcc × Bool),
        HdIssues s o (.badd o w acc a weight subtract) →
        HdOrigin.accOk o acc = true →
        HdOrigin.regOk o a = true →
        weight ≠ 0 →
        b = (s.hacc acc).bundle (HdWidth.bits w) (s.hreg a).bits (if subtract then -(weight.toNat : Int) else weight.toNat) (s.hreg a).poison →
        exec (.badd o w acc a weight subtract) s = .next
          (if b.2 then ((s.hdPassed o).hdSum o acc b.1).deviceEvent 0x7012 (originAux o) else (s.hdPassed o).hdSum o acc b.1)) ∧
    (∀ (o : HdOrigin) (w : HdWidth) (acc : Fin 4) (x y : Fin 32) (weight : Byte) (subtract : Bool) (b : HAcc × Bool),
        HdIssues s o (.baddx o w acc x y weight subtract) →
        HdOrigin.accOk o acc = true →
        HdOrigin.regOk o x = true →
        HdOrigin.regOk o y = true →
        weight ≠ 0 →
        b = (s.hacc acc).bundle (HdWidth.bits w) ((s.hreg x).bits ^^^ (s.hreg y).bits) (if subtract then -(weight.toNat : Int) else weight.toNat)
          ((s.hreg x).poison || (s.hreg y).poison) →
        exec (.baddx o w acc x y weight subtract) s = .next
          (if b.2 then ((s.hdPassed o).hdSum o acc b.1).deviceEvent 0x7012 (originAux o) else (s.hdPassed o).hdSum o acc b.1)) ∧
    (∀ (o : HdOrigin) (w : HdWidth) (d : Fin 32) (slot : Fin 16) (hbo : W32) (e : Encoder) (q : Nat) (free : Bool),
        HdIssues s o (.level o w d slot hbo) →
        HdOrigin.regOk o d = true →
        e = mget Encoder.zero (s.hdInForce o).encoders slot.val →
        hbo.toNat % e.bytes = 0 →
        hdReadOk hbo.toNat e.bytes = true →
        s.levelOf e hbo.toNat = (q, false, free) →
        exec (.level o w d slot hbo) s = .next
          (let r := (s.hdPassed o).hdResult o d (e.level (s.hdInForce o) (HdWidth.bits w) q) false; if free then r.takeFree else r)) ∧
    (∀ (o : HdOrigin) (w : HdWidth) (d : Fin 32) (slot : Fin 16) (hbo : W32) (e : Encoder),
        HdIssues s o (.level o w d slot hbo) →
        HdOrigin.regOk o d = true →
        e = mget Encoder.zero (s.hdInForce o).encoders slot.val →
        hbo.toNat % e.bytes = 0 →
        hdReadOk hbo.toNat e.bytes = true →
        (fp32.decode (e.toFp (leNat (s.hub.read hbo.toNat e.bytes))) = .nan ∨ s.hub.anyPoison hbo.toNat e.bytes = true) →
        exec (.level o w d slot hbo) s = .next
          (((s.hdPassed o).hdResult o d (e.level (s.hdInForce o) (HdWidth.bits w) 0) true).deviceEvent 0x7011 (originAux o))) ∧
    (∀ (o : HdOrigin) (w : HdWidth) (d a : Fin 32) (acc : Fin 4) (m : Fin 16) (r : BitVec 13),
        HdIssues s o (.seq o w d a acc m r false) →
        HdOrigin.regOk o d = true →
        HdOrigin.regOk o a = true →
        a.val + m.val < 32 →
        HdOrigin.regOk o (regPlus a m.val) = true →
        exec (.seq o w d a acc m r false) s = .next
          ((s.hdPassed o).hdResult o d (((List.range (m.val + 1)).map fun j => rotDims (HdWidth.bits w) (r.toNat * (m.val + 1 - 1 - j) % HdWidth.bits w)
            (lowDims (HdWidth.bits w) (s.hreg (regPlus a j)).bits)).foldl (· ^^^ ·) 0)
            ((List.range (m.val + 1)).any fun j => (s.hreg (regPlus a j)).poison))) ∧
    (∀ (o : HdOrigin) (w : HdWidth) (d a : Fin 32) (acc : Fin 4) (m : Fin 16) (r : BitVec 13) (s1 : State),
        HdIssues s o (.seq o w d a acc m r true) →
        HdOrigin.regOk o d = true →
        HdOrigin.regOk o a = true →
        a.val + m.val < 32 →
        HdOrigin.regOk o (regPlus a m.val) = true →
        HdOrigin.accOk o acc = true →
        (s1 = ((List.range (m.val + 1)).map fun j => rotDims (HdWidth.bits w) (r.toNat * (m.val + 1 - 1 - j) % HdWidth.bits w)
          (lowDims (HdWidth.bits w) (s.hreg (regPlus a j)).bits)).foldl (fun z x => z.bundleInto o acc (HdWidth.bits w) x 1 false false)
          ((s.hdPassed o).hdSum o acc HAcc.zero)) →
        (((List.range (m.val + 1)).any fun j => (s.hreg (regPlus a j)).poison) = false) →
        exec (.seq o w d a acc m r true) s = .next
          (s1.hdResult o d ((s1.hacc acc).threshold (HdWidth.bits w) ((s.hdInForce o).tieVector (HdWidth.bits w))) false)) ∧
    (∀ (o : HdOrigin) (w : HdWidth) (d : Fin 32) (acc : Fin 4) (hbo : W32) (h : List Byte) (s1 : State) (bad free : Bool),
        HdIssues s o (.record o w d acc hbo) →
        HdOrigin.regOk o d = true →
        HdOrigin.accOk o acc = true →
        hbo.toNat % 16 = 0 →
        s.recordReadable (s.hdInForce o) hbo.toNat = true →
        h = s.hub.read hbo.toNat 16 →
        (((List.range (min 256 (fieldAt h 0 2))).map fun k => s.recordField (hbo.toNat + 16 + 12 * k)).foldl
          (State.addField (s.hdInForce o) o acc (HdWidth.bits w) (fieldAt h 2 1 % 4)) ((s.hdPassed o).hdSum o acc HAcc.zero, false, false) = (s1, bad, free)) →
        exec (.record o w d acc hbo) s = .next
          (let lost := s.hub.anyPoison hbo.toNat (16 + 12 * min 256 (fieldAt h 0 2))
           let s1' := if lost then s1.hdSum o acc { s1.hacc acc with poison := true } else s1
           let s2 := s1'.hdResult o d ((s1.hacc acc).threshold (HdWidth.bits w) ((s.hdInForce o).tieVector (HdWidth.bits w)))
             (bad || lost)
           let s3 := if bad then s2.deviceEvent 0x7011 (originAux o) else s2
           if free then s3.takeFree else s3))

/-- The vector that BTHR writes at width n has dimension i set when counter i is greater than 0, clear when it is
below 0, and equal to dimension i of the tie vector T when it is 0; the command leaves the counters as they were and
writes nothing but its register, the note of a poisoned result and its place in its list. (R330) -/
def Obligations.BundleThreshold : Prop :=
  ∀ (s : State) (o : HdOrigin) (w : HdWidth) (d : Fin 32) (acc : Fin 4),
    HdIssues s o (.bthr o w d acc) → HdOrigin.regOk o d = true → HdOrigin.accOk o acc = true →
    ∃ x : BitVec 8192, exec (.bthr o w d acc) s = .next ((s.hdPassed o).hdResult o d x (s.hacc acc).poison) ∧
      ((s.hdPassed o).hdResult o d x (s.hacc acc).poison).hacc acc = s.hacc acc ∧
      ∀ i, i < HdWidth.bits w →
        (0 < mget 0 (s.hacc acc).counters i → x.getLsbD i = true) ∧
        (mget 0 (s.hacc acc).counters i < 0 → x.getLsbD i = false) ∧
        (mget 0 (s.hacc acc).counters i = 0 → x.getLsbD i = ((s.hdInForce o).tieVector (HdWidth.bits w)).getLsbD i)

/-- While fewer than 4 outputs are under way, OUTV asks for tickets for the rows of a vector as holder 0x101, and
OUTV_WRITE writes the oldest granted one. ADDG adds to a global turnstile once the recall commands and outputs of its
origin are complete; WAITG waits for one that is not done. LIST_TRIGGER takes the first trigger: its list starts when
no list runs or waits and no command waits, else it is queued; for one that runs already event 0x7010 is raised, and
one that waits already is queued once more, with event 0x7010. LIST_END of a list whose commands have all issued and
whose recall commands are complete applies its done add and starts the next. CAROUSEL_REBUILD_COMPLETE marks the
rebuilt item. (R341, R343, R344, R349, R350, R351, R352, R366) -/
def Obligations.HdTransfers : Prop :=
  ∀ (s : State),
    (∀ (o : HdOrigin) (w : HdWidth) (a : Fin 32) (tile : Handle) (row : BitVec 13) (ts : Byte) (value : BitVec 14) (t : TileId) (r : State),
        HdIssues s o (.outv o w a tile row ts value) →
        s.hd.outvs.length < 4 →
        HdOrigin.regOk o a = true →
        value ≠ 0 →
        Handle.physValid tile = true →
        Handle.tile? tile = some t →
        row.toNat + HdWidth.bits w / 2048 ≤ 8192 →
        r = (s.hdPassed o).agentRequest 0x101 (originAux o) t row.toNat (hvRows (HdWidth.bits w) (s.hreg a)) (.global ts value.toNat) →
        exec (.outv o w a tile row ts value) s = .next { r with hd := { r.hd with
          outvs := r.hd.outvs ++ [s.fabric.nextTag]
          listPoison := r.hd.listPoison || ((s.hreg a).poison && decide (o ≠ .host))
          hostPoison := r.hd.hostPoison || ((s.hreg a).poison && decide (o = .host)) } }) ∧
    (∀ (a : AgentWrite) (r : State),
        (s.agents.find? (fun a => decide (a.holder = 0x101) && a.granted) = some a) →
        r = s.agentWrite a false →
        exec .outvWrite s = .next ({ r with hd := { r.hd with outvs := r.hd.outvs.erase a.tag } } : State).runHdQueue) ∧
    (∀ (o : HdOrigin) (ts : Byte) (value : BitVec 14),
        HdIssues s o (.addg o ts value) →
        s.outvBusy o = false →
        s.recallBusy (decide (o ≠ .host)) = false →
        value ≠ 0 →
        exec (.addg o ts value) s = .next ((s.hdPassed o).globalUpdate ts (.add value.toNat) false)) ∧
    (∀ (o : HdOrigin) (ts : Byte),
        HdIssues s o (.waitg o ts) →
        exec (.waitg o ts) s = .next
          (if (mget Ts.zero s.globals.ts ts.toNat).done then s.hdPassed o
           else { s.hdPassed o with hd := { (s.hdPassed o).hd with waiting := some (o, ts) } })) ∧
    (∀ (c : Nat) (n : Fin 16) (rest : List (Nat × Fin 16)),
        s.hd.triggered = (c, n) :: rest →
        s.hd.running = none →
        s.hd.queue = [] →
        s.hd.waiting = none →
        exec (.listTrigger n) s = .next { s with hd := { s.hd with
          triggered := rest, running := some n, listEntry := mget HdList.zero s.hd.lists n.val, listPos := 0
          listSettings := s.hd.settings, listPoison := false } }) ∧
    (∀ (c : Nat) (n m : Fin 16) (rest : List (Nat × Fin 16)) (r : State),
        s.hd.triggered = (c, n) :: rest →
        s.hd.running = some m →
        ((s.hd.queue.any fun q => decide (q.1 = n)) = false) →
        r = { s with hd := { s.hd with triggered := rest, queue := s.hd.queue ++ [(n, s.hd.settings)] } } →
        exec (.listTrigger n) s = .next (if m = n then r.deviceEvent 0x7010 n.val else r)) ∧
    (∀ (c : Nat) (n : Fin 16) (rest : List (Nat × Fin 16)),
        s.hd.triggered = (c, n) :: rest →
        s.hd.running ≠ some n →
        (s.hd.queue.any fun q => decide (q.1 = n)) = true →
        exec (.listTrigger n) s = .next (({ s with hd := { s.hd with
          triggered := rest, again := if s.hd.again.contains n then s.hd.again else s.hd.again ++ [n] } } : State).deviceEvent 0x7010 n.val)) ∧
    (∀ (n : Fin 16),
        s.hd.running = some n →
        s.hd.waiting = none →
        s.recallBusy true = false →
        s.listRest n = [] →
        exec (.listEnd n) s = .next
          (s.globalUpdate s.hd.listEntry.doneTs (.add s.hd.listEntry.doneValue) s.hd.listPoison).nextList.runHdQueue) ∧
    (∀ (item : Fin 24),
        item.val ∈ s.hd.rebuilding →
        exec (.carouselRebuildComplete item) s = .next { s with hd := { s.hd with
          rebuilding := s.hd.rebuilding.filter fun k => decide (k ≠ item.val)
          rebuilt := s.hd.rebuilt ++ [item.val] } })

/-- When the HD engine issues the command and its fields are good: SRCH and RDE join the queue of searches while it
has fewer than 16; INS, DEL and UPD join the queue of updates while it has fewer than 64, and a poisoned source or a
wrong width refuses INS and UPD with event 0x7023; CFREE empties its cursor once no search fills it; GLIST hands the
gather list to the KV engine, once per frame, later ones raise event 0x7025. (R360, R364, R365, R366, R367, R371,
R377) -/
def Obligations.RecallCommands : Prop :=
  ∀ (s : State),
    (∀ (o : HdOrigin) (w : HdWidth) (a d : Fin 32) (mask : W16) (cursor : Fin 16) (fill : Bool) (enables : BitVec 4) (bestKey : Bool)
        (dmin dmax : BitVec 14) (hbo : W32) (r : State),
        HdIssues s o (.srch o w a d mask cursor fill enables bestKey dmin dmax hbo) →
        (s.cursor cursor.val).filling = false →
        s.rcl.queries.length < 16 →
        HdOrigin.regOk o a = true →
        (bestKey = false ∨ HdOrigin.regOk o d = true) →
        HdOrigin.cursorOk o cursor = true →
        mask ≠ 0 →
        dmin.toNat ≤ dmax.toNat →
        dmax.toNat ≤ HdWidth.bits w →
        hbo.toNat % 32 = 0 →
        hdWriteOk hbo.toNat 32 = true →
        r = { s.hdPassed o with rcl := { s.rcl with
          queries := s.rcl.queries ++ [.search (decide (o ≠ .host)) o (s.hreg a) w (if bestKey then d else 0) mask cursor fill enables
            bestKey dmin.toNat dmax.toNat hbo.toNat] } } →
        exec (.srch o w a d mask cursor fill enables bestKey dmin dmax hbo) s = .next
          (if fill then { r with rcl := { r.rcl with
             cursors := mset Cursor.empty s.rcl.cursors cursor.val { s.cursor cursor.val with filling := true } } }
           else r)) ∧
    (∀ (o : HdOrigin) (w : HdWidth) (bank : Fin 16) (pos : BitVec 14) (hbo : W32),
        HdIssues s o (.rde o w bank pos hbo) →
        s.rcl.queries.length < 16 →
        hbo.toNat % 32 = 0 →
        hdWriteOk hbo.toNat (24 + HdWidth.bits w / 8) = true →
        exec (.rde o w bank pos hbo) s = .next { s.hdPassed o with rcl := { s.rcl with
          queries := s.rcl.queries ++ [.read (decide (o ≠ .host)) w bank pos.toNat hbo.toNat] } }) ∧
    (∀ (o : HdOrigin) (w : HdWidth) (a : Fin 32) (bank : Fin 16) (hbo : W32),
        HdIssues s o (.ins o w a bank hbo) →
        s.rcl.updates.length < 64 →
        HdOrigin.regOk o a = true →
        hbo.toNat % 8 = 0 →
        hdReadOk hbo.toNat 24 = true →
        (s.hreg a).poison = false →
        s.hub.anyPoison hbo.toNat 24 = false →
        (s.rbank bank.val).width = widthCode w →
        exec (.ins o w a bank hbo) s = .next { s.hdPassed o with rcl := { s.rcl with updates := s.rcl.updates ++ [.ins bank
          { Entry.ofBytes (s.hub.read hbo.toNat 24) with key := lowDims (HdWidth.bits w) (s.hreg a).bits, state := 1 }] } }) ∧
    (∀ (o : HdOrigin) (w : HdWidth) (a : Fin 32) (bank : Fin 16) (hbo : W32),
        HdIssues s o (.ins o w a bank hbo) →
        s.rcl.updates.length < 64 →
        HdOrigin.regOk o a = true →
        hbo.toNat % 8 = 0 →
        hdReadOk hbo.toNat 24 = true →
        ((s.hreg a).poison = true ∨ s.hub.anyPoison hbo.toNat 24 = true) →
        exec (.ins o w a bank hbo) s = .next ((s.hdPassed o).raise 0x7023 deviceHandle (eventParam 3 0) (BitVec.ofNat 16 bank.val))) ∧
    (∀ (o : HdOrigin) (w : HdWidth) (a : Fin 32) (bank : Fin 16) (hbo : W32),
        HdIssues s o (.ins o w a bank hbo) →
        s.rcl.updates.length < 64 →
        HdOrigin.regOk o a = true →
        hbo.toNat % 8 = 0 →
        hdReadOk hbo.toNat 24 = true →
        (s.hreg a).poison = false →
        s.hub.anyPoison hbo.toNat 24 = false →
        (s.rbank bank.val).width ≠ widthCode w →
        exec (.ins o w a bank hbo) s = .next ((s.hdPassed o).raise 0x7023 deviceHandle (eventParam 4 0) (BitVec.ofNat 16 bank.val))) ∧
    (∀ (o : HdOrigin) (bank : Fin 16) (first countM1 : BitVec 14),
        HdIssues s o (.del o bank first countM1) →
        s.rcl.updates.length < 64 →
        exec (.del o bank first countM1) s = .next { s.hdPassed o with rcl := { s.rcl with
          updates := s.rcl.updates ++ [.del bank first.toNat (first.toNat + countM1.toNat)] } }) ∧
    (∀ (o : HdOrigin) (w : HdWidth) (a : Fin 32) (bank : Fin 16) (withKey : Bool) (pos : BitVec 14) (hbo : W32),
        HdIssues s o (.upd o w a bank withKey pos hbo) →
        s.rcl.updates.length < 64 →
        (withKey = false ∨ HdOrigin.regOk o a = true) →
        hbo.toNat % 8 = 0 →
        hdReadOk hbo.toNat 24 = true →
        (withKey && (s.hreg a).poison) = false →
        s.hub.anyPoison hbo.toNat 24 = false →
        (withKey = false ∨ (s.rbank bank.val).width = widthCode w) →
        exec (.upd o w a bank withKey pos hbo) s = .next { s.hdPassed o with rcl := { s.rcl with updates := s.rcl.updates ++ [.upd bank pos.toNat
          (if withKey then some (lowDims (HdWidth.bits w) (s.hreg a).bits) else none)
          { Entry.ofBytes (s.hub.read hbo.toNat 24) with state := 1 }] } }) ∧
    (∀ (o : HdOrigin) (w : HdWidth) (a : Fin 32) (bank : Fin 16) (withKey : Bool) (pos : BitVec 14) (hbo : W32),
        HdIssues s o (.upd o w a bank withKey pos hbo) →
        s.rcl.updates.length < 64 →
        (withKey = false ∨ HdOrigin.regOk o a = true) →
        hbo.toNat % 8 = 0 →
        hdReadOk hbo.toNat 24 = true →
        ((withKey = true ∧ (s.hreg a).poison = true) ∨ s.hub.anyPoison hbo.toNat 24 = true) →
        exec (.upd o w a bank withKey pos hbo) s = .next
          ((s.hdPassed o).raise 0x7023 deviceHandle (eventParam 3 0) (BitVec.ofNat 16 bank.val))) ∧
    (∀ (o : HdOrigin) (w : HdWidth) (a : Fin 32) (bank : Fin 16) (pos : BitVec 14) (hbo : W32),
        HdIssues s o (.upd o w a bank true pos hbo) →
        s.rcl.updates.length < 64 →
        HdOrigin.regOk o a = true →
        hbo.toNat % 8 = 0 →
        hdReadOk hbo.toNat 24 = true →
        (s.hreg a).poison = false →
        s.hub.anyPoison hbo.toNat 24 = false →
        (s.rbank bank.val).width ≠ widthCode w →
        exec (.upd o w a bank true pos hbo) s = .next
          ((s.hdPassed o).raise 0x7023 deviceHandle (eventParam 4 0) (BitVec.ofNat 16 bank.val))) ∧
    (∀ (o : HdOrigin) (cursor : Fin 16),
        HdIssues s o (.cfree o cursor) →
        (s.cursor cursor.val).filling = false →
        HdOrigin.cursorOk o cursor = true →
        exec (.cfree o cursor) s = .next { s.hdPassed o with rcl := { s.rcl with
          cursors := mset Cursor.empty s.rcl.cursors cursor.val Cursor.empty } }) ∧
    (∀ (o : HdOrigin),
        HdIssues s o (.glist o) →
        exec (.glist o) s = .next
          (if s.rcl.glistDone then (s.hdPassed o).deviceEvent 0x7025 (originAux o)
           else { s.hdPassed o with
             rcl := { s.rcl with glistDone := true, handed := some s.rcl.gather }
             kv := { s.kv with gatherDue := true } }))

/-- CSTEP takes up to k further marks of its cursor: it writes a step record for each, or appends their payloads to the
gather list with event 0x7025 when one was dropped, writes its header and moves the next pointer; the poison of the
cursor passes to the words and to the origin. DCOLL writes the record of the deep candidates whose value lies within
64 of the range asked for and whose tags pass, and fills its cursor with the first 4,096 of them; event 0x7026 is
raised when some were left out or a block of a group is in class B; poisoned ranges poison cursor and origin. (R369,
R370, R371, R385, R386) -/
def Obligations.CursorSteps : Prop :=
  ∀ (s : State),
    (∀ (o : HdOrigin) (cursor : Fin 16) (kM1 : Byte) (hbo : W32) (c : Cursor) (steps : List Nat),
        HdIssues s o (.cstep o cursor false kM1 hbo) →
        s.cursor cursor.val = c →
        c.filling = false →
        HdOrigin.cursorOk o cursor = true →
        hbo.toNat % 16 = 0 →
        hdWriteOk hbo.toNat (16 + 16 * (kM1.toNat + 1)) = true →
        steps = (c.marks.drop c.next).take (kM1.toNat + 1) →
        exec (.cstep o cursor false kM1 hbo) s = .next
          (let rest := c.marks.length - (c.next + steps.length)
           let s1 := ((s.hdPassed o).setCursor cursor.val { c with next := c.next + steps.length }).hubWrite hbo.toNat
             (leBytes 2 steps.length ++ leBytes 1 (bit (decide (rest = 0)) 0 + bit false 1 + bit c.poison 2) ++ leBytes 1 0 ++ leBytes 4 rest ++
               leBytes 2 s.rcl.gather.length ++ leBytes 6 0 ++ steps.flatMap fun x => s.stepRecord c x) c.poison
           s1.noteHdPoison o c.poison)) ∧
    (∀ (o : HdOrigin) (cursor : Fin 16) (kM1 : Byte) (hbo : W32) (c : Cursor) (steps : List Nat) (r : Recall) (dropped : Bool),
        HdIssues s o (.cstep o cursor true kM1 hbo) →
        s.cursor cursor.val = c →
        c.filling = false →
        HdOrigin.cursorOk o cursor = true →
        hbo.toNat % 16 = 0 →
        hdWriteOk hbo.toNat 16 = true →
        steps = (c.marks.drop c.next).take (kM1.toNat + 1) →
        (steps.foldl (fun (p : Recall × Bool) x => ((p.1.append (BitVec.ofNat 32 (s.marked c x).pay) c.poison).1,
          p.2 || (p.1.append (BitVec.ofNat 32 (s.marked c x).pay) c.poison).2)) (s.rcl, false) = (r, dropped)) →
        exec (.cstep o cursor true kM1 hbo) s = .next
          (let rest := c.marks.length - (c.next + steps.length)
           let s1 := (({ s.hdPassed o with rcl := r } : State).setCursor cursor.val { c with next := c.next + steps.length }).hubWrite hbo.toNat
             (leBytes 2 steps.length ++ leBytes 1 (bit (decide (rest = 0)) 0 + bit dropped 1 + bit c.poison 2) ++ leBytes 1 0 ++ leBytes 4 rest ++
               leBytes 2 r.gather.length ++ leBytes 6 0) c.poison
           let s2 := s1.noteHdPoison o c.poison
           if dropped then s2.deviceEvent 0x7025 cursor.val else s2)) ∧
    (∀ (o : HdOrigin) (cursor : Fin 16) (fill : Bool) (enables : BitVec 4) (dmin dmax : BitVec 14) (hbo : W32) (numbers : List Nat)
        (cands : List Candidate) (dirty : Bool) (s1 s2 : State),
        HdIssues s o (.dcoll o cursor fill enables dmin dmax hbo) →
        (s.cursor cursor.val).filling = false →
        HdOrigin.cursorOk o cursor = true →
        dmin.toNat ≤ dmax.toNat →
        dmax.toNat ≤ 8192 →
        hbo.toNat % 32 = 0 →
        hdWriteOk hbo.toNat 32 = true →
        numbers = s.deepNumbers →
        dirty = s.hub.anyPoison hbo.toNat 16 →
        cands = s.deepCandidates numbers enables (s.hub.read hbo.toNat 16) dmin.toNat dmax.toNat →
        s1 = (s.hdPassed o).hubWrite (hbo.toNat + 16) (searchRecord (bestOf (cands.map fun c => (c.number, c.distance))) cands.length
          (s.deepFlags numbers cands fill dirty) (s.deepPay cands)) false →
        s2 = (if fill then s1.setCursor cursor.val {
            marks := (cands.take 4096).map fun c => c.number, next := 0, deep := true
            dist := (cands.take 4096).map fun c => (c.number, c.distance, c.marginal), poison := dirty, filling := false }
          else s1).noteHdPoison o dirty →
        exec (.dcoll o cursor fill enables dmin dmax hbo) s = .next
          (if (fill && decide (4096 < cands.length)) || s.deepClassB then s2.deviceEvent 0x7026 cursor.val else s2))

/-- With hub power up, and a slot that ends before the next frame start, RECALL_SLOT counts the slot; in a slot that the
throttle lets serve, an insert under way makes its next move, or its write when none is left; else the updates from
the head of the queue are served until one takes the slot, else the oldest search or read is served, else a re-spread
moves one entry. SEARCH_COMPLETE writes the oldest result to its place, its best key to its register, and its cursor
becomes ready. With hub power up PARITY_SCAN_WORD steps the scan; a bad word damages a valid entry, and counts a
rewritten hole. (R361, R362, R363, R366, R374, R378, R379, R380, R381) -/
def Obligations.RecallSlots : Prop :=
  ∀ (s : State),
    (∀ (bad : List (Fin 16 × Nat)) (b : Fin 16) (p : InsertPlan) (x y : Nat) (rest : List (Nat × Nat)) (r : State),
        s.awake = true →
        s.recallSlotFits = true →
        s.rcl.slot % s.rcl.throttle = 0 →
        s.rcl.inserting = some (b, p) →
        p.moves = (x, y) :: rest →
        r = ({ s with rcl := { s.rcl with slot := s.rcl.slot + 1 } } : State).moveEntry b.val x y →
        exec (.recallSlot bad) s = .next { r with rcl := { r.rcl with inserting := some (b, { p with moves := rest }) } }) ∧
    (∀ (bad : List (Fin 16 × Nat)) (b : Fin 16) (p : InsertPlan) (r : State),
        s.awake = true →
        s.recallSlotFits = true →
        s.rcl.slot % s.rcl.throttle = 0 →
        s.rcl.inserting = some (b, p) →
        p.moves = [] →
        (r = ({ s with rcl := { s.rcl with slot := s.rcl.slot + 1, inserting := none } } : State).modRbank b.val fun k =>
          k.put p.pos p.entry) →
        exec (.recallSlot bad) s = .next (if (r.rbank b.val).respread.isSome then r.startRespread b.val else r)) ∧
    (∀ (bad : List (Fin 16 × Nat)) (q : Query) (rest : List Query),
        s.awake = true →
        s.recallSlotFits = true →
        s.rcl.slot % s.rcl.throttle = 0 →
        s.rcl.inserting = none →
        s.rcl.updates = [] →
        s.rcl.queries = q :: rest →
        exec (.recallSlot bad) s = .next
          (({ s with rcl := { s.rcl with slot := s.rcl.slot + 1, queries := rest } } : State).serveQuery
            (bad.map fun (x : Fin 16 × Nat) => storePos x.1.val x.2) q)) ∧
    (∀ (bad : List (Fin 16 × Nat)),
        s.awake = true →
        s.recallSlotFits = true →
        s.rcl.slot % s.rcl.throttle ≠ 0 →
        exec (.recallSlot bad) s = .next { s with rcl := { s.rcl with slot := s.rcl.slot + 1 } }) ∧
    (∀ (bad : List (Fin 16 × Nat)) (u : Update) (rest : List Update) (r : State),
        s.awake = true →
        s.recallSlotFits = true →
        s.rcl.slot % s.rcl.throttle = 0 →
        s.rcl.inserting = none →
        s.rcl.updates = u :: rest →
        ({ s with rcl := { s.rcl with slot := s.rcl.slot + 1, updates := rest } } : State).serveUpdate u = (r, true) →
        exec (.recallSlot bad) s = .next r) ∧
    (∀ (bad : List (Fin 16 × Nat)) (r : State),
        s.awake = true →
        s.recallSlotFits = true →
        s.rcl.slot % s.rcl.throttle = 0 →
        s.rcl.inserting = none →
        ({ s with rcl := { s.rcl with slot := s.rcl.slot + 1 } } : State).serveUpdates (s.rcl.updates.length + 1) = (r, false) →
        (∀ q rest, r.rcl.queries = q :: rest → exec (.recallSlot bad) s = .next
          (({ r with rcl := { r.rcl with queries := rest } } : State).serveQuery
            (bad.map fun (x : Fin 16 × Nat) => storePos x.1.val x.2) q)) ∧
        (r.rcl.queries = [] → exec (.recallSlot bad) s = .next r.respreadSlot)) ∧
    (∀ (r : SearchResult) (rest : List SearchResult) (s1 : State),
        s.rcl.results = r :: rest →
        s1 = ({ s with rcl := { s.rcl with results := rest } } : State).hubWrite r.place r.bytes r.poison →
        exec .searchComplete s = .next
          (let s2 := match r.reg with
             | some (d, x) => { s1 with hd := { s1.hd with regs := mset HReg.zero s1.hd.regs d.val x } }
             | none => s1
           match r.cursor with
           | some c => s2.setCursor c.val { s2.cursor c.val with filling := false }
           | none => s2).runHdQueue) ∧
    (∀ (bank : Fin 16) (k : RBank),
        s.awake = true →
        s.rbank bank.val = k →
        exec (.parityScanWord bank false) s = .next (s.setRbank bank.val { k with scan := (k.scan + 1) % 573440 })) ∧
    (∀ (bank : Fin 16) (k : RBank),
        s.awake = true →
        s.rbank bank.val = k →
        (k.entry (k.wordPos k.scan)).isValid = true →
        exec (.parityScanWord bank true) s = .next
          ((s.setRbank bank.val { k with scan := (k.scan + 1) % 573440 }).damageEntry bank.val (k.wordPos k.scan))) ∧
    (∀ (bank : Fin 16) (k : RBank),
        s.awake = true →
        s.rbank bank.val = k →
        (k.entry (k.wordPos k.scan)).isHole = true →
        exec (.parityScanWord bank true) s = .next
          (s.setRbank bank.val { k with scan := (k.scan + 1) % 573440, rewritten := k.rewritten + 1 }))

/-- Served with no bad word, no poison and no bank of another width: the hits are the valid entries of the enabled banks
of the mask whose enabled tags pass and whose Hamming distance lies in the range; the record is that of the best
match, which is the first of the hits with the lowest distance, and of the count of the hits; nothing else of the
state changes. (R358, R359, R363) -/
def Obligations.SearchHits : Prop :=
  ∀ (s : State) (l : Bool) (o : HdOrigin) (key : HReg) (w : HdWidth) (d : Fin 32) (mask : W16) (cursor : Fin 16) (enables : BitVec 4)
      (dmin dmax hbo : Nat) (banks : List Nat) (hits : List (Nat × Nat)),
    key.poison = false → s.hub.anyPoison hbo 16 = false →
    banks = ((List.range 16).filter fun b => mask.getLsbD b).filter (fun b => (s.rbank b).enable) →
    (∀ b, b < 16 → mask.getLsbD b = true → (s.rbank b).width = widthCode w) →
    (∀ q ∈ s.searchSpace banks, q.2.state ≠ 2) →
    hits = ((s.searchSpace banks).filter fun q => q.2.isValid && tagsPass q.2 enables (s.hub.read hbo 16) &&
      decide (dmin ≤ hamming (HdWidth.bits w) key.bits q.2.key) && decide (hamming (HdWidth.bits w) key.bits q.2.key ≤ dmax)).map
        (fun q => (q.1, hamming (HdWidth.bits w) key.bits q.2.key)) →
    (∃ pay, s.serveQuery [] (.search l o key w d mask cursor false enables false dmin dmax hbo) = { s with rcl := { s.rcl with
      results := s.rcl.results ++ [⟨l, hbo + 16, searchRecord (bestOf hits) hits.length (if 2 ≤ hits.length then 1 else 0) pay,
        false, none, none⟩] } }) ∧
    (bestOf hits = none ↔ hits = []) ∧
    ∀ p n, bestOf hits = some (p, n) → (∀ q ∈ hits, n ≤ q.2) ∧
      ∃ i, hits[i]? = some (p, n) ∧ ∀ (j : Nat) q, j < i → hits[j]? = some q → n < q.2

/-- With hub power up, CSI2_PACKET with a usable header, on a port that is not looped back and without overflow: a
packet for no enabled context of its port and virtual channel, and one of another data type than the context's, is
counted as dropped; a frame start starts a frame (after the end of the one before), a frame end ends it, a line of the
data type of the context joins the frame, which stays good only with a right checksum and length. CAMERA_FRAME_END
writes a good and whole frame to its buffer of the ring, newest from then on, or discards it with event 0x4040.
INGRESS_DELIVERY writes the oldest granted stripe and lets the latched contexts ask for their next. (R313, R316, R317,
R319, R320, R537, R538) -/
def Obligations.Cameras : Prop :=
  ∀ (s : State),
    (∀ (port : Fin 8) (p : CsiPacket),
        s.awake = true →
        p.headerOk = true →
        s.loopHolds (0x10 + port.val) = false →
        s.contextOf port.val p.vc.val = none →
        exec (.csi2Packet port p false) s = .next { s with ingress := { s.ingress with
          dropped := mset 0 s.ingress.dropped port.val (mget 0 s.ingress.dropped port.val + 1) } }) ∧
    (∀ (port : Fin 8) (p : CsiPacket) (k : Nat),
        s.awake = true →
        p.headerOk = true →
        s.loopHolds (0x10 + port.val) = false →
        s.contextOf port.val p.vc.val = some k →
        p.dataType = 0 →
        exec (.csi2Packet port p false) s = .next (s.startCameraFrame k)) ∧
    (∀ (port : Fin 8) (p : CsiPacket) (k : Nat),
        s.awake = true →
        p.headerOk = true →
        s.loopHolds (0x10 + port.val) = false →
        s.contextOf port.val p.vc.val = some k →
        p.dataType = 1 →
        (s.context k).inFrame = true →
        exec (.csi2Packet port p false) s = .next (s.setContext k { s.context k with ended := true })) ∧
    (∀ (port : Fin 8) (p : CsiPacket) (k : Nat),
        s.awake = true →
        p.headerOk = true →
        s.loopHolds (0x10 + port.val) = false →
        s.contextOf port.val p.vc.val = some k →
        p.dataType.toNat ≠ csiType (s.context k).settings.dtype →
        3 < p.dataType.toNat →
        exec (.csi2Packet port p false) s = .next { s with ingress := { s.ingress with
          dropped := mset 0 s.ingress.dropped port.val (mget 0 s.ingress.dropped port.val + 1) } }) ∧
    (∀ (port : Fin 8) (p : CsiPacket) (k : Nat) (c : ImgContext),
        s.awake = true →
        p.headerOk = true →
        s.loopHolds (0x10 + port.val) = false →
        s.contextOf port.val p.vc.val = some k →
        s.context k = c →
        p.dataType.toNat = csiType c.settings.dtype →
        3 < p.dataType.toNat →
        c.inFrame = true →
        c.ended = false →
        exec (.csi2Packet port p false) s = .next (s.setContext k { c with
          lines := c.lines ++ [p.payload]
          good := c.good && p.crcOk && c.lengthOk p.payload.length })) ∧
    (∀ (k : Fin 16) (c : ImgContext),
        s.awake = true →
        s.context k.val = c →
        c.inFrame = true →
        c.ended = true →
        c.good = true →
        c.settings.linesNeeded ≤ c.lines.length →
        exec (.cameraFrameEnd k) s = .next
          (let g := c.settings
           let sup := if c.newest.isSome && !c.taken then c.superseded + 1 else c.superseded
           let a := g.bufferAt c.buffer
           let m0 := s.lpddr.write a (frameHeader k.val 1 g.planes (c.sequence + 1) s.nowNs g.outW g.outH 0 g.outH sup)
           let m1 := (List.range g.planeCount).foldl (fun m p => (List.range g.outH).foldl (fun m y =>
             m.write (a + 256 + (p * g.outH + y) * g.pitch) (g.line c.lines p y)) m) m0
           ({ s with lpddr := m1 } : State).setContext k.val { c with
             inFrame := false, lines := [], good := true, ended := false
             newest := some c.buffer, taken := false, superseded := sup, sequence := c.sequence + 1, endTime := s.nowNs })) ∧
    (∀ (k : Fin 16) (c : ImgContext),
        s.awake = true →
        s.context k.val = c →
        c.inFrame = true →
        c.ended = true →
        (c.good = false ∨ c.lines.length < c.settings.linesNeeded) →
        exec (.cameraFrameEnd k) s = .next
          ((s.setContext k.val { c with inFrame := false, lines := [], good := true, ended := false }).deviceEvent 0x4040 k.val)) ∧
    (∀ (a : AgentWrite),
        s.awake = true →
        (s.agents.find? (fun a => decide (a.holder = 0x103) && a.granted) = some a) →
        exec .ingressDelivery s = .next (s.agentWrite a false).requestStripes)

/-- A plane that is resized to its own size keeps every pixel. A resized pixel never leaves the range of the pixels it is
formed from. (R315) -/
def Obligations.ResizeOfSameSize : Prop :=
  (∀ (pix : Nat → Nat → Nat) (w h u v : Nat), u < w → v < h → resizePixel pix w h w h u v = pix u v) ∧
  ∀ (pix : Nat → Nat → Nat) (cw ch ow oh u v lo hi : Nat), (∀ x y, lo ≤ pix x y ∧ pix x y ≤ hi) →
    lo ≤ resizePixel pix cw ch ow oh u v ∧ resizePixel pix cw ch ow oh u v ≤ hi

/-- CYCLIC_FRAME_RETURN of a segment that awaits its frame is good when the working counters are right and the frame
is not late: the inputs enter the image and go to the tiles and streams; else they go poisoned, event 0x4051 is raised
and the third bad frame in a row fails the segment, as a timeout does. The AL status and the clock datagram are looked
at. PORT_LINK_LOSS fails the segment, on P0 the lock too; PORT_LINK_RETURN puts it back to INIT. SUBDEVICE_OP_RETRY
asks again while a SubDevice is outside OP, ACYCLIC_FRAME leaves after the cyclic frame has returned, 100 µs before
the next frame start at the latest.
DC_REFERENCE_LOST notes that distributed-clock time is gone, and ends a lock with event 0x4030. SEGMENT_START takes a
segment with an ENI and a link to OP, with event 0x4053 where it was in fault. (R295, R472, R473, R476, R477, R478,
R482, R483, R484) -/
def Obligations.SegmentFrames : Prop :=
  ∀ (s : State),
    (∀ (seg : Fin 3) (r : CyclicReturn),
        (s.segment seg.val).awaiting = true →
        r.wkcOk = true →
        r.delayUs ≤ s.setting (returnLimitKey seg.val) →
        exec (.cyclicFrameReturn seg r) s = .next (((s.goodFrame seg.val r.inputs).alStatus seg.val r).clockDatagram seg.val r.dcOk)) ∧
    (∀ (seg : Fin 3) (r : CyclicReturn),
        (s.segment seg.val).awaiting = true →
        (r.wkcOk = false ∨ s.setting (returnLimitKey seg.val) < r.delayUs) →
        exec (.cyclicFrameReturn seg r) s = .next (((s.badFrame seg.val).alStatus seg.val r).clockDatagram seg.val r.dcOk)) ∧
    (∀ (seg : Fin 3),
        (s.segment seg.val).awaiting = true →
        exec (.frameReturnTimeout seg) s = .next ((s.badFrame seg.val).clockDatagram seg.val false)) ∧
    (∀ (seg : Fin 3),
        (s.segment seg.val).linkUp = true →
        seg ≠ 0 →
        exec (.portLinkLoss seg) s = .next ((s.modSegment seg.val fun g => { g with linkUp := false }).failSegment seg.val)) ∧
    ((s.segment 0).linkUp = true →
        exec (.portLinkLoss 0) s = .next ((s.modSegment 0 fun g => { g with linkUp := false }).failSegment 0).loseLock) ∧
    (∀ (seg : Fin 3) (g : Segment),
        s.segment seg.val = g →
        g.linkUp = false →
        exec (.portLinkReturn seg) s = .next (s.setSegment seg.val
          { g with linkUp := true, state := .init, awaiting := false, sync0 := false })) ∧
    (∀ (seg : Fin 3),
        (s.segment seg.val).opRetry = true →
        exec (.subdeviceOpRetry seg) s = .next (s.modSegment seg.val fun g => { g with acyclicWaits := true })) ∧
    (∀ (seg : Fin 3),
        (s.segment seg.val).awaiting = false →
        (s.now + 80000 : Nat) ≤ s.nextStart →
        exec (.acyclicFrame seg) s = .next (s.modSegment seg.val fun g => { g with acyclicWaits := false })) ∧
    (s.frame.locked = true →
        exec .dcReferenceLost s = .next
          (({ s with frame := { s.frame with locked := false, holdover := true, dcLost := true, lockRun := 0 } } : State).event
            0x4030 deviceHandle)) ∧
    (s.frame.locked = false →
        exec .dcReferenceLost s = .next { s with frame := { s.frame with dcLost := true, lockRun := 0 } }) ∧
    (∀ (seg : Fin 3) (g : Segment) (r : State),
        s.segment seg.val = g →
        s.power ≠ .off →
        s.ecat.stopped = false →
        g.eni.isSome = true →
        g.held = false →
        g.linkUp = true →
        s.loopHolds seg.val = false →
        (g.state ≠ .op ∨ g.fault = true) →
        r = s.setSegment seg.val { g with
          state := .op, fault := false, badRun := 0, dcBad := 0, sync0 := true, driftFrames := 15000
          shift := s.setting (0x291006 + 0x1000 * seg.val), reported := [], opRetry := false, awaiting := false } →
        exec (.segmentStart seg) s = .next (if g.fault then r.deviceEvent 0x4053 seg.val else r))

/-- On a channel that is served, a read of an object that may not be read ends with its abort code and without data,
and a read of any other object, but for five whose read acts, answers its value; a write that the address, the access
code or the length forbids ends with its abort code; a write of a plain setting outside the event group takes its
value within the range and else ends with an abort code. 0x2E00:02 is written and read so, and 0x2FFF:01 is no object.
FOE_WRITE of the right name by an authenticated user on P3 writes slot A in BOOT and else the inactive slot, and
answers 0, or 0x800B for an image whose trailer is not accepted; a read request answers 0x8004, a wrong name 0x8001, a
channel without the role 0x8002; while secure boot has stopped it writes slot A, which a good image makes active.
RXPDO_RECEIVE in OP writes the objects at 0x7000. EMERGENCY_SEND on a served P3 sends the oldest message.
P3_STATE_TRANSITION takes a legal request. REVISION_OFFER of 4 or more in PRE-OP records the offer. LOAD_ENI of a file that passes the
checks, for a segment not looped back, applies it in Idle at once and keeps it for Idle otherwise; for a file that
fails a check it raises event 0x4050. (R437, R438, R452, R469, R470, R487, R488, R489, R494, R495, R496, R517) -/
def Obligations.ServicePort : Prop :=
  ∀ (s : State),
    (∀ (c : Channel),
        Serves s c →
        exec (.sdoAccess c ⟨0x2E00, 2⟩ .upload) s = .next (s.answer c 0 (leBytes 2 (s.accepted 0x2E0002)))) ∧
    (∀ (c : Channel) (b : List Byte),
        Serves s c →
        b.length = 2 →
        exec (.sdoAccess c ⟨0x2E00, 2⟩ (.download b)) s = .next ((s.acceptSetting 0x2E0002 (leNat b)).answer c 0 [])) ∧
    (∀ (c : Channel),
        Serves s c →
        exec (.sdoAccess c ⟨0x2FFF, 1⟩ .upload) s = .next (s.answer c 0x06020000 [])) ∧
    (∀ (c : Channel) (a : ObjAddr),
        Serves s c →
        s.uploadAbort c a.index.toNat a.sub.toNat ≠ 0 →
        exec (.sdoAccess c a .upload) s = .next (s.answer c (s.uploadAbort c a.index.toNat a.sub.toNat) [])) ∧
    (∀ (c : Channel) (a : ObjAddr),
        Serves s c →
        s.uploadAbort c a.index.toNat a.sub.toNat = 0 →
        a.index.toNat * 256 + a.sub.toNat ∉ [0x240003, 0x270005, 0x270008, 0x2E0004, 0x2E0102] →
        exec (.sdoAccess c a .upload) s = .next (s.answer c 0 (s.readObject c a.index.toNat a.sub.toNat))) ∧
    (∀ (c : Channel) (a : ObjAddr) (b : List Byte),
        Takes s c →
        s.downloadAbort c a.index.toNat a.sub.toNat b.length ≠ 0 →
        exec (.sdoAccess c a (.download b)) s = .next (s.answer c (s.downloadAbort c a.index.toNat a.sub.toNat b.length) [])) ∧
    (∀ (c : Channel) (a : ObjAddr) (b : List Byte) (k v : Nat),
        Takes s c →
        k = a.index.toNat * 256 + a.sub.toNat →
        v = leNat b →
        s.downloadAbort c a.index.toNat a.sub.toNat b.length = 0 →
        windowIndex a.index.toNat = false →
        a.index.toNat / 256 ≠ 0x2E →
        s.writeSpecial c k b = none →
        (s.settingRange k).isSome = true →
        exec (.sdoAccess c a (.download b)) s = .next
          (if s.settingAbort k v = 0 then ((s.settingEffect k v).acceptSetting k v).answer c 0 []
          else s.answer c (s.settingAbort k v) [])) ∧
    (∀ (image : Firmware),
        s.ecat.p3 ≠ .init →
        s.loopHolds 3 = false →
        s.startHalted = false →
        s.isUser .p3 = true →
        exec (.foeWrite .p3 true false image) s = .next
          ((s.writeFirmware (decide (s.ecat.p3 ≠ .boot) && !s.svc.activeB) image).answer .p3 (if s.trailerOk 1 image.trailer then 0 else 0x800B) [])) ∧
    (∀ (image : Firmware) (nameOk : Bool),
        s.ecat.p3 ≠ .init →
        s.loopHolds 3 = false →
        exec (.foeWrite .p3 nameOk true image) s = .next (s.answer .p3 0x8004 [])) ∧
    (∀ (image : Firmware),
        s.ecat.p3 ≠ .init →
        s.loopHolds 3 = false →
        exec (.foeWrite .p3 false false image) s = .next (s.answer .p3 0x8001 [])) ∧
    (∀ (image : Firmware),
        s.ecat.p3 ≠ .init →
        s.loopHolds 3 = false →
        s.startHalted = false →
        s.isUser .p3 = false →
        exec (.foeWrite .p3 true false image) s = .next (s.answer .p3 0x8002 [])) ∧
    (∀ (variant : Byte) (useVariant : Bool) (heartbeat : W16),
        s.ecat.p3 = .op →
        s.loopHolds 3 = false →
        exec (.rxpdoReceive variant useVariant heartbeat) s = .next { s with
          ecat := { s.ecat with p3Link := true }
          prog := { s.prog with rxVariant := variant, useRx := useVariant, heartbeat := heartbeat } }) ∧
    (∀ (code q : Nat) (rest : List (Nat × Nat)),
        s.svc.emergency = (code, q) :: rest →
        s.serves .p3 = true →
        exec .emergencySend s = .next { s with
          svc := { s.svc with emergency := rest }
          ecat := { s.ecat with emergencySent := [0x00, 0xFF, 0x80] ++ leBytes 2 code ++ leBytes 3 (q % 0x1000000) } }) ∧
    (∀ (request : AlState),
        s.power ≠ .off →
        alLegal s.ecat.p3 request = true →
        s.loopHolds 3 = false →
        exec (.p3StateTransition request) s = .next { s with ecat := { s.ecat with
          p3 := request, p3Link := true
          chosenP3 := if s.ecat.p3 = .preOp ∧ request = .safeOp then
            BitVec.ofNat 8 (if s.ecat.offerMade then min 5 s.ecat.offered.toNat else 5) else s.ecat.chosenP3
          offerMade := s.ecat.offerMade && decide (request ≠ .init) } }) ∧
    (∀ (rev : Byte),
        Takes s .p3 →
        s.ecat.p3 = .preOp →
        4 ≤ rev.toNat →
        exec (.revisionOffer .p3 rev) s = .next
          ((({ s with ecat := { s.ecat with offered := rev, offerMade := true } } : State).acceptSetting 0x280001 rev.toNat).answer .p3 0 [])) ∧
    (∀ (c : Channel) (seg : Fin 3) (eni : Eni),
        Takes s c →
        s.eniReason eni = 0 →
        s.test.loopIface ≠ some seg.val →
        s.power = .idle →
        exec (.loadEni c seg eni) s = .next ((s.applyEni seg.val eni).writeBoot.answer c 0 [])) ∧
    (∀ (c : Channel) (seg : Fin 3) (eni : Eni),
        Takes s c →
        s.eniReason eni = 0 →
        s.test.loopIface ≠ some seg.val →
        s.power ≠ .idle →
        exec (.loadEni c seg eni) s = .next ((s.modSegment seg.val fun g => { g with nextEni := some eni }).writeBoot.answer c 0 [])) ∧
    (∀ (c : Channel) (seg : Fin 3) (eni : Eni),
        Takes s c →
        s.eniReason eni ≠ 0 →
        exec (.loadEni c seg eni) s = .next
          ((s.raise 0x4050 deviceHandle (openParam 0x4050 (s.eniReason eni) 0) (BitVec.ofNat 16 seg.val)).answer c 0 [])) ∧
    (∀ (c : Channel) (image : Firmware) (s1 : State),
        s.startHalted = true →
        s.loopHolds 3 = false →
        s1 = s.writeFirmware false image →
        exec (.foeWrite c true false image) s = .next
          ((if s.trailerOk 1 image.trailer then { s1 with svc := { s1.svc with activeB := false } } else s1).answer c
            (if s.trailerOk 1 image.trailer then 0 else 0x800B) []))

/-- P3_LINK_LOSS, which stands for a loss of the link and for an expiry of the watchdog of SM2, changes nothing in the
segments and the frames, raises event 0x4055, and leaves the objects at 0x7000 with their last values; new process
data in OP writes them. (R490) -/
def Obligations.ServicePortLoss : Prop :=
  ∀ s : State, ∃ t : State, exec .p3LinkLoss s = .next t ∧ t.ecat.segs = s.ecat.segs ∧ t.frame = s.frame ∧ t.prog = s.prog ∧
    t = ({ s with ecat := { s.ecat with p3Link := false }, svc := { s.svc with emergency := [] } } : State).event 0x4055 deviceHandle ∧
    ∀ variant useVariant heartbeat, t.ecat.p3 = .op → t.loopHolds 3 = false →
      exec (.rxpdoReceive variant useVariant heartbeat) t = .next { t with
        ecat := { t.ecat with p3Link := true }
        prog := { t.prog with rxVariant := variant, useRx := useVariant, heartbeat := heartbeat } }

/-- A read of 0x1018:03 on a served channel answers a revision number whose bits 7 to 0 are 0xB1. (R2) -/
def Obligations.SteppingReported : Prop :=
  ∀ (s : State) (c : Channel), Serves s c → ∃ n : W32, n.extractLsb' 0 8 = (0xB1 : Byte) ∧
    exec (.sdoAccess c ⟨0x1018, 3⟩ .upload) s = .next (s.answer c 0 (leBytes 4 n.toNat))

/-- Outside Off: ESTIMATOR_TICK estimates the interval of every channel, takes it into the phases under way, guards
the current, and while the device is then awake moves the floor of every powered die in service; MEASUREMENT_SAMPLE
takes the reports one by one, with a valid one among them the voltage of VIN and the current guard too, and sets the
target power; ENERGY_BIN closes the millisecond of every channel, adds the bin, raises event 0x1011 while awake when a
window exceeds its cap, and closes a minute after 60,000; MEASUREMENT_FAIL and MEASUREMENT_RESTORE mark a channel that
is not failed or is, with events 0x1015 and 0x1016; COEFFICIENT_SAVE saves the coefficients. While the device is
awake: CURRENT_LIMIT_RISE lifts a current limit below 16 by one while the estimated current is below 95% of the limit;
PHASE_LIMIT_COMPUTE sets the limit of the phase on a die in service, raises event 0x1010 when none fits, and applies
it to an active phase; SENSOR_SAMPLE stores the readings, how many are valid and their junction temperature, raises
event 0x1033 where one is not valid and 0x1031 above 105 °C, takes the band, and sets the thermal limits that follow.
THERMAL_TRIP of a die that is powered (in Doze the hub only) removes core power, latches the trip and records it.
(R389, R391, R392, R393, R394, R395, R396, R397, R401, R405, R413, R418) -/
def Obligations.PowerAndHeat : Prop :=
  ∀ (s : State),
    (∀ (acts : List Activity) (s1 : State),
        s.powered = true →
        (s1 = (allChannels.foldl (fun s ch => s.estimate acts ch) s).observeInterval.guardEstimate) →
        exec (.estimatorTick acts) s = .next
          (if s1.awake then forAll (s1.diesIn.filter fun d => (s1.die d).powered) State.moveFloor s1 else s1)) ∧
    (s.awake = true →
        s.pwr.nCur < 16 →
        s.estimatedCurrent < s.currentLimit * 95 / 100 →
        exec .currentLimitRise s = .next { s with pwr := { s.pwr with nCur := s.pwr.nCur + 1 } }) ∧
    (∀ (reports : List RegReport) (r : RegReport) (rest : List RegReport) (s1 s2 : State),
        s.powered = true →
        ((reports.filter fun r => r.valid) = r :: rest) →
        s1 = reports.foldl State.report { s with pwr := { s.pwr with vinMv := r.milliVolts } } →
        (s2 = s1.guardMeasured ((((r :: rest).map fun r => r.milliAmps).foldl (· + ·) 0 : Nat) / 1000)) →
        exec (.measurementSample reports) s = .next { s2 with pwr := { s2.pwr with target := s2.newTarget } }) ∧
    (∀ (reports : List RegReport) (s1 : State),
        s.powered = true →
        ((reports.filter fun r => r.valid) = []) →
        s1 = reports.foldl State.report s →
        exec (.measurementSample reports) s = .next { s1 with pwr := { s1.pwr with target := s1.newTarget } }) ∧
    (∀ (s1 s2 s3 : State),
        s.powered = true →
        s1 = allChannels.foldl State.closeChannel s →
        (s2 = s1.addBin (sumRat (allChannels.map fun ch => (s1.channel ch).lastBin))
          (sumRat (allChannels.map fun ch => (s.channel ch).estimatedPart))) →
        s3 = (if s2.awake && s2.overBudget then s2.event 0x1011 deviceHandle else s2) →
        exec .energyBin s = .next (if s3.svc.millis = 0 then s3.minute else s3)) ∧
    (∀ (channel : Fin 18),
        s.powered = true →
        (s.channel channel.val).failed = false →
        exec (.measurementFail channel) s = .next
          ((s.modChannel channel.val fun c => { c with failed := true }).event 0x1015 (channelHandle channel.val))) ∧
    (∀ (channel : Fin 18),
        s.powered = true →
        (s.channel channel.val).failed = true →
        exec (.measurementRestore channel) s = .next
          ((s.modChannel channel.val fun c => { c with failed := false, badBins := 0, goodBins := 0 }).event 0x1016 (channelHandle channel.val))) ∧
    (s.powered = true →
        exec .coefficientSave s = .next { s with svc := { s.svc with savedCoeff := s.pwr.chans } }) ∧
    (∀ (d : DieId) (phase : Byte) (n : Nat) (ok : Bool) (s1 : State),
        s.awake = true →
        s.dieIn d = true →
        s.phaseLimit d phase.toNat = (n, ok) →
        (s1 = (if ok then (s.modDie d fun x => { x with limits := mset 0 x.limits phase.toNat n })
          else (s.modDie d fun x => { x with limits := mset 0 x.limits phase.toNat n }).event 0x1010 (dieHandle d))) →
        exec (.phaseLimitCompute d phase) s = .next (if (s1.activePhases d).contains phase.toNat then s1.applyFt d else s1)) ∧
    (∀ (readings : List Int) (s3 s4 s5 : State),
        s.awake = true →
        (s3 = (let v := validReadings readings
          let s1 := s.modChannel 0 fun c => { c with sensors := readings, sensorsValid := v.length, tj := junction v }
          let s2 := if v.length < readings.length then s1.event 0x1033 (channelHandle 0) else s1
          if 420 < junction v then s2.event 0x1031 (channelHandle 0) else s2)) →
        s4 = { s3 with pwr := { s3.pwr with hubBand := nextBand s3.pwr.hubBand (junction (validReadings readings)) } } →
        (s5 = (if decide ((s.channel 0).sensorsValid < 2) && decide (2 ≤ (validReadings readings).length) then
            forAll s4.diesIn (fun r d => r.modDie d fun x => { x with thStood := r.now }) s4
          else s4)) →
        exec (.sensorSample 0 readings) s = .next (forAll s5.diesIn State.heatDie s5)) ∧
    (∀ (d : DieId) (ch : Fin 17) (readings : List Int) (s3 s4 : State),
        s.awake = true →
        ch.val = d.val + 1 →
        (s3 = (let v := validReadings readings
          let s1 := s.modChannel ch.val fun c => { c with sensors := readings, sensorsValid := v.length, tj := junction v }
          let s2 := if v.length < readings.length then s1.event 0x1033 (channelHandle ch.val) else s1
          if 420 < junction v then s2.event 0x1031 (channelHandle ch.val) else s2)) →
        (s4 = s3.modDie d (fun x => { x with
          tempBand := nextBand x.tempBand (junction (validReadings readings))
          thStood := if decide ((s.channel ch.val).sensorsValid < 2) && decide (2 ≤ (validReadings readings).length) then s3.now
            else x.thStood })) →
        exec (.sensorSample ch readings) s = .next (if s4.dieIn d then s4.heatDie d else s4)) ∧
    (∀ (ch : Fin 17),
        s.power ≠ .off →
        (s.power ≠ .doze ∨ ch = 0) →
        exec (.thermalTrip ch) s = .next { s.powerOff with pwr := { s.powerOff.pwr with
          thermTrip := true, tripDie := some ch.val
          trips := (((channelHandle ch.val).toNat, s.svc.minutes) :: s.powerOff.pwr.trips).take 32 } })

/-- Where some N from the floor to 16 keeps the power of the phase on its die within the share of the die, the limit is
the largest such N; else it is the floor. (R401) -/
def Obligations.PhaseLimit : Prop :=
  ∀ (s : State) (d : DieId) (p : Nat) (share idle mean : Rat) (fits : Nat → Prop),
    mean = s.phaseMean d p → idle = s.idlePower (d.val + 1) →
    share = (s.pwr.target - s.sharedPower 0 p - s.sharedPower 17 p) * mean /
      sumRat (s.diesIn.map fun e => if e = d then mean else s.dieMean e p) →
    (∀ n, fits n ↔ s.setting 0x210004 ≤ n ∧ n ≤ 16 ∧ idle + (mean - idle) * (n : Rat) / 16 ≤ share) →
    (∀ n, s.phaseLimit d p = (n, true) → fits n ∧ ∀ m, fits m → m ≤ n) ∧
    (∀ n, s.phaseLimit d p = (n, false) → n = s.setting 0x210004 ∧ ∀ m, ¬fits m)

/-- Where the roustabout maintains the engine: DRIFT_SCAN of a live, ready or pending bank begins a scan when the
engine has none, and ends the scan of the bank once its measurements are taken: of a live bank the newly stuck cells
are recorded and absorbed, the drift is marked above 0.5 level, the class is evaluated, and a refresh is queued when
the drift is above 0.25 level or the block is 180 days old; a newly stuck cell of a ready or pending bank is recorded
and cancels its flip set. DRIFT_REFRESH of a live bank whose rewrite is served next and whose block no flip set holds
begins the rewrite in the other bank of its array as a flip set, or raises event 0x8014 where that bank is worn.
PERIODIC_RECALIBRATION queues the engine parts and every live bank. CALIBRATION_COMPLETE, once the measurements of the
calibration are taken and every fit has a slope, stores the fitted part, an engine part with the next generation; the
bank of a finished write becomes ready with its part. While the device is awake: STRONGMAN_MISS_LIMIT, above 16 misses
within a second, raises event 0x2032 and queues a re-calibration, and after two that did not end the misses marks the
die out (that a rate persists when the misses began within a second of the last re-calibration is the choice of the
model, assumption log entry 99); BANK_WRITE_COMPLETE, after the length and the slots of a write, records the failed
cells, fills the bank, keeps its record, and queues its calibration. A taken write at 0x2400:06 queues a
re-calibration, a read of 0x2400:03 gives the entry of the stuck map, and a taken write at 0x2A00:05 begins a
strongman run. (R121, R123, R124, R128, R138, R141, R142, R143, R150, R152, R506, R574) -/
def Obligations.Maintenance : Prop :=
  ∀ (s : State),
    (∀ (b : Fin 8388608) (e : EngineId),
        e = bankEngine b.val →
        s.maintains e = true →
        (s.bank b.val).state.scanned = true →
        (s.engine e).scan = none →
        exec (.driftScan b) s = .next (s.setEngine e { s.engine e with scan := some (Scan.start b.val) })) ∧
    (∀ (b : Fin 8388608) (e : EngineId) (x : Scan) (k : Bank) (cells : List FailedCell) (drift : Rat) (s0 s1 s2 : State),
        e = bankEngine b.val →
        k = s.bank b.val →
        s.maintains e = true →
        k.state = .live →
        (s.engine e).scan = some x →
        x.bank = b.val →
        x.total ≤ x.taken →
        cells = s.newlyStuck b.val (x.confirmed k.contents) →
        drift = x.drift k.contents (fun i j => (s.stuckOf b.val).any fun c => decide (c.row.val = i) && decide (c.string.val = j)) →
        s0 = s.setEngine e { s.engine e with scan := none } →
        s1 = forAll cells (fun r c => (r.recordStuck b.val c 1).absorbLive b.val c) s0 →
        s2 = (if 1 / 2 < drift then s1.modBank b.val fun k => { k with driftB := true } else s1).evalClass (2 * (b.val / 2)) →
        exec (.driftScan b) s = .next
          (if 1 / 4 < drift ∨ refreshAge ≤ s.svc.minutes - k.writtenMinute then s2.queueRefresh b.val else s2)) ∧
    (∀ (b : Fin 8388608) (e : EngineId) (x : Scan) (c : FailedCell) (cs : List FailedCell) (j : Fin 4) (s0 : State),
        e = bankEngine b.val →
        s.maintains e = true →
        ((s.bank b.val).state = .ready ∨ (s.bank b.val).state = .pending) →
        (s.engine e).scan = some x →
        x.bank = b.val →
        x.total ≤ x.taken →
        s.newlyStuck b.val (x.confirmed (s.bank b.val).contents) = c :: cs →
        (s.bank b.val).fset = some j →
        s0 = s.setEngine e { s.engine e with scan := none } →
        exec (.driftScan b) s = .next
          ((forAll (c :: cs) (fun r c => r.recordStuck b.val c 1) s0).cancelSet j.val).startLanes) ∧
    (∀ (b : Fin 8388608) (e : EngineId) (k : Bank) (t : Task),
        e = bankEngine b.val →
        k = s.bank b.val →
        s.maintains e = true →
        s.sec.state ≠ .error →
        k.state = .live →
        s.setBlocks.contains (engineHandle e, k.block) = false →
        (s.engine e).nextRewrite b.val = some t →
        (s.bank (otherBank b.val)).worn = true →
        exec (.driftRefresh b) s = .next
          (((s.modBank b.val fun k => { k with blocked := true }).modEngine e fun g => g.dropRewrites b.val).event 0x8014
            (arrayHandle e (b.val % 2048 / 2)))) ∧
    (∀ (b : Fin 8388608) (e : EngineId) (k : Bank) (t : Task) (o j : Nat) (r : BlockRecord),
        e = bankEngine b.val →
        k = s.bank b.val →
        o = otherBank b.val →
        s.maintains e = true →
        s.sec.state ≠ .error →
        k.state = .live →
        s.setBlocks.contains (engineHandle e, k.block) = false →
        (s.engine e).nextRewrite b.val = some t →
        (s.bank o).worn = false →
        s.freeSet = some j →
        s.sourceOf b.val = some r →
        s.bankQualifies false o = true →
        exec (.driftRefresh b) s = .next
          ((((s.modEngine e fun g => { g with begun := g.begun ++ [t] }).setFlip j
            { FlipSet.none with used := true, refresh := true, bindings := [(e, k.block, o, true)] }).queueWrites j [(o, r)]).finishSet j)) ∧
    (∀ (e : EngineId),
        s.maintains e = true →
        exec (.periodicRecalibration e) s = .next (s.modEngine e fun g =>
          (s.liveBanks e).foldl (fun g b => g.addTask (.recalBank b)) (g.addTask .recalEngine))) ∧
    (∀ (e : EngineId) (c : Calib) (part : EnginePart) (g : Engine) (old : EnginePart),
        s.maintains e = true →
        (s.engine e).cal = some c →
        c.total ≤ c.taken →
        c.bank = none →
        (c.fits.any fun f => f.slope?.isNone) = false →
        old = mget EnginePart.nominal (s.engine e).nextParts c.band →
        part = ⟨true, s.recordTemp (engineDie e), s.svc.minutes,
          (if old.valid then old.generation else (mget EnginePart.nominal (s.engine e).parts c.band).generation) + 1,
          ((List.range 256).zip c.fits).map fun q => s.fitGain q.1 q.2, ((List.range 256).zip c.fits).map fun q => s.fitOffset q.1 q.2⟩ →
        g = { s.engine e with nextParts := mset EnginePart.nominal (s.engine e).nextParts c.band part } →
        exec (.calibrationComplete e) s = .next (s.setEngine e
          (if c.band < 3 then { g with cal := some { c with band := c.band + 1, taken := 0, fits := List.replicate 256 FitSum.zero } }
           else if g.missRecal then { g with
             cal := none, tasks := g.tasks.erase c.task, missRecal := false, recalRuns := g.recalRuns + 1, recalAt := s.slotClock e
             misses := [] }
           else { g with cal := none, tasks := g.tasks.erase c.task }))) ∧
    (∀ (e : EngineId) (c : Calib) (b : Nat) (part : ArrayPart) (s1 : State),
        s.maintains e = true →
        (s.engine e).cal = some c →
        c.total ≤ c.taken →
        c.bank = some b →
        (c.fits.any fun f => f.slope?.isNone) = false →
        part = ⟨s.fitZ (c.fits.getD 0 FitSum.zero), c.band, true, s.recordTemp (bankDie b), s.svc.minutes⟩ →
        s1 = s.setEngine e { s.engine e with cal := none, tasks := (s.engine e).tasks.erase c.task } →
        (c.task ≠ .fresh b → exec (.calibrationComplete e) s = .next (s1.modBank b fun k => { k with nextPart := some part })) ∧
        (c.task = .fresh b → (s.bank b).state = .writing → ∀ j, (s.bank b).fset = some j →
          exec (.calibrationComplete e) s = .next
            ((s1.modBank b fun k => { k with state := .ready, part := part }).finishSet j.val))) ∧
    (∀ (e : EngineId) (g : Engine) (s1 : State),
        s.awake = true →
        s.dieIn (engineDie e) = true →
        g = s.engine e →
        16 < (g.misses.filter fun t => decide (s.slotClock e < t + 800000000)).length →
        s1 = (s.event 0x2032 (engineHandle e)).setEngine e { g with misses := [] } →
        (g.recalRuns < 2 ∨ g.persists = false → exec (.strongmanMissLimit e) s = .next (s1.modEngine e fun x =>
          { x with recalRuns := if g.persists then g.recalRuns else 0, missRecal := true }.addTask .recalEngine)) ∧
        (2 ≤ g.recalRuns → g.persists = true → exec (.strongmanMissLimit e) s = .next (s1.markOut (engineDie e) 2))) ∧
    (∀ (bank : Fin 8388608) (failed : List FailedCell) (w : Nat × BlockRecord) (j : Fin 4) (s1 s2 : State),
        s.awake = true →
        s.weights.waitingWrites.find? (fun w => decide (w.1 = bank.val)) = some w →
        (s.bank bank.val).fset = some j →
        (s.bank bank.val).lane = true →
        183000 ≤ (s.bank bank.val).laneSlots →
        (s.bank bank.val).laneFrom + 976000 ≤ (s.die (bankDie bank.val)).clock →
        s1 = forAll failed (fun r c => r.recordStuck bank.val c 2) s →
        s2 = ((s1.fillBank bank.val w.2 failed).writtenBank bank.val w.2 (s1.imageOf j.val bank.val w.2)).keepRecord bank.val w.2 →
        exec (.bankWriteComplete bank failed) s = .next
          ((({ s2 with weights := { s2.weights with
            waitingWrites := s2.weights.waitingWrites.erase w
            blocksWritten := if decide (s2.weights.loadSet = some j) then s2.weights.blocksWritten + 1 else s2.weights.blocksWritten } } :
              State).modEngine (bankEngine bank.val) fun g => g.addTask (.fresh bank.val)).startLanes)) ∧
    (∀ (c : Channel) (h : Handle) (e : EngineId),
        Takes s c →
        Handle.physValid h = true →
        Handle.kind h = 4 →
        s.handleIn h = true →
        Handle.inEngine? h = some e →
        exec (.queueRecalibration c h) s = .next ((s.modEngine e fun g => g.addTask .recalEngine).answer c 0 [])) ∧
    (∀ (c : Channel) (h : Handle) (e : EngineId) (live : List Nat),
        Takes s c →
        Handle.physValid h = true →
        Handle.kind h = 5 →
        s.handleIn h = true →
        Handle.inEngine? h = some e →
        (live = [e.val * 2048 + 2 * Handle.arrayField h, e.val * 2048 + 2 * Handle.arrayField h + 1].filter (fun b => decide ((s.bank b).state = .live))) →
        exec (.queueRecalibration c h) s = .next
          ((s.modEngine e fun g => live.foldl (fun g b => g.addTask (.recalBank b)) g).answer c 0 [])) ∧
    (∀ (c : Channel) (x : StuckEntry),
        Serves s c →
        (s.die (Fin.ofNat 16 (s.accepted 0x240001 - 1))).stuck[s.accepted 0x240002]? = some x →
        exec (.stuckMapRead c) s = .next
          ((s.acceptSetting 0x240002 ((s.accepted 0x240002 + 1) % 0x100000000)).answer c 0 x.bytes)) ∧
    (∀ (c : Channel) (h : Handle) (e : EngineId),
        Takes s c →
        Handle.physValid h = true →
        Handle.kind h = 4 →
        Handle.engine? h = some e →
        s.awake = true →
        s.handleIn h = true →
        exec (.strongmanRun c h) s = .next ((s.setEngine e { s.engine e with run := some ⟨0, 0, 0⟩ }).answer c 0 []))

/-- Outside Off, while the ringmaster runs: DIE_MARK_OUT with a cause 1 to 6 of a die that is not out lowers the
turnstiles of its frame, marks it out with cause and time, raises event 0x8015, cancels its flip sets, discards the
programmes that reach it, in Run asks for the continuity copy, and selects a plan. RINGMASTER_RESTART, once booted,
ends the authentications and marks a firmware trial for reversion; the third within 10 minutes fails the hub too.
BOOT_SET_PERIODIC_WRITE writes the boot set when a setting changed. RINGMASTER_RESTART_COMPLETE ends a restart with
event 0x8027, carries out the waiting mark-outs and lets waiting writes take the free lanes. HUB_FAILURE with a cause
1 to 3 outside Off asserts SAFE_N, drives the safe state and stops the cyclic frames. FIRMWARE_TRIAL_TIMEOUT of a
trial asks for the reversion. SCRUB of a word of the memory, while the device is awake, poisons one that cannot be
corrected, with event 0x3015, and changes nothing else. (R422, R425, R432, R541, R550, R556) -/
def Obligations.ServiceActions : Prop :=
  ∀ (s : State),
    (∀ (d : DieId) (cause : Nat),
        s.power ≠ .off →
        1 ≤ cause →
        cause ≤ 6 →
        (s.die d).out = false →
        s.svc.restarting = false →
        exec (.dieMarkOut d cause) s = .next
          (let s0 := s.loseInFrame d
           let s1 := s0.modDie d fun x => { x with
             out := true, leaving := true, outMark := true, outCause := cause, outMinute := s0.svc.minutes, outAt := s0.now
             remapped := false, remapMinute := 0, remapMs := 0 }
           let s3 := ((s1.raise 0x8015 (dieHandle d) (eventParam cause 0) 0xFFFF).cancelTouching d).discardReaching d
           ({ s3 with prog := { s3.prog with contDue := s3.prog.contDue || decide (s3.power = PState.run) } } : State).selectAfterLoss d)) ∧
    (∀ (r : State),
        s.power ≠ .off →
        s.booted = true →
        s.svc.restarting = false →
        s.recentRestarts.length < 2 →
        r = s.endAuthentications →
        exec .ringmasterRestart s = .next { r with svc := { r.svc with
          restarting := true, restarts := s.recentRestarts ++ [s.now], revertReq := if r.svc.trial then some 1 else r.svc.revertReq } }) ∧
    (∀ (r : State),
        s.power ≠ .off →
        s.booted = true →
        s.svc.restarting = false →
        2 ≤ s.recentRestarts.length →
        r = s.endAuthentications →
        exec .ringmasterRestart s = .next ({ r with svc := { r.svc with
          restarting := true, restarts := s.recentRestarts ++ [s.now],
          revertReq := if r.svc.trial then some 1 else r.svc.revertReq } } : State).failHub) ∧
    (s.svc.restarting = true →
        exec .ringmasterRestartComplete s = .next
          (forAll s.svc.waitMarkOut (fun s p => s.markOut p.1 p.2)
            (({ s with svc := { s.svc with restarting := false, waitMarkOut := [] } } : State).event 0x8027 deviceHandle)).startLanes) ∧
    (∀ (cause : Nat) (r : State),
        s.power ≠ .off →
        1 ≤ cause →
        cause ≤ 3 →
        r = s.driveSafe →
        exec (.hubFailure cause) s = .next { r with
          sec := { r.sec with safeN := true }
          ecat := { r.ecat with stopped := true }
          svc := { r.svc with supervisorFailed := true } }) ∧
    (s.svc.trial = true →
        s.svc.revertReq = none →
        exec .firmwareTrialTimeout s = .next { s with svc := { s.svc with revertReq := some 0 } }) ∧
    (s.power ≠ .off →
        s.svc.restarting = false →
        s.svc.settingsChanged = true →
        exec .bootSetPeriodicWrite s = .next s.writeBoot) ∧
    (∀ (word : Nat),
        s.awake = true →
        word < 0x200000000 →
        exec (.scrub word true) s = .next (({ s with lpddr := s.lpddr.setPoison (8 * word) true } : State).raise 0x3015 deviceHandle
          (eventParam 0 (word / 32 % 16)) 0xFFFF) ∧ exec (.scrub word false) s = .next s)

/-- Taken writes. Of an authenticated User: FIRMWARE_IMAGE_WRITE writes the inactive slot; while no switch or
reversion waits, FIRMWARE_SWITCH asks for a switch to a valid slot; while no reversion waits, FIRMWARE_REVERT asks for
the reversion of a trial and FIRMWARE_CONFIRM with 1 confirms it; MARK_OUT_DIE marks out a die in service of a die
field 1 to 16, CLEAR_OUT_MARK in Idle clears the mark of one. Of any party: while no earlier transition runs,
REQUEST_RUN where its conditions hold, REQUEST_IDLE, and REQUEST_DOZE where nothing forbids it, store the request and
head for the state, from Idle into Doze at once; FRAME_PERIOD_WRITE in Idle sets the next period in its range where
every programme and the Doze periods fit; GROUP_DESCRIPTOR_WRITE deletes a descriptor that nothing holds or names, or
puts one that fits in place of one that nothing holds; LOOPBACK_START starts the test of the selected interface where
it is allowed, LOOPBACK_STOP ends it. LOOPBACK_LOCK_TIMEOUT ends a test that still trains. (R27, R29, R296, R423,
R424, R425, R432, R433, R559, R560, R563, R570) -/
def Obligations.FirmwareAndDies : Prop :=
  ∀ (s : State),
    (∀ (c : Channel) (image : Firmware),
        Takes s c →
        s.isUser c = true →
        exec (.firmwareImageWrite c image) s = .next ((s.writeFirmware (!s.svc.activeB) image).answer c 0 [])) ∧
    (∀ (c : Channel),
        Takes s c →
        s.isUser c = true →
        s.inactiveSlot.valid = true →
        s.svc.switchReq = false →
        s.svc.revertReq = none →
        exec (.firmwareSwitch c) s = .next (({ s with svc := { s.svc with switchReq := true } } : State).answer c 0 [])) ∧
    (∀ (c : Channel),
        Takes s c →
        s.isUser c = true →
        s.svc.trial = true →
        s.svc.revertReq = none →
        exec (.firmwareRevert c) s = .next (({ s with svc := { s.svc with revertReq := some 3 } } : State).answer c 0 [])) ∧
    (∀ (c : Channel),
        Takes s c →
        s.isUser c = true →
        s.svc.trial = true →
        s.svc.revertReq = none →
        exec (.firmwareConfirm c 1) s = .next (({ s with svc := { s.svc with confirm := 1, trial := false } } : State).writeBoot.answer c 0 [])) ∧
    (∀ (c : Channel) (d : Byte),
        Takes s c →
        s.isUser c = true →
        1 ≤ d.toNat →
        d.toNat ≤ 16 →
        s.dieIn (dieOfField d) = true →
        exec (.markOutDie c d) s = .next ((s.markOut (dieOfField d) 5).answer c 0 [])) ∧
    (∀ (c : Channel) (d : Byte),
        Takes s c →
        s.isUser c = true →
        s.power = .idle →
        1 ≤ d.toNat →
        d.toNat ≤ 16 →
        exec (.clearOutMark c d) s = .next (((s.modDie (dieOfField d) fun x => { x with outMark := false }).acceptSetting 0x220003 d.toNat).answer c 0 [])) ∧
    (∀ (c : Channel),
        Takes s c →
        s.toward = none →
        (s.power = .run ∨ s.runConditions = true) →
        exec (.requestRun c) s = .next (((s.acceptRequest .run).head .run).answer c 0 [])) ∧
    (∀ (c : Channel),
        Takes s c →
        s.toward = none →
        exec (.requestIdle c) s = .next (((s.acceptRequest .idle).head .idle).answer c 0 [])) ∧
    (∀ (c : Channel),
        Takes s c →
        s.toward = none →
        (s.power = .doze ∨ s.dozeBusy = false) →
        (s.acceptRequest .doze).power = .idle →
        exec (.requestDoze c) s = .next ((s.acceptRequest .doze).enterDoze.answer c 0 [])) ∧
    (∀ (c : Channel),
        Takes s c →
        s.toward = none →
        (s.power = .doze ∨ s.dozeBusy = false) →
        (s.acceptRequest .doze).power ≠ .idle →
        exec (.requestDoze c) s = .next (((s.acceptRequest .doze).head .doze).answer c 0 [])) ∧
    (∀ (c : Channel) (t : W32),
        Takes s c →
        s.power = .idle →
        250 ≤ t.toNat →
        t.toNat ≤ 10000 →
        s.accepted 0x200004 < t.toNat →
        ((s.keptProgrammes.any fun k => decide (frameCc t.toNat < longestOf k)) = false) →
        s.dozeMisfit t.toNat = false →
        exec (.framePeriodWrite c t) s = .next ((({ s with frame := { s.frame with nextPeriod := some (t.toNat, s.frame.number) } } : State).acceptSetting 0x200003 t.toNat).answer c 0 [])) ∧
    (∀ (c : Channel),
        Takes s c →
        s.groupLocked (s.accepted 0x220101) = false →
        s.groupNamed (s.accepted 0x220101) = false →
        exec (.groupDescriptorWrite c none) s = .next (({ s with prog := { s.prog with groups := mdel s.prog.groups (s.accepted 0x220101) } } : State).answer c 0 [])) ∧
    (∀ (c : Channel) (g : GroupDesc),
        Takes s c →
        s.groupLocked (s.accepted 0x220101) = false →
        g.number = s.accepted 0x220101 →
        s.groupFits g = true →
        exec (.groupDescriptorWrite c (some g)) s = .next (({ s with prog := { s.prog with groups := s.withGroup g } } : State).answer c 0 [])) ∧
    (∀ (c : Channel) (i depth : Nat),
        Takes s c →
        s.accepted 0x2A0001 = i →
        s.accepted 0x2A0002 = depth →
        s.test.looping = false →
        depth ≠ 0 →
        s.loopAllowed i depth = true →
        loopChannelOk c i depth = true →
        exec (.loopbackStart c) s = .next ((({ s with test := { s.test with
          loopIface := some i, loopDepth := depth, loopState := if depth = 4 then 2 else 1, loopErrors := 0 } } : State).takeIface i depth).answer c 0 [])) ∧
    (∀ (c : Channel),
        Takes s c →
        s.test.looping = true →
        exec (.loopbackStop c) s = .next ((s.endLoop 5).answer c 0 [])) ∧
    (s.test.loopState = 1 →
        exec .loopbackLockTimeout s = .next (s.endLoop 3))

/-- A write of a window selector over the path of the window with an invalid handle ends with abort code 0x06090030 and
the selector keeps its value; a valid handle becomes its value. After reset every selector holds 0x01000000. (R43) -/
def Obligations.WindowSelectors : Prop :=
  (∀ (s : State) (c : Channel) (w : Fin 16) (h : Handle), Takes s c → windowPath w c = true →
    (Handle.valid s.prog.groups h = false →
      exec (.windowSelectorWrite c w h) s = .next (s.answer c 0x06090030 []) ∧ (s.answer c 0x06090030 []).selected w = s.selected w) ∧
    (Handle.valid s.prog.groups h = true → exec (.windowSelectorWrite c w h) s =
      .next (({ s with dict := { s.dict with windows := s.dict.windows.set w.val h } } : State).answer c 0 []))) ∧
  ∀ w, State.reset.selected w = 0x01000000

/-- Taken writes. Of an authenticated User, while the device is awake: with no image load running, LOAD_IMAGE and
LOAD_IMAGE_HOLD load the staged image, and LOAD_PLAN_SET with an accepted trailer stores a plan set that the checks
pass and reserves its targets, else raises event 0x8018; LOAD_CONTAINER stages a container that every load check
passes, else its event carries the first cause that fails. Of an authenticated User: ARM_HELD_SET arms the held set,
tied to its container; CANCEL_FLIP_SET cancels an armed set; while no switch is requested, SWITCH_STAGED and
SWITCH_RETAINED request the switch to a programme of the live model. Of any party: SELECT_PLAN in manual mode, while
the device is awake and no remap runs, starts the remap of a lost die that has a matching plan. (R159, R161, R166,
R171, R172, R173, R176, R245, R426, R427, R428, R429) -/
def Obligations.ImagesAndProgrammes : Prop :=
  ∀ (s : State),
    (∀ (c : Channel) (image : Image) (trailer : Trailer),
        Takes s c →
        s.isUser c = true →
        s.awake = true →
        s.weights.status ≠ 1 →
        s.weights.status ≠ 2 →
        exec (.loadImage c image trailer) s = .next ((s.loadImage image trailer false).answer c 0 [])) ∧
    (∀ (c : Channel) (image : Image) (trailer : Trailer),
        Takes s c →
        s.isUser c = true →
        s.awake = true →
        s.weights.status ≠ 1 →
        s.weights.status ≠ 2 →
        exec (.loadImageHold c image trailer) s = .next ((s.loadImage image trailer true).answer c 0 [])) ∧
    (∀ (c : Channel) (container : Option (BitVec 384)) (j : Nat) (r : State),
        Takes s c →
        s.isUser c = true →
        s.heldSet = some j →
        r = (s.setFlip j { s.flipSet j with container := container }).armSet j →
        exec (.armHeldSet c container) s = .next ((if r.weights.loadSet = some (Fin.ofNat 4 j) then { r with weights := { r.weights with status := 4 } } else r).answer c 0 [])) ∧
    (∀ (c : Channel) (plans : List Plan) (trailer : Trailer) (r : State),
        Takes s c →
        s.isUser c = true →
        s.awake = true →
        s.weights.status ≠ 1 →
        s.weights.status ≠ 2 →
        s.trailerOk 4 trailer = true →
        s.planSetOk plans = true →
        r = s.reserveTargets plans →
        exec (.loadPlanSet c plans trailer) s = .next (({ r with
          weights := { r.weights with plans := plans, plansStale := false }
          prog := { r.prog with remapped := r.prog.remapped.filter fun k => plans.any fun p => decide (p.programme = k.digest) } } : State).answer c 0 [])) ∧
    (∀ (c : Channel) (plans : List Plan) (trailer : Trailer),
        Takes s c →
        s.isUser c = true →
        s.awake = true →
        s.weights.status ≠ 1 →
        s.weights.status ≠ 2 →
        s.trailerOk 4 trailer = true →
        s.planSetOk plans = false →
        exec (.loadPlanSet c plans trailer) s = .next ((s.event 0x8018 deviceHandle).answer c 0 [])) ∧
    (∀ (c : Channel) (set : Fin 4),
        Takes s c →
        s.isUser c = true →
        (s.flipSet set.val).armed = true →
        exec (.cancelFlipSet c set) s = .next ((s.cancelSet set.val).answer c 0 [])) ∧
    (∀ (c : Channel) (d : Byte) (p : Plan),
        Takes s c →
        1 ≤ d.toNat →
        d.toNat ≤ 16 →
        s.accepted 0x230007 = 1 →
        s.dieIn (dieOfField d) = false →
        s.weights.remapRunning = false →
        s.awake = true →
        s.planFor (dieOfField d) = some p →
        exec (.selectPlan c d) s = .next ((s.startRemap (dieOfField d) p).answer c 0 [])) ∧
    (∀ (c : Channel) (k : Container) (trailer : Trailer),
        Takes s c →
        s.isUser c = true →
        s.awake = true →
        s.containerFlaw k trailer = none →
        exec (.loadContainer c k trailer) s = .next ((s.stage k).answer c 0 [])) ∧
    (∀ (c : Channel) (k : Container) (trailer : Trailer) (ev : W16) (cause index : Nat) (s1 : State),
        Takes s c →
        s.isUser c = true →
        s.awake = true →
        s.containerFlaw k trailer = some (ev, cause, index) →
        s1 = (if cause = 2 then s.event 0x6015 deviceHandle else s) →
        exec (.loadContainer c k trailer) s = .next (((({ s1 with prog := { s1.prog with status := 4 } } : State).raise ev deviceHandle (openParam ev cause index) 0xFFFF).history
          2 1 k.digest).answer c 0 [])) ∧
    (∀ (c : Channel) (k : Container),
        Takes s c →
        s.isUser c = true →
        s.prog.staged = some k →
        k.modelDigest = s.weights.liveDigest →
        s.prog.switchReq = none →
        exec (.switchStaged c) s = .next ((s.requestSwitch c true).answer c 0 [])) ∧
    (∀ (c : Channel) (k : Container),
        Takes s c →
        s.isUser c = true →
        s.prog.retained = some k →
        k.modelDigest = s.weights.liveDigest →
        s.prog.switchReq = none →
        exec (.switchRetained c) s = .next ((s.requestSwitch c false).answer c 0 []))

/-- Taken writes: LIST_TABLE_WRITE stores a good entry of 16 bytes for the next frame boundary; LIST_WRITE writes 1 to
16,384 bytes of good commands or descriptors at the offset of 0x2504:01, a multiple of 16 within the list area; any
other contents of either raise event 0x7013 and end with abort code 0x06090030. DEEP_GROUP_WRITE of a party at
revision 5 stores a good entry for the next flip point. While the device is awake, START_CONSOLIDATION of a range of a
bank of the widest entries, whose deep groups are present, consolidates it while no consolidation runs, and
REQUEST_RESPREAD of a bank 0 to 15 that is not being re-spread starts to. COUNTER_CLEAR clears an event counter, or a
counter of the units that its window reaches; STAT_REGISTER_WRITE leaves its two words for the tiles that its window
reaches. EVENT_ENTRY_READ answers the selected entry and advances the selector by 1, or ends with abort code
0x08000024 where it names none; EVENT_ACKNOWLEDGE acknowledges the readable entries up to its number. (R102, R347,
R348, R376, R383, R387, R435, R437, R494, R497, R513) -/
def Obligations.StoresAndLogs : Prop :=
  ∀ (s : State),
    (∀ (c : Channel) (n : Fin 16) (entry : List Byte) (r : State),
        Takes s c →
        entry.length = 16 →
        listEntryOk entry = true →
        r = s.acceptOctets (0x250301 + n.val) entry →
        exec (.listTableWrite c n entry) s = .next (({ r with
          hd := { s.hd with nextLists := some (mset HdList.zero (s.hd.nextLists.getD s.hd.lists) n.val (HdList.parse entry)) } } : State).answer c 0 [])) ∧
    (∀ (c : Channel) (n : Fin 16) (entry : List Byte),
        Takes s c →
        entry.length = 16 →
        listEntryOk entry = false →
        exec (.listTableWrite c n entry) s = .next ((s.deviceEvent 0x7013 n.val).answer c 0x06090030 [])) ∧
    (∀ (c : Channel) (data : List Byte) (r : State),
        Takes s c →
        1 ≤ data.length →
        data.length ≤ 16384 →
        s.accepted 0x250401 % 16 = 0 →
        0x600000 ≤ s.accepted 0x250401 →
        s.accepted 0x250401 + data.length ≤ 0x680000 →
        (s.commandsOk data = true ∨ s.descriptorsOk 1024 data = true) →
        r = s.acceptOctets 0x250402 data →
        exec (.listWrite c data) s = .next ((r.hubWrite (s.accepted 0x250401) data false).answer c 0 [])) ∧
    (∀ (c : Channel) (data : List Byte),
        Takes s c →
        1 ≤ data.length →
        data.length ≤ 16384 →
        (s.accepted 0x250401 % 16 ≠ 0 ∨ s.accepted 0x250401 < 0x600000 ∨ 0x680000 < s.accepted 0x250401 + data.length ∨
          (s.commandsOk data = false ∧ s.descriptorsOk 1024 data = false)) →
        exec (.listWrite c data) s = .next ((s.deviceEvent 0x7013 0xFF).answer c 0x06090030 [])) ∧
    (∀ (c : Channel) (entry : List Byte),
        Takes s c →
        5 ≤ s.revision c →
        entry.length = 8 →
        deepGroupOk entry = true →
        exec (.deepGroupWrite c entry) s = .next (({ s with
          rcl := { s.rcl with
            deepNext := s.rcl.deepNext ++ [(s.accepted 0x250701, ⟨BitVec.ofNat 32 (fieldAt entry 0 4), fieldAt entry 4 2⟩)] }
          svc := { s.svc with settingsChanged := true } } : State).answer c 0 [])) ∧
    (∀ (c : Channel) (bank : Byte) (first count group : W16),
        Takes s c →
        s.awake = true →
        s.rcl.consolidation ≠ 1 →
        bank.toNat < 16 →
        group.toNat < 4096 →
        count ≠ 0 →
        first.toNat + count.toNat ≤ (s.rbank bank.toNat).size →
        (s.rbank bank.toNat).width = 2 →
        (s.groupsPresent group.toNat (((s.rbank bank.toNat).entries.filter fun q => q.2.isValid && decide (first.toNat ≤ q.1) && decide (q.1 < first.toNat + count.toNat)).length) = true) →
        exec (.startConsolidation c bank first count group) s = .next ((s.consolidate bank.toNat first.toNat count.toNat group.toNat).answer c 0 [])) ∧
    (∀ (c : Channel) (bank : Byte),
        Takes s c →
        bank.toNat < 16 →
        s.awake = true →
        (s.rbank bank.toNat).respread = none →
        exec (.requestRespread c bank) s = .next ((s.startRespread bank.toNat).answer c 0 [])) ∧
    (∀ (c : Channel) (e : LogEntry),
        Serves s c →
        s.logEntry (s.accepted 0x2E0003) = some e →
        exec (.eventEntryRead c) s = .next
          ((s.acceptSetting 0x2E0003 ((s.accepted 0x2E0003 + 1) % 0x100000000)).answer c 0 e.bytes)) ∧
    (∀ (c : Channel),
        Serves s c →
        s.logEntry (s.accepted 0x2E0003) = none →
        exec (.eventEntryRead c) s = .next (s.answer c 0x08000024 [])) ∧
    (∀ (c : Channel) (q : W32) (n : Nat),
        Serves s c →
        s.svc.readable = some n →
        exec (.eventAcknowledge c q) s = .next
          (({ s with svc := { s.svc with acked := some (max (min q.toNat n) (s.svc.acked.getD 0)) } } : State).answer c 0 [])) ∧
    (∀ (c : Channel) (a : ObjAddr),
        Takes s c →
        counterIndex a.index.toNat = true →
        a.sub ≠ 0 →
        exec (.counterClear c a 0) s = .next (({ s with svc := { s.svc with counters := mset 0 s.svc.counters a.key 0 } } : State).answer c 0 [])) ∧
    (∀ (c : Channel) (window : Fin 16) (off sub : Nat) (a : ObjAddr) (h : Handle),
        Takes s c →
        a.index.toNat = 0x4000 + 256 * window.val + off →
        off < 256 →
        a.sub.toNat = sub →
        s.selected window = h →
        windowPath window c = true →
        subtreeAbort h off sub = 0 →
        (subtreeSpec off sub).access = .rwc →
        s.unitOut h = false →
        exec (.counterClear c a 0) s = .next ((forAll (s.reached h) (fun s u => s.clearUnit u off sub) s).answer c 0 [])) ∧
    (∀ (c : Channel) (window : Fin 16) (sub : Byte) (ctl clip : W32) (h : Handle),
        Takes s c →
        s.selected window = h →
        windowPath window c = true →
        subtreeAbort h 0x20 sub.toNat = 0 →
        s.unitOut h = false →
        exec (.statRegisterWrite c window sub ctl clip) s = .next ((forAll ((s.reached h).filterMap Handle.tile?) (fun s t =>
          s.modTile t fun x => { x with statPend := x.statPend ++ [(Fin.ofNat 16 (sub.toNat - 1), ctl, clip)] }) s).answer c 0 []))

/-- While the security module works: AUTH_CHALLENGE on a channel not locked answers a fresh nonce and holds it;
AUTHENTICATE for it with good signatures and the anchor of the role gives the channel the role, with bad signatures
counts the failure, raises event 0x6014 and ends with abort code 0x08000022, and the tenth in a row locks the channel.
For a User then: SESSION_OPEN answers a fresh key pair and nonce, SESSION_CIPHERTEXT of 1,088 bytes makes the key of
the open session, IMAGE_KEY_IMPORT, in a module that is not locked, with a session key and a good tag, stores a new
key in one of 8 slots with event 0x601A, IMAGE_KEY_DELETE removes it. LOGOUT ends a role, AUTH_TIMEOUT too,
AUTH_LOCKOUT_END a lock. ATTESTATION makes a report in every state of the module. (R445, R446, R447, R453, R454, R459,
R499, R509) -/
def Obligations.Authentication : Prop :=
  ∀ (s : State),
    (∀ (c : Channel),
        Serves s c →
        s.sec.working = true →
        (s.auth c).locked = false →
        exec (.authChallenge c) s = .next
          ((({ s with sec := { s.sec with drbg := s.sec.drbg + 1 } } : State).setAuth c
            { s.auth c with nonce := some (Config.drbg s.sec.drbg) }).answer c 0 (leBytes 32 (Config.drbg s.sec.drbg).toNat))) ∧
    (∀ (c : Channel) (role : Role),
        Takes s c →
        s.sec.working = true →
        (s.auth c).nonce.isSome = true →
        (s.auth c).locked = false →
        (s.anchorOf role).isSome = true →
        exec (.authenticate c role true) s = .next ((s.setAuth c { s.auth c with role := some role, nonce := none, failures := 0 }).answer c 0 [])) ∧
    (∀ (c : Channel) (role : Role) (a : Auth),
        Takes s c →
        s.sec.working = true →
        (s.auth c).nonce.isSome = true →
        (s.auth c).locked = false →
        a = { s.auth c with nonce := none, failures := (s.auth c).failures + 1, locked := decide (10 ≤ (s.auth c).failures + 1) } →
        exec (.authenticate c role false) s = .next (((s.setAuth c a).event 0x6014 deviceHandle).answer c 0x08000022 [])) ∧
    (∀ (c : Channel),
        Takes s c →
        (s.auth c).role.isSome = true →
        exec (.logout c 1) s = .next ((s.setAuth c { s.auth c with role := none }).answer c 0 [])) ∧
    (∀ (c : Channel),
        exec (.authTimeout c) s = .next (s.setAuth c { s.auth c with role := none })) ∧
    (∀ (c : Channel),
        (s.auth c).locked = true →
        exec (.authLockoutEnd c) s = .next (s.setAuth c { s.auth c with locked := false, failures := 0 })) ∧
    (∀ (c : Channel),
        Serves s c →
        s.sec.working = true →
        (s.auth c).role = some .user →
        exec (.sessionOpen c) s = .next
          ((({ s with sec := { s.sec with drbg := s.sec.drbg + 2 } } : State).setAuth c
            { s.auth c with sessionOpen := true, sessionKey := none, draw := s.sec.drbg }).answer c 0
            (sliceBytes (Config.encapsulationKey s.sec.drbg) 0 1184 ++ leBytes 32 (Config.drbg (s.sec.drbg + 1)).toNat))) ∧
    (∀ (c : Channel) (x : List Byte),
        Takes s c →
        s.sec.working = true →
        (s.auth c).role = some .user →
        x.length = 1088 →
        (s.auth c).sessionOpen = true →
        exec (.sessionCiphertext c x) s = .next ((s.setAuth c { s.auth c with
          sessionOpen := false, sessionKey := some (Config.sessionKey x (s.auth c).draw) }).answer c 0 [])) ∧
    (∀ (c : Channel) (k : BitVec 128),
        Takes s c →
        s.sec.working = true →
        (s.auth c).role = some .user →
        s.sec.state ≠ .locked →
        (s.auth c).sessionKey.isSome = true →
        s.sec.imageKeys.length < 8 →
        s.sec.imageKeys.contains k = false →
        exec (.imageKeyImport c k true) s = .next ((({ s with sec := { s.sec with imageKeys := s.sec.imageKeys ++ [k] } } : State).event 0x601A deviceHandle).answer c 0 [])) ∧
    (∀ (c : Channel) (k : BitVec 128),
        Takes s c →
        s.sec.working = true →
        (s.auth c).role = some .user →
        exec (.imageKeyDelete c k) s = .next (({ s with sec := { s.sec with imageKeys := s.sec.imageKeys.filter fun x => decide (x ≠ k) } } : State).answer c 0 [])) ∧
    (∀ (c : Channel) (nonce : BitVec 256),
        Serves s c →
        exec (.attestation c nonce) s = .next ((s.setAuth c { s.auth c with report := s.attestReport nonce }).answer c 0 []))

/-- A taken SELF_TEST, and outside Off PERIODIC_SELF_TEST and, in the error state, SELF_TEST_RETRY run the tests.
Taken writes of a Crypto Officer: CLEAR_LOCK returns a locked module without an excursion in the last 60 s to
operation, with event 0x6012 and vector 3; ZEROISE is a level-3 alarm with cause 0; RAISE_VERSION_FLOOR raises the
floor; ANCHOR_WRITE writes or deletes an anchor. ENROLMENT of an unprovisioned or zeroised module with a generation
left: a good token makes new keys, of a zeroised module after its weights are forgotten, with event 0x6018; a bad one
ends with abort code 0x06090030. TAMPER_EXCURSION outside Off: of a light, mesh or lid sensor a level-3 alarm, of any
other an excursion, and one that lasts 100 ms is a level-2 alarm; in Off one of the lid, or with VIN of the mesh, is
latched. (R446, R448, R451, R460, R461, R462, R463, R465, R466) -/
def Obligations.Island : Prop :=
  ∀ (s : State),
    (∀ (c : Channel) (ok : Bool),
        Takes s c →
        exec (.selfTest c ok) s = .next ((s.runTests ok).answer c 0 [])) ∧
    (∀ (ok : Bool),
        s.power ≠ .off →
        exec (.periodicSelfTest ok) s = .next (s.runTests ok)) ∧
    (∀ (ok : Bool),
        s.power ≠ .off →
        s.sec.state = .error →
        exec (.selfTestRetry ok) s = .next (s.runTests ok)) ∧
    (∀ (c : Channel) (r : State),
        Takes s c →
        s.isOfficer c = true →
        s.sec.state = .locked →
        (s.sec.lastExcursion = none ∨ ∃ t, s.sec.lastExcursion = some t ∧ t + 48000000000 ≤ s.now) →
        r = ({ s with sec := { s.sec with state := .operational, alarm := 0 } } : State).event 0x6012 deviceHandle →
        exec (.clearLock c) s = .next ((r.vector 3).answer c 0 [])) ∧
    (∀ (c : Channel),
        Takes s c →
        s.isOfficer c = true →
        exec (.zeroise c) s = .next ((s.levelThree 0).answer c 0 [])) ∧
    (∀ (c : Channel),
        Takes s c →
        s.isOfficer c = true →
        s.sec.floor ≤ s.accepted 0x270010 →
        exec (.raiseVersionFloor c) s = .next (({ s with sec := { s.sec with floor := s.accepted 0x270010 } } : State).answer c 0 [])) ∧
    (∀ (c : Channel) (key : Option Nat),
        Takes s c →
        s.isOfficer c = true →
        exec (.anchorWrite c .officer key) s = .next (({ s with sec := { s.sec with officer := key } } : State).answer c 0 [])) ∧
    (∀ (c : Channel) (key : Option Nat),
        Takes s c →
        s.isOfficer c = true →
        exec (.anchorWrite c .user key) s = .next (({ s with sec := { s.sec with user := key } } : State).answer c 0 [])) ∧
    (∀ (c : Channel) (k : Fin 4) (key : Option Nat),
        Takes s c →
        s.isOfficer c = true →
        exec (.anchorWrite c (.owner k) key) s = .next (({ s with sec := { s.sec with owners := s.sec.owners.set k.val key } } : State).answer c 0 [])) ∧
    (∀ (c : Channel) (token : Token) (s1 : State),
        Serves s c →
        (s.sec.state = .unprovisioned ∨ s.sec.state = .zeroised) →
        s.sec.nextGeneration ≤ 3 →
        s.sec.disabled.contains s.sec.nextGeneration = false →
        s.tokenOk token = true →
        s1 = (if s.sec.state = .zeroised then s.forgetWeights else s) →
        exec (.enrolment c token) s = .next
          ((((s1.newKeys token.officerAnchor).event 0x6018 deviceHandle).moduleFrom s).answer c 0 [])) ∧
    (∀ (c : Channel) (token : Token),
        Serves s c →
        (s.sec.state = .unprovisioned ∨ s.sec.state = .zeroised) →
        s.sec.nextGeneration ≤ 3 →
        s.sec.disabled.contains s.sec.nextGeneration = false →
        s.tokenOk token = false →
        exec (.enrolment c token) s = .next
          ((if s.trailerOk 5 token.trailer then s else s.event 0x6015 deviceHandle).answer c 0x06090030 [])) ∧
    (∀ (sensor : TamperSensor) (time cause : Nat),
        s.power ≠ .off →
        sensorCause sensor = some cause →
        exec (.tamperExcursion sensor time) s = .next (s.levelThree cause)) ∧
    (∀ (sensor : TamperSensor) (time : Nat),
        s.power ≠ .off →
        sensorCause sensor = none →
        exec (.tamperExcursion sensor time) s = .next (s.excursion sensor (max s.now time))) ∧
    (∀ (sensor : TamperSensor) (time cause : Nat),
        s.power = .off →
        sensorCause sensor = some cause →
        (sensor = .lid ∨ (sensor = .mesh ∧ s.vin = true)) →
        exec (.tamperExcursion sensor time) s = .next { s with sec := { s.sec with
          levelThreeLatched := some cause, alarmN := s.sec.alarmN || s.vin } }) ∧
    (∀ (sensor : TamperSensor),
        s.power ≠ .off →
        ((s.sec.excursions.any fun x => decide (x.1 = sensor)) = true) →
        exec (.excursionLasting100Ms sensor) s = .next (s.levelTwo 1))

/-- While the link is up and the device is not in Off: PCIE_ENABLE negotiates version 3.0 or 3.1, or fails with event
0x8029; PCIE_RESET and FUNCTION_LEVEL_RESET clear ENABLE and READY, empty every queue, and drop the completions of
taken requests; BAR0 writes reach a register, 4 bytes at a time, the MSI-X table, where they send the pending vectors
that they unmask, and in the windows the queue area and the HD work area, while others are counted; BAR2 reads and
writes LPDDR5X below the device region, and a write above it or in Doze is counted and raises event 0x4060; a link
loss empties the endpoint, a downgrade outside Doze leaves a rate and width of its own, both with event 0x4061. While
the queues work too: the doorbells set their index and let their queue go on, that of the hints at version 3.1;
EVENT_QUEUE_COPY copies readable entries and signals vector 2; EVENT_DOORBELL acknowledges up to the entry before its
head. PERST_N_ASSERT outside Off restarts the endpoint with event 0x4061; PERST_N_RELEASE ends that; then PCIE_LINK_UP
outside Doze sets rate and width, with event 0x4061 for a link that comes lower. (R438, R520, R521, R522, R523, R524,
R526, R529, R530, R534, R535, R552) -/
def Obligations.Endpoint : Prop :=
  ∀ (s : State),
    (∀ (offer : List Byte) (m : Nat),
        s.endpointUp = true →
        offeredMinor offer = some m →
        exec (.pcieEnable offer) s = .next { s with pcie := { s.pcie with
          offer := offer, enable := true, ready := true, failed := false, hpver := BitVec.ofNat 16 (0x0300 + min 1 m) } }) ∧
    (∀ (offer : List Byte),
        s.endpointUp = true →
        offeredMinor offer = none →
        exec (.pcieEnable offer) s = .next (({ s with pcie := { s.pcie with
          offer := offer, enable := true, ready := false, failed := true, hpver := 0 } } : State).event 0x8029 deviceHandle)) ∧
    (s.endpointUp = true →
        exec .pcieReset s = .next { s with
          pcie := { s.pcie with
            enable := false, ready := false, hpver := 0, hostIdx := List.replicate 6 0, devIdx := List.replicate 6 0
            phases := [true, true, true], slotSeq := [] }
          hd := { s.hd with hostTag := none } } ∧
        exec .functionLevelReset s = .next { s with
          pcie := { s.pcie with
            enable := false, ready := false, hpver := 0, hostIdx := List.replicate 6 0, devIdx := List.replicate 6 0
            phases := [true, true, true], slotSeq := [] }
          hd := { s.hd with hostTag := none } }) ∧
    (∀ (tail : W32),
        s.queuesUp = true →
        exec (.mailboxDoorbell tail) s = .next ({ s with pcie := { s.pcie with
          hostIdx := s.pcie.hostIdx.set 0 (tail.toNat % 256) } } : State).runMailbox) ∧
    (∀ (tail : W32),
        s.queuesUp = true →
        exec (.hdDoorbell tail) s = .next ({ s with pcie := { s.pcie with
          hostIdx := s.pcie.hostIdx.set 2 (tail.toNat % 256) } } : State).runHdQueue) ∧
    (∀ (head : W32),
        s.queuesUp = true →
        exec (.completionQueueDoorbell true head) s = .next ({ s with pcie := { s.pcie with
          hostIdx := s.pcie.hostIdx.set 3 (head.toNat % 256) } } : State).runHdQueue ∧
        exec (.completionQueueDoorbell false head) s = .next ({ s with pcie := { s.pcie with
          hostIdx := s.pcie.hostIdx.set 1 (head.toNat % 256) } } : State).runMailbox) ∧
    (∀ (tail : W32),
        s.queuesUp = true →
        s.pcie.hpver = 0x0301 →
        exec (.hintDoorbell tail) s = .next (({ s with pcie := { s.pcie with
          hostIdx := s.pcie.hostIdx.set 4 (tail.toNat % 64) } } : State).takeHints 64)) ∧
    (∀ (r : State),
        s.queuesUp = true →
        r = s.copyEvents 1024 →
        exec .eventQueueCopy s = .next (if r.deviceIndex 5 = s.deviceIndex 5 then r else r.vector 2)) ∧
    (∀ (head : W32) (k q : Nat),
        s.queuesUp = true →
        (s.pcie.slotSeq.find? (fun p => decide (p.1 = (head.toNat % 1024 + 1023) % 1024)) = some (k, q)) →
        exec (.eventDoorbell head) s = .next (({ s with pcie := { s.pcie with
          hostIdx := s.pcie.hostIdx.set 5 (head.toNat % 1024) } } : State).acknowledge q)) ∧
    (∀ (addr : Nat) (data : List Byte),
        s.endpointUp = true →
        addr + data.length ≤ 0x1000000000 →
        s.bar2Refused addr data.length = false →
        exec (.bar2Access true addr data) s = .next { s with lpddr := s.lpddr.write addr data } ∧
        exec (.bar2Access false addr data) s = .next { s with pcie := { s.pcie with
          readData := s.lpddr.read addr data.length, readPoison := s.lpddr.anyPoison addr data.length } }) ∧
    (∀ (addr : Nat) (data : List Byte),
        s.endpointUp = true →
        addr + data.length ≤ 0x1000000000 →
        s.bar2Refused addr data.length = true →
        exec (.bar2Access true addr data) s = .next (({ s with pcie := { s.pcie with
          drop := BitVec.ofNat 32 (min 0xFFFFFFFF (s.pcie.drop.toNat + 1)) } } : State).event 0x4060 deviceHandle)) ∧
    (∀ (offset : Nat) (data : List Byte),
        s.endpointUp = true →
        0x400000 ≤ offset →
        offset + data.length ≤ 0x800000 →
        exec (.bar0WindowWrite offset data) s = .next
          (if windowWritable offset data.length then { s with hub := s.hub.write offset data }
           else { s with pcie := { s.pcie with drop := BitVec.ofNat 32 (min 0xFFFFFFFF (s.pcie.drop.toNat + 1)) } })) ∧
    (∀ (offset : Nat) (data : List Byte),
        s.endpointUp = true →
        offset < 0x100000 →
        offset % 4 = 0 →
        data.length = 4 →
        exec (.bar0WindowWrite offset data) s = .next (s.writeRegister offset (leNat data))) ∧
    (∀ (offset : Nat) (data : List Byte),
        s.endpointUp = true →
        msixWritable offset data.length = true →
        exec (.bar0WindowWrite offset data) s = .next { s with pcie := s.pcie.writeMsix (offset - 0x100000) data }) ∧
    (s.pcie.perst = false →
        s.power ≠ .off →
        exec .perstNAssert s = .next (({ s with
          pcie := { s.pcie with
            enable := false, ready := false, hpver := 0, hostIdx := List.replicate 6 0, devIdx := List.replicate 6 0
            phases := [true, true, true], slotSeq := [], link := false, failed := false, offer := [], drop := 0, msix := [], msixTable := msixReset, msixPending := []
            perst := true }
          hd := { s.hd with hostTag := none } } : State).event 0x4061 deviceHandle)) ∧
    (exec .perstNRelease s = .next { s with pcie := { s.pcie with perst := false } }) ∧
    (∀ (rate width : Nat),
        s.power ≠ .off →
        s.power ≠ .doze →
        s.pcie.perst = false →
        s.loopHolds 8 = false →
        1 ≤ rate →
        rate ≤ 5 →
        [1, 2, 4, 8].contains width = true →
        exec (.pcieLinkUp rate width) s = .next
          (let s1 := { s with pcie := { s.pcie with link := true, rate := rate, width := width, fullRate := rate, fullWidth := width } }
           if s.pcie.link && (decide (rate < s.pcie.rate) || decide (width < s.pcie.width)) then s1.event 0x4061 deviceHandle else s1)) ∧
    (s.endpointUp = true →
        exec (.pcieLinkLoss false) s = .next (({ s with
          pcie := { s.pcie with
            enable := false, ready := false, hpver := 0, hostIdx := List.replicate 6 0, devIdx := List.replicate 6 0
            phases := [true, true, true], slotSeq := [], link := false }
          hd := { s.hd with hostTag := none } } : State).event 0x4061 deviceHandle)) ∧
    (s.endpointUp = true →
        s.power ≠ .doze →
        exec (.pcieLinkLoss true) s = .next (({ s.takeFree with pcie := { s.pcie with
          rate := (Config.retrained s.free).1, width := (Config.retrained s.free).2 } } : State).event 0x4061 deviceHandle))

/-- PORST_N_ASSERT takes the device to Off at once and releases THERMTRIP_N, and ALARM_N of a zeroised module.
COLD_START in Off with VIN and PORST_N asserted releases the reset, reports a trip, completes a level-3 response and
starts the island; BOOT_SET_RESTORE, when a start awaits it, restores the settings of a boot set that is there and
takes it when its checks pass, else raises event 0x8034, and ends the start. VIN_UNDERVOLTAGE removes power, outside
Off after an excursion; VIN_APPLY brings the regulator controller back. In Doze WAKE_N_EDGE requests the state of the
boot set, and DOZE_WAKE ends the wake. (R415, R464, R551, R554, R556, R557, R558, R565, R566, R586) -/
def Obligations.StartUp : Prop :=
  ∀ (s : State),
    (∀ (r : State),
        r = s.powerOff →
        exec .porstNAssert s = .next { r with
          porst := true
          pwr := { r.pwr with thermTrip := false }
          sec := { r.sec with alarmN := r.sec.alarmN && decide (r.sec.state ≠ .zeroised) && decide (r.sec.before ≠ .zeroised) }
          test := { r.test with testMode := false, pinsFloat := false } }) ∧
    (∀ (f : StartFindings),
        s.power = .off →
        s.vin = true →
        s.porst = true →
        exec (.coldStart f) s = .next (((s.releaseReset f).reportTrip.completeLevelThree).startIsland f)) ∧
    (∀ (ok : Bool) (ms : Nat) (s1 : State),
        s.power ≠ .off →
        s.svc.restoreDue = some (ok, ms) →
        s1 = (if s.svc.boot.present then s.restoreSettings else s) →
        exec .bootSetRestore s = .next
          ((if s1.svc.boot.present && ok && s1.bootChecks then s1.takeBoot
            else s1.raise 0x8034 deviceHandle (openParam 0x8034 10 0) 0xFFFF).finishStart ms)) ∧
    (s.power ≠ .off →
        exec .vinUndervoltage s = .next { s.shutdownExcursion.powerOff with vin := false }) ∧
    (s.power = .off →
        exec .vinUndervoltage s = .next { s with vin := false }) ∧
    (s.vin = false →
        exec .vinApply s = .next { s with
          vin := true, pwr := { s.pwr with thermTrip := false }
          sec := { s.sec with alarmN := s.sec.alarmN || s.sec.levelThreeLatched.isSome } }) ∧
    (∀ (p : PState),
        s.power = .doze →
        s.toward = none →
        p = (if s.svc.boot.requested = 1 ∧ s.runConditions then .run else .idle) →
        exec .wakeNEdge s = .next (({ s with toward := some p } : State).acceptSetting 0x200002 p.code)) ∧
    (∀ (p : PState) (s2 s3 : State),
        s.power = .doze →
        s.toward = some p →
        (s2 = forAll allDies (fun s d => s.modDie d Die.wake) s.reloadRoutines.takeEnis.requeueTasks) →
        s3 = { s2 with pcie := if s2.pcie.link then { s2.pcie with rate := s2.pcie.fullRate, width := s2.pcie.fullWidth } else s2.pcie } →
        exec .dozeWake s = .next (if p = .run then { s3 with power := .idle } else s3.enter .idle))

/-- With VIN: IDCODE selects the identification register, BYPASS the bypass register. While TEST_EN is sampled high on
a device held out of boot, EXTEST, SAMPLE_PRELOAD, CLAMP and HIGHZ take their effect on the boundary register and the
balls, and for a module without keys WSEL and MBIST select a wrapper and start the memory test; TEST_EN keeps SAFE_N
asserted. Elsewhere these six act as BYPASS. MBIST_COMPLETE of a test under way stores the fail bits. (R576, R577,
R578, R579) -/
def Obligations.TestPort : Prop :=
  ∀ (s : State),
    (s.vin = true →
        exec .idcode s = .next { s with test := { s.test with ir := 0x01, dataReg := 0xB1640A8F } } ∧
        exec .bypass s = .next { s with test := { s.test with ir := 0xFF, dataReg := 0 } }) ∧
    (s.vin = true →
        s.testable true = true →
        exec (.extest true) s = .next { s.takeFree with 
          porst := false
          sec := { s.sec with safeN := true }
          test := { s.test with boundary := Config.boundarySample s.free, ir := 0x00, pinsFloat := false, testMode := true } }) ∧
    (s.vin = true →
        s.testable true = true →
        exec (.samplePreload true) s = .next { s.takeFree with 
          porst := false
          sec := { s.sec with safeN := true }
          test := { s.test with boundary := Config.boundarySample s.free, ir := 0x02, testMode := true } }) ∧
    (s.vin = true →
        s.testable true = true →
        exec (.clamp true) s = .next { s with 
          porst := false
          sec := { s.sec with safeN := true }
          test := { s.test with ir := 0x04, dataReg := 0, pinsFloat := false, testMode := true } }) ∧
    (s.vin = true →
        s.testable true = true →
        exec (.highz true) s = .next { s with 
          porst := false
          sec := { s.sec with safeN := true }
          test := { s.test with ir := 0x05, dataReg := 0, pinsFloat := true, testMode := true } }) ∧
    (∀ (d : Byte) (answers : Bool),
        s.vin = true →
        s.testable true = true →
        s.keyless = true →
        exec (.wsel true d answers) s = .next { s.takeFree with 
          porst := false
          sec := { s.sec with safeN := true }
          test := { s.test with
            ir := 0x10, wrapper := some d.toNat, testMode := true
            dataReg := if decide (d = 0) || (answers && decide (d.toNat ≤ 16)) then BitVec.ofNat 64 (Config.boundarySample s.free)
              else BitVec.allOnes 64 } }) ∧
    (∀ (mask : BitVec 17),
        s.vin = true →
        s.testable true = true →
        s.keyless = true →
        exec (.mbist true mask) s = .next { s with 
          porst := false
          sec := { s.sec with safeN := true }
          test := { s.test with ir := 0x11, mbistMask := some mask, testMode := true } }) ∧
    (∀ (testEn : Bool) (d : Byte) (answers : Bool) (mask : BitVec 17),
        s.vin = true →
        s.testable testEn = false →
        [exec (.extest testEn) s, exec (.samplePreload testEn) s, exec (.clamp testEn) s, exec (.highz testEn) s,
          exec (.wsel testEn d answers) s, exec (.mbist testEn mask) s] =
          List.replicate 6 (.next { s with test := { s.test with ir := 0xFF, dataReg := 0 } })) ∧
    (∀ (failBits : Nat) (m : BitVec 17),
        s.test.mbistMask = some m →
        exec (.mbistComplete failBits) s = .next { s with test := { s.test with mbistMask := none, mbistResult := failBits } })

/-- When the word acts: ROT puts element (k − IMM) mod n of a in element k; BCAST puts element IMM, below n, in every
element; PACK packs the low bytes of a and then of b, or their low nibbles two to a byte; MACW adds a × b of one part
to the INT32 elements of d, saturating. ROT, BCAST and PACK land 2 cc later, MACW 5 cc. When the word acts: CVT
converts by parts and lands 4 cc later; DQ and DQT dequantise 64 INT32 elements by scale and bias, DQT also by an
entry of the row-scale file, and land 6 cc later; RSUM and RMAX reduce a by adjacent pairs to element 0, the others
being 0, and land 8 cc later. (R235, R236, R213, R222, R192, R110, R93, R97, R237) -/
def Obligations.VecConvert : Prop :=
  (∀ (s : State) (t : TileId) (w : WordTag) (f : VFmt) (vd va vb : Fin 32) (imm : Byte) (part : Fin 4), Acts s t w →
    exec (.vecRot t w f vd va imm) s =
      .next ((s.onItsWay t 2 (s.vecResult (VFmt.bits f) (VFmt.count f)
        (fun k => .clean (((s.tile t).vreg va).elem f ((k + VFmt.count f - imm.toNat % VFmt.count f) % VFmt.count f)))
        (fun k => ((s.tile t).vreg va).elemPoison f ((k + VFmt.count f - imm.toNat % VFmt.count f) % VFmt.count f)) vd) 1).endWord t w) ∧
    (imm.toNat < VFmt.count f → exec (.bcast t w f vd va imm) s =
      .next ((s.onItsWay t 2 (s.vecResult (VFmt.bits f) (VFmt.count f)
        (fun _ => .clean (((s.tile t).vreg va).elem f imm.toNat))
        (fun _ => ((s.tile t).vreg va).elemPoison f imm.toNat) vd) 1).endWord t w)) ∧
    exec (.pack t w vd va vb false) s =
      .next ((s.onItsWay t 2 (s.vecResult 8 256
        (fun k => .clean ((if k < 128 then ((s.tile t).vreg va).elem .int16 k else ((s.tile t).vreg vb).elem .int16 (k - 128)) % 256))
        (fun k => if k < 128 then ((s.tile t).vreg va).elemPoison .int16 k else ((s.tile t).vreg vb).elemPoison .int16 (k - 128)) vd) 1).endWord t w) ∧
    (∀ src : Nat → Nat × Bool, src = (fun k => if k < 128 then (((s.tile t).vreg va).elem .int16 k, ((s.tile t).vreg va).elemPoison .int16 k)
        else (((s.tile t).vreg vb).elem .int16 (k - 128), ((s.tile t).vreg vb).elemPoison .int16 (k - 128))) →
      exec (.pack t w vd va vb true) s =
      .next ((s.onItsWay t 2 (s.vecResult 8 256
        (fun k => .clean (if k < 128 then (src (2 * k)).1 % 16 + 16 * ((src (2 * k + 1)).1 % 16) else 0))
        (fun k => decide (k < 128) && ((src (2 * k)).2 || (src (2 * k + 1)).2)) vd) 1).endWord t w)) ∧
    (f.macwOk part = true → exec (.macw t w f vd va vb part) s =
      .next ((s.onItsWay t 5 (s.vecResult 32 64
        (fun k => satRes 32 (sint 32 (((s.tile t).vreg vd).elem .int32 k) + sint (VFmt.bits f) (((s.tile t).vreg va).elem f (64 * part.val + k)) *
          sint (VFmt.bits f) (((s.tile t).vreg vb).elem f (64 * part.val + k))))
        (fun k => ((s.tile t).vreg vd).elemPoison .int32 k || ((s.tile t).vreg va).elemPoison f (64 * part.val + k) ||
          ((s.tile t).vreg vb).elemPoison f (64 * part.val + k)) vd) 1).endWord t w))) ∧
  (∀ (s : State) (t : TileId) (w : WordTag) (f : VFmt) (vd va vb vc : Fin 32) (dst : VFmt) (part : Fin 4) (entry : Fin 32), Acts s t w →
    (f.cvtOk dst part = true → exec (.cvt t w f vd va dst part) s =
      .next ((s.onItsWay t 4 (s.vecResult (VFmt.bits dst) (VFmt.count dst)
        (fun k => match cvtSource (VFmt.count f) (VFmt.count dst) part.val k with
          | some j => elemCvt f dst (((s.tile t).vreg va).elem f j)
          | none => .clean 0)
        (fun k => match cvtSource (VFmt.count f) (VFmt.count dst) part.val k with
          | some j => ((s.tile t).vreg va).elemPoison f j
          | none => false) vd) 1).endWord t w)) ∧
    exec (.dq t w vd va vb vc) s =
      .next ((s.onItsWay t 6 (s.result3 t .int32 vd va vb vc fun a b c => dequantise a b c none) 1).endWord t w) ∧
    exec (.dqt t w vd va vb vc entry) s =
      .next ((s.onItsWay t 6 (s.result3 t .int32 vd va vb vc fun a b c =>
        dequantise a b c (some (mget RowScale.zero (s.tile t).rowScales entry.val))) 1).endWord t w) ∧
    exec (.rsum t w f vd va) s =
      .next ((s.onItsWay t 8 (s.vecResult (VFmt.bits f) (VFmt.count f)
        (fun k => if k = 0 then
          reduceTree (elemAdd f) 8 ((List.range (VFmt.count f)).map fun j => FRes.clean (((s.tile t).vreg va).elem f j)) else .clean 0)
        (fun k => decide (k = 0) && (List.range (VFmt.count f)).any fun j => ((s.tile t).vreg va).elemPoison f j) vd) 1).endWord t w) ∧
    exec (.rmax t w f vd va) s =
      .next ((s.onItsWay t 8 (s.vecResult (VFmt.bits f) (VFmt.count f)
        (fun k => if k = 0 then
          reduceTree (elemMax f) 8 ((List.range (VFmt.count f)).map fun j => FRes.clean (((s.tile t).vreg va).elem f j)) else .clean 0)
        (fun k => decide (k = 0) && (List.range (VFmt.count f)).any fun j => ((s.tile t).vreg va).elemPoison f j) vd) 1).endWord t w))

/-- When the word acts: STCLR clears a register at once, so that an observation of its own cycle counts after the clear, and
reads see the clear from the next cycle on; STRD delivers
STAT_CTL, STAT_VAL, STAT_CLIP and STAT_CNT as reads see them 4 cc later; STWR writes STAT_CTL and STAT_CLIP from
elements 0 and 1 at the end of its cycle; FLRD delivers the four flags 2 cc later; FLCLR clears them at the end of its
cycle; WSCL delivers the two scales of a latch 2 cc later. When the word acts, the format is a floating-point one and
IMM names a format entry of the running container: the codes of the elements of a land 4 cc later as INT16 elements,
the tagged statistics registers observe the input, in per-token mode the row-scale entry VC takes the row scale and
whether the row is flat, and a NaN poisons the whole result and raises 0x2023. (R236, R101, R102, R111, R222, R235,
R94, R95, R96, R97, R99, R237) -/
def Obligations.StatisticsOps : Prop :=
  (∀ (s : State) (t : TileId) (w : WordTag) (vd va : Fin 32) (reg : Fin 16) (latch : Fin 4), Acts s t w →
    (∀ y, y = { s.tile t with
        stats := mset Stat.reset (s.tile t).stats reg.val ((s.tile t).stat reg.val).clear
        statQ := (s.tile t).statQ.filter fun q => decide (q.2.1 ≠ reg.val) } →
      (((s.tile t).lastObs = none ∨ ∃ c o rows, (s.tile t).lastObs = some (c, o, rows) ∧ c ≠ (s.tile t).pcyc) →
        exec (.stclr t w reg) s = .next ((s.withTile t { y with
          landings := insertLanding ⟨(s.tile t).pcyc + 1, .statClear reg⟩ (s.tile t).landings }).endWord t w)) ∧
      (∀ o rows, (s.tile t).lastObs = some ((s.tile t).pcyc, o, rows) →
        exec (.stclr t w reg) s = .next ((s.withTile t ((Tile.observeIn o { y with
          statRows := mset StatRow.start y.statRows reg.val (mget StatRow.start rows reg.val) } reg.val).land 1
            (.statClear reg))).endWord t w))) ∧
    exec (.strd t w vd reg) s =
      .next ((s.onItsWay t 4 (.vreg vd (int32Reg [((s.tile t).statVisible reg.val).ctl.toNat, ((s.tile t).statVisible reg.val).val.toNat,
        ((s.tile t).statVisible reg.val).clip.toNat, ((s.tile t).statVisible reg.val).cnt.toNat]) TileFlags.zero) 0).endWord t w) ∧
    exec (.stwr t w va reg) s =
      .next ((s.onItsWay t 1 (.statWrite reg (BitVec.ofNat 32 (((s.tile t).vreg va).elem .int32 0)) (BitVec.ofNat 32 (((s.tile t).vreg va).elem .int32 1))
        (((s.tile t).vreg va).elemPoison .int32 0 || ((s.tile t).vreg va).elemPoison .int32 1)) 0).endWord t w) ∧
    exec (.flrd t w vd) s =
      .next ((s.onItsWay t 2 (.vreg vd (int32Reg [(s.tile t).flags.bits]) TileFlags.zero) 0).endWord t w) ∧
    exec (.flclr t w) s =
      .next ((s.onItsWay t 1 .flagClear 0).endWord t w) ∧
    exec (.wscl t w vd latch) s =
      .next ((s.onItsWay t 2 (.vreg vd (int32Reg [((s.tile t).latch latch.val).s16.toNat, ((s.tile t).latch latch.val).inv.toNat])
        TileFlags.zero) 0).endWord t w)) ∧
  (∀ (s : State) (t : TileId) (w : WordTag) (f : VFmt) (vd va vb vc : Fin 32) (tag imm : Byte) (rs re : Bool) (e : FormatEntry)
      (a : VReg) (q : QntRule) (codes : List (Int × Bool × Bool)) (row : RowScale) (obs : Observation) (v : VReg),
    Acts s t w → VFmt.isInt f = false → s.format imm = some e →
    a = (s.tile t).vreg va → q = (s.tile t).qntRule e vb w.platch →
    codes = (List.range (VFmt.count f)).map (fun k => quantise q f (a.elem f k)) →
    row = ⟨BitVec.ofNat 32 (rowScaleOf ((s.tile t).statVisible (vb.val % 16)).val.toNat).1,
      (codes.all fun c => decide (c.1 = 0)) && (rs || (mget RowScale.zero (s.tile t).rowScales vc.val).flat)⟩ →
    obs = ⟨tag.toNat, (List.range (VFmt.count f)).map (fun k => obsOf f (a.elem f k) (a.elemPoison f k)), rs, re,
      some (((List.range (VFmt.count f)).zip codes).all fun p => decide (p.2.1 = q.zp) && !p.2.2.1 && !a.elemPoison f p.1)⟩ →
    v = VReg.ofElems 16
      ((List.range 128).map fun k => if decide (k < VFmt.count f) && a.elemPoison f k then Config.poisonedValue s.free k else
        (match codes[k]? with
          | some c => uint 16 c.1
          | none => 0))
      ((List.range 128).map fun k => decide (k < VFmt.count f) && a.elemPoison f k) →
    exec (.qnt t w f vd va vb vc tag imm rs re) s =
      .next ((let nan := codes.any fun c => c.2.1
        let x := (s.tile t).observe obs
        let y := if e.perToken then { x with rowScales := mset RowScale.zero x.rowScales vc.val row } else x
        let s1 := s.withTile t (y.land 4 (.vreg vd (if nan then { v with poison := BitVec.allOnes 128 } else v)
          ⟨nan, codes.any fun c => c.2.2, false, false⟩))
        { (if nan then s1.event 0x2023 (tileHandle t) else s1) with free := s.free + 1 }).endWord t w))

/-- In an integer format of w bits, ADD, SUB and MUL of two patterns give the pattern of the exact sum, difference or
product clamped to −2^(w−1) … 2^(w−1) − 1; the SAT flag is set exactly when that differs from the exact value, and no
other flag is. (R110, R235) -/
def Obligations.IntegerSaturation : Prop :=
  ∀ (f : VFmt) (a b : Nat), VFmt.isInt f = true →
    let w := VFmt.bits f
    let saturated (x : Int) : FRes :=
      ⟨(max (-2 ^ (w - 1)) (min (2 ^ (w - 1) - 1) x) % 2 ^ w).toNat, ⟨false, decide (x < -2 ^ (w - 1) ∨ 2 ^ (w - 1) - 1 < x), false, false⟩⟩
    elemAdd f a b = saturated (sint w a + sint w b) ∧ elemSub f a b = saturated (sint w a - sint w b) ∧
    elemMul f a b = saturated (sint w a * sint w b)

/-- When the engine issues STOREV and its register, alignment and place are those the fields admit: the command completes;
byte HBO + k of the hub buffer, for k below n / 8, reads as byte k of the register, and its word is poisoned exactly
when the register is; every other byte reads as before with its poison; nothing else of the state changes. (R326,
R342, R346, R351) -/
def Obligations.StorevStores : Prop :=
  ∀ (s : State) (o : HdOrigin) (w : HdWidth) (a : Fin 32) (hbo : W32),
    HdIssues s o (.storev o w a hbo) → HdOrigin.regOk o a = true → hbo.toNat % 32 = 0 → hdWriteOk hbo.toNat (HdWidth.bits w / 8) = true →
    ∃ t, exec (.storev o w a hbo) s = .next t ∧ t = { s with hub := t.hub } ∧
      (∀ k, k < HdWidth.bits w / 8 → t.hub.get (hbo.toNat + k) = BitVec.ofNat 8 ((s.hreg a).bits.toNat / 256 ^ k) ∧
        t.hub.poisoned (hbo.toNat + k) = (s.hreg a).poison) ∧
      (∀ b, b < hbo.toNat ∨ hbo.toNat + HdWidth.bits w / 8 ≤ b → t.hub.get b = s.hub.get b ∧
        t.hub.poisoned b = s.hub.poisoned b)

/-- When the word issues: LOOP opens a loop of its trips, 0 done, from the next word to its END, while fewer than four are
open and the trips are not 0; VAR makes the start of the chosen path the next word and keeps the word after it for PEND,
which makes that the next word; WIN latches the register as reads see it, and where its MISS is set marks it as tested
and raises 0x2020; a NOP word takes its cycle; HINT makes PHASE the hint phase of the tile, started at the present
programme cycle; FEND sends an arrival to the frame turnstile, which reaches the hub 30 cc later and carries the frame
poison of the tile, ends the hint phase and marks the tile as ending. HINT and FEND write a next feed-forward limit of
the die, and change beside what is said only the phase table and the open occurrences. (R214, R217, R218, R220, R105,
R222, R223, R224, R292, R193, R402) -/
def Obligations.SequencerWords : Prop :=
  (∀ (s : State) (t : TileId) (w : WordTag), Issues s t w →
    (∀ last trips, trips ≠ 0 → (s.tile t).loops.length < 4 → exec (.loop t w last trips) s =
      .next ((s.withTile t { s.tile t with
        loops := ⟨(s.tile t).pc + 1, last.toNat, trips.toNat, 0⟩ :: (s.tile t).loops }).endWord t w)) ∧
    (∀ (group : Fin 16) a, s.pathStart t group.val = some a → exec (.var t w group) s =
      .next ((s.withTile t { s.tile t with jump := some a, varReturn := some ((s.tile t).pc + 1) }).endWord t w)) ∧
    exec (.pend t w) s =
      .next ((s.withTile t { s.tile t with jump := (s.tile t).varReturn, varReturn := none }).endWord t w) ∧
    (∀ (latch : Fin 4) (reg : Fin 16) r, r = (s.tile t).statVisible reg.val →
      exec (.win t w latch reg) s = .next ((let s1 := s.withTile t { s.tile t with
          latches := mset Latch.zero (s.tile t).latches latch.val (Latch.ofStat r)
          winTested := if r.miss then (s.tile t).winTested ||| BitVec.ofNat 16 (2 ^ reg.val) else (s.tile t).winTested }
        if r.miss then s1.raise 0x2020 (tileHandle t) (eventParam 0 reg.val) 0xFFFF else s1).endWord t w)) ∧
    (Issues s t ⟨false, false, 0, true, false, 0⟩ → exec (.nopWord t false) s = .next (s.advance t))) ∧
  (∀ (s : State) (t : TileId) (w : WordTag), Issues s t w →
    (∀ phase, ∃ (u : State) (n : Nat), exec (.hint t w phase) s = .next (u.endWord t w) ∧ u = { s with
      tiles := mset Tile.init s.tiles t.val { s.tile t with hintPhase := some phase, hintStart := (s.tile t).pcyc }
      dies := mset Die.init s.dies (tileDie t).val { s.die (tileDie t) with nextFt := some n }
      pwr := { s.pwr with occ := u.pwr.occ, phases := u.pwr.phases } }) ∧
    (∃ (u : State) (n : Nat), exec (.fend t w) s = .next (u.endWord t w) ∧ u = { s with
      tiles := mset Tile.init s.tiles t.val { s.tile t with ending := true, hintPhase := none }
      fabric := { s.fabric with globals := s.fabric.globals ++
        [⟨s.tileNow t + 30, s.frameTs, .add 1, (s.tile t).framePoison, t⟩] }
      dies := mset Die.init s.dies (tileDie t).val { s.die (tileDie t) with nextFt := some n }
      pwr := { s.pwr with occ := u.pwr.occ, phases := u.pwr.phases } }))

/-- When the word issues and TSN is in range: ARRIVE sends COUNT + 1, ADD sends COUNT + VALUE (VALUE not 0), RESET sends a
reset with target VALUE, POISON sends poison; the update goes to the turnstile of the scope: the own tile (visible 2
cc later), every tile in service of the group (4 cc), or the hub (30 cc), with the frame poison of the tile. At cc 0
of a slot: WAIT completes when its condition holds, and when it is the wait of the word in the routine store, which the
sample of the slot has let go on; a sampled turnstile with POIS gives the tile frame poison. A wait that is not in the
routine store and whose condition fails puts every die of the throttle group in wait slots, and the word does not end.
(R182, R193, R283, R284, R35, R188, R189, R290, R297) -/
def Obligations.TurnstileWords : Prop :=
  (∀ (s : State) (t : TileId) (w : WordTag) (sc : SynScope) (n : Byte) (value : BitVec 14), Issues s t w → sc.tsOk n = true →
    exec (.arrive t w sc n) s = .next ((s.sent t sc n (.add 1)).endWord t w) ∧
    (value ≠ 0 → exec (.synAdd t w sc n value) s = .next ((s.sent t sc n (.add value.toNat)).endWord t w)) ∧
    exec (.reset t w sc n value) s = .next ((s.sent t sc n (.reset value)).endWord t w) ∧
    exec (.poison t w sc n) s = .next ((s.sent t sc n .poison).endWord t w)) ∧
  (∀ (s : State) (t : TileId) (w : WordTag) (sc : SynScope) (n : Byte) (rel : Bool) (value : BitVec 14),
    Issues s t w → sc.tsOk n = true → (s.tile t).phase = 0 →
    (s.waitHolds t sc n value = true ∨ s.codeWait t = some (sc, n, value) → exec (.wait t w sc n rel value) s =
      .next ((s.withTile t { s.tile t with
        framePoison := (s.tile t).framePoison || (s.waitReads t sc n).any fun x => x.pois }).endWord t w)) ∧
    (s.waitHolds t sc n value = false → s.codeWait t ≠ some (sc, n, value) → exec (.wait t w sc n rel value) s =
      .next (s.withWaiting (s.throttleDies (tileDie t)))))

/-- When the word acts and the descriptor is a MOVE to tile u: the tile takes up a move of COUNT rows from ROW under a new
tag; for each earlier move of the tile whose compiled beats share o cycles with those of the new one, o above 0, the
tile owes at least ⌈o/4⌉ hold slots and event 0x5020 is raised; under frame poison the move is marked. (R262, R263,
R238, R193, R219) -/
def Obligations.MoveWord : Prop :=
  ∀ (s : State) (t : TileId) (w : WordTag) (n : BitVec 12) (row : BitVec 13) (str : BitVec 6) (upset : List (Nat × BitVec 32))
      (d : MoveDesc) (u : TileId) (os : List Nat),
    Acts s t w → s.desc n = some d → d.kind = .move → Handle.tile? d.target = some u →
    os = ((s.tile t).moves.map fun m => beatOverlap m.age (beats m.compress m.count) (beats d.compress d.count)).filter
      (fun o => decide (0 < o)) →
    exec (.move t w n row str upset) s = .next ((let s1 := { s with
        tiles := mset Tile.init s.tiles t.val { s.tile t with
          moves := (s.tile t).moves ++ [({
            id := s.fabric.nextTag, age := 0, row := s.operand t 8192 row.toNat str, count := d.count, k := 0
            compress := d.compress, target := u, remote := s.remoteOf t d, upset := upset, sent := 0, tail := false
            done := s.doneTo t d } : MoveOp)]
          holdDebt := os.foldl (fun h o => max h ((o + 3) / 4)) (s.tile t).holdDebt }
        fabric := { s.fabric with
          nextTag := s.fabric.nextTag + 1
          tainted := if (s.tile t).framePoison then s.fabric.tainted ++ [(t, s.fabric.nextTag)] else s.fabric.tainted } }
      os.foldl (fun (r : State) _ => r.raise 0x5020 (tileHandle t) (eventParam 0 (s.tile t).pcyc) 0xFFFF) s1).endWord t w)

/-- When the word acts, the descriptor has the kind of the word, fewer than 16 transfers of the tile are outstanding and
the extent lies in its area: a transfer of COUNT rows joins those of the tile under a new tag; it carries the frame
poison of the tile, and nothing else changes but by the end of the word. When the word acts and 16 transfers of the
tile are outstanding, or the extent lies outside its area, LOAD, STORE, HLOAD and HSTORE start nothing: the done add
is applied with poison and event 0x5032 is raised; the same holds for a MOV word whose descriptor has another kind.
(R266, R267, R238, R253, R193, R219) -/
def Obligations.TransferWords : Prop :=
  (∀ (s : State) (t : TileId) (w : WordTag) (n : BitVec 12) (row : BitVec 13) (str : BitVec 6),
    Acts s t w → (s.tile t).transfers.length < 16 →
    (∀ d, s.desc n = some d → d.kind = .load → s.extentOk d.kind (s.remoteOf t d) d.count d.compress = true →
      exec (.load t w n row str) s =
        .next ((s.withTransfer t (s.newTransfer t (s.operand t 8192 row.toNat str) d)).endWord t w)) ∧
    (∀ d, s.desc n = some d → d.kind = .store → s.extentOk d.kind (s.remoteOf t d) d.count d.compress = true →
      exec (.store t w n row str) s =
        .next ((s.withTransfer t (s.newTransfer t (s.operand t 8192 row.toNat str) d)).endWord t w)) ∧
    (∀ d, s.desc n = some d → d.kind = .hload → s.extentOk d.kind (s.remoteOf t d) d.count d.compress = true →
      exec (.hload t w n row str) s =
        .next ((s.withTransfer t (s.newTransfer t (s.operand t 8192 row.toNat str) d)).endWord t w)) ∧
    (∀ d, s.desc n = some d → d.kind = .hstore → s.extentOk d.kind (s.remoteOf t d) d.count d.compress = true →
      exec (.hstore t w n row str) s =
        .next ((s.withTransfer t (s.newTransfer t (s.operand t 8192 row.toNat str) d)).endWord t w))) ∧
  (∀ (s : State) (t : TileId) (w : WordTag) (n : BitVec 12) (row : BitVec 13) (str : BitVec 6) (d : MoveDesc) (r : State),
    Acts s t w → s.desc n = some d → r = (s.applyDone t (s.doneTo t d) true).event 0x5032 (tileHandle t) →
    (16 ≤ (s.tile t).transfers.length ∨ s.extentOk d.kind (s.remoteOf t d) d.count d.compress = false →
      (d.kind = .load → exec (.load t w n row str) s = .next (r.endWord t w)) ∧
      (d.kind = .store → exec (.store t w n row str) s = .next (r.endWord t w)) ∧
      (d.kind = .hload → exec (.hload t w n row str) s = .next (r.endWord t w)) ∧
      (d.kind = .hstore → exec (.hstore t w n row str) s = .next (r.endWord t w))) ∧
    (d.kind ≠ .move → ∀ upset, exec (.move t w n row str upset) s = .next (r.endWord t w)) ∧
    (d.kind ≠ .load → exec (.load t w n row str) s = .next (r.endWord t w)) ∧
    (d.kind ≠ .store → exec (.store t w n row str) s = .next (r.endWord t w)) ∧
    (d.kind ≠ .hload → exec (.hload t w n row str) s = .next (r.endWord t w)) ∧
    (d.kind ≠ .hstore → exec (.hstore t w n row str) s = .next (r.endWord t w)) ∧
    (d.kind ≠ .ticket → exec (.ticket t w n row str) s = .next (r.endWord t w)))

/-- When the word acts and the descriptor is a TICKET for rows from FIRST: to the issuing tile it opens the closed rows
and applies its done add; to another tile, with fewer than 16 transfers outstanding, it sends a request, which stays
outstanding under a new tag. (R256, R267, R238) -/
def Obligations.TicketWord : Prop :=
  ∀ (s : State) (t : TileId) (w : WordTag) (n : BitVec 12) (row : BitVec 13) (str : BitVec 6) (d : MoveDesc) (u : TileId),
    Acts s t w → s.desc n = some d → d.kind = .ticket → Handle.tile? d.target = some u →
    (u = t → exec (.ticket t w n row str) s = .next (((s.withTile t { s.tile t with
        booth := setBooth (s.tile t).booth (s.remoteOf t d) d.count openRow }).applyDone t (s.doneTo t d)
          (s.tile t).framePoison).endWord t w)) ∧
    (u ≠ t → (s.tile t).transfers.length < 16 → exec (.ticket t w n row str) s =
      .next (({ s with
        tiles := mset Tile.init s.tiles t.val { s.tile t with transfers := (s.tile t).transfers ++
          [{ s.newTransfer t (s.remoteOf t d) d with kind := .ticket, compress := false }] }
        fabric := { s.fabric with
          nextTag := s.fabric.nextTag + 1
          wire := s.fabric.wire ++
            [(u, (⟨t.val, s.remoteOf t d, d.count, s.doneTo t d, none, some (t, s.fabric.nextTag)⟩ : TicketReq))] } }).endWord t w))

/-- When the word acts and no FILL or COPY runs: RD delivers the row to its vector register 6 cc later; WR writes the row
1 cc later, with statistics when ST is set; FEED delivers the codes of PART, minus the zero point, to the stages of
the masked engines 6 cc later. RD and FEED take the wide port for their row in this cycle. Words of the row of RD or
FEED that ECC cannot correct are delivered poisoned, stay bad, and raise 0x3010. When the word acts, no FILL or COPY
runs and the rows lie below 8,192: FILL takes up writing the pattern of its register into COUNT rows, one a cycle;
COPY takes up copying COUNT rows. (R231, R232, R191, R192, R99, R219, R226, R251, R252, R233) -/
def Obligations.MemWords : Prop :=
  (∀ (s : State) (t : TileId) (w : WordTag) (row : BitVec 13) (str : BitVec 6) (v : Fin 32) (upset : BitVec 32) (n : Nat),
    Acts s t w → (s.tile t).memFree = true →
    n = s.operand t 8192 row.toNat str →
    (∀ tag fmt rs re, exec (.wr t w row str v false tag fmt rs re) s =
      .next ((s.onItsWay t 1 (.row n ((s.tile t).taint ((s.tile t).vreg v).toRow) TileFlags.zero false) 0).endWord t w)) ∧
    (∀ tag fmt rs re x,
      x = (s.tile t).observe (wrObservation ((s.tile t).vreg v) tag fmt rs re) →
      exec (.wr t w row str v true tag fmt rs re) s = .next ((s.withTile t
        (x.land 1 (.row n ((s.tile t).taint ((s.tile t).vreg v).toRow) TileFlags.zero false))).endWord t w)) ∧
    (∀ r s1, r = { (s.tile t).row n with poison := ((s.tile t).row n).poison ||| upset } →
      s1 = (if upset = 0 then s else (s.withTile t ((s.tile t).setRow n r)).event 0x3010 (tileHandle t)).usesWide t n →
      exec (.rd t w row str v upset) s = .next ((s1.onItsWay t 6 (.vreg v r.toVReg TileFlags.zero) 0).endWord t w) ∧
      ∀ emask part fidx e, s.format fidx = some e → feedOk (some e) part = true →
        exec (.feed t w row str emask part fidx upset) s = .next (((maskEngines t emask).foldl (fun z g =>
          z.onItsWay t 6 (.stage g (feedStage e part.val r)) 0) s1).endWord t w))) ∧
  (∀ (s : State) (t : TileId) (w : WordTag) (row dst count : BitVec 13) (str : BitVec 6) (v : Fin 32) (n : Nat),
    Acts s t w → (s.tile t).memFree = true →
    n = s.operand t 8192 row.toNat str → n + count.toNat < 8192 →
    exec (.fill t w row str v count) s =
      .next ((s.withTile t { s.tile t with fillOp := some ⟨n, count.toNat + 1, 0, (s.tile t).vreg v⟩ }).endWord t w) ∧
    (dst.toNat + count.toNat < 8192 → ∀ upset, exec (.memCopy t w row str dst count upset) s =
      .next ((s.withTile t { s.tile t with copyOp := some ⟨n, dst.toNat, count.toNat + 1, 0, [], upset⟩ }).endWord t w)))

/-- When the word acts: EVAL, at cc 0 of a slot, starts one array operation on every engine of the mask, in index order;
CLEAR zeroes the lanes of every engine of the mask; ADD puts four beats of 64 saturated lane sums on their way, which
land from 4 cc on in registers and from 5 cc on in rows; a sum that saturates sets the flag of its lane in every
engine of the mask and raises 0x2012. That the event carries the lowest engine of the mask is the choice of the model
(assumption log entry 94). (R225, R226, R228, R229, R70, R219) -/
def Obligations.EngWords : Prop :=
  ∀ (s : State) (t : TileId) (w : WordTag) (emask : BitVec 16) (str : BitVec 6), Acts s t w →
    (∀ block pw m clr bipolar bad, evalOk pw m bipolar = true → (s.tile t).phase = 0 →
      exec (.eval t w emask block pw m clr bipolar str bad) s = .next (((maskEngines t emask).foldl (fun r e =>
        r.evalEngine e (s.operand t 2048 block.toNat str) (planesOf pw) m clr bipolar (bad.getLsbD (e.val % 16))
          (s.tile t).pcyc) s).endWord t w)) ∧
    exec (.clear t w emask) s = .next (((maskEngines t emask).foldl (fun r e =>
      { r with engines := mset Engine.init r.engines e.val { r.engine e with lanes := [], pairLanes := false } }) s).endWord t w) ∧
    (∀ (rows : Bool) (addr : BitVec 13) (a : Nat) (sums : List (Int × Bool × Bool × Bool)) (beat : Nat → VReg)
        (sat : Nat → TileFlags), a = s.operand t 8192 addr.toNat str → engAddOk rows (BitVec.ofNat 13 a) = true →
      sums = (List.range 256).map (fun k => s.laneSum (maskEngines t emask) k) →
      (∀ i, beat i = VReg.ofElems 32 ((List.range 64).map fun k =>
          if (sums.getD (64 * i + k) (0, false, false, false)).2.1 then Config.poisonedValue s.free (64 * i + k)
          else uint 32 (sums.getD (64 * i + k) (0, false, false, false)).1)
        ((List.range 64).map fun k => (sums.getD (64 * i + k) (0, false, false, false)).2.1)) →
      (∀ i, sat i = if ((sums.drop (64 * i)).take 64).any (fun q => q.2.2.2) then TileFlags.satOnly else TileFlags.zero) →
      exec (.engAdd t w emask rows addr str) s = .next ((let s1 := (List.range 4).foldl (fun (r : State) i =>
          if rows then r.onItsWay t (5 + i) (.row (a + i) (beat i).toRow TileFlags.zero true) 0
          else r.onItsWay t (4 + i) (.vreg (Fin.ofNat 32 (a + i)) (beat i) (sat i)) 0) s
        let full := (List.range 256).filter fun k => (sums.getD k (0, false, false, false)).2.2.1
        let s2 := match maskEngines t emask with
          | e :: _ => if full = [] then s1
            else ((maskEngines t emask).foldl (fun (r : State) g => r.flagLanes g full) s1).event 0x2012 (engineHandle e)
          | [] => s1
        { s2 with free := s2.free + 1 }).endWord t w))

/-- When core power is up, the tile is not frozen and the oldest pending result of the tile is due: it leaves the list and
a vector result writes its register and joins its flags to those of the tile, a row result writes its row, a flag
clear clears the flags, a stage result loads the stage of its engine, a clear or a write of a statistics register
becomes visible; nothing else changes. A result that is not due changes nothing. (R213, R111, R185, R226, R231, R101,
R236) -/
def Obligations.ResultLanding : Prop :=
  ∀ (s : State) (t : TileId) (l : Landing) (ls : List Landing) (x : Tile),
    s.awake = true → s.frozen t = false → (s.tile t).landings = l :: ls → x = { s.tile t with landings := ls } →
    (l.due ≤ (s.tile t).pcyc →
      (∀ r v f, l.what = .vreg r v f → ∃ u : State, exec (.resultLanding t) s = .next u ∧
        TileOnly s u t { x with vregs := mset VReg.zero x.vregs r.val v, flags := x.flags.or f }) ∧
      (∀ n r f taint, l.what = .row n r f taint → ∃ u : State, exec (.resultLanding t) s = .next u ∧
        TileOnly s u t { x with
          rows := mset Row.zero x.rows n (if taint then (s.tile t).taint r else r), flags := x.flags.or f }) ∧
      (l.what = .flagClear → ∃ u : State, exec (.resultLanding t) s = .next u ∧
        TileOnly s u t { x with flags := TileFlags.zero }) ∧
      (∀ r, l.what = .statClear r → ∃ u : State, exec (.resultLanding t) s = .next u ∧
        TileOnly s u t { x with
          statSeen := mset Stat.reset x.statSeen r.val (mget Stat.reset x.statSeen r.val).clear }) ∧
      (∀ r ctl clip bad f, l.what = .statWrite r ctl clip bad →
        f = (fun y : Stat => if bad then y.setBit 24 true else y.write ctl clip) →
        ∃ u : State, exec (.resultLanding t) s = .next u ∧ TileOnly s u t { x with
          stats := mset Stat.reset x.stats r.val (f (mget Stat.reset x.stats r.val))
          statSeen := mset Stat.reset x.statSeen r.val (f (mget Stat.reset x.statSeen r.val))
          statQ := x.statQ.map fun q => if q.2.1 = r.val then (q.1, q.2.1, f q.2.2) else q }) ∧
      (∀ e st, l.what = .stage e st → exec (.resultLanding t) s = .next { s with
        tiles := mset Tile.init s.tiles t.val x
        engines := mset Engine.init s.engines e.val { s.engine e with stage := st } })) ∧
    ((s.tile t).pcyc < l.due → exec (.resultLanding t) s = .next s)

/-- When core power is up, the tile of the engine is not frozen and the programme cycle has reached the capture of the next
plane, the first operation with a plane left captures it: with a bank, the 256 sums that the captured delays, the
trims of the bank and the number of selected rows give, with event 0x2010 for a replica fault and 0x2011, and a count,
for clamped sums; without one, 256 zeros with poison. The engine counts as evaluating in the slot. When core power is
up, the tile is not frozen and the cycle of the update has come, the oldest operation, with all its planes, leaves the
queue and its lanes are the shift-add of its planes with the safety-net terms (256 lanes of 0 with poison without a
bank, their marks kept unless it clears); an addition that saturates raises 0x2012. An operation with a plane left, or
whose cycle has not come, changes nothing. (R57, R60, R61, R62, R63, R65, R72, R68, R73, R131, R182, R597) -/
def Obligations.ArrayAndLanes : Prop :=
  (∀ (s : State) (e : EngineId) (c : TdcCapture) (i : Nat) (o : ArrayOp) (take : PlaneSums → Engine → Engine),
    s.awake = true → s.frozen (engineTile e) = false →
    (s.engine e).ops.findIdx? (fun o => decide (o.planes.length < o.p)) = some i → (s.engine e).ops[i]? = some o →
    o.captureAt o.planes.length ≤ (s.tile (engineTile e)).pcyc →
    take = (fun p g => { g.issue (s.slotClock e) with ops := g.ops.set i { o with planes := o.planes ++ [p] } }) →
    (o.bank = none → exec (.arraySlot e c) s = .next { s with
      engines := mset Engine.init s.engines e.val (take ⟨List.replicate 256 0, true, []⟩ (s.engine e)) }) ∧
    (∀ b rows p, o.bank = some b → rows = planeRows o.inputs o.planes.length →
      p = slotSums c (s.bankTrims b) (if o.matchSense then 128 else popcount rows)
        (fun j => if o.set = .pair8 ∧ j % 2 = 1 then loBias rows ((s.bank b).contents.tempo.getD j []) else 0) →
      (p.poison = false → p.clamped = [] → exec (.arraySlot e c) s = .next { s with
        engines := mset Engine.init s.engines e.val (take p (s.engine e)) }) ∧
      ∃ u v : State, exec (.arraySlot e c) s = .next u ∧
        v = (if p.poison then s.event 0x2010 (arrayHandle e (b % 2048 / 2)) else s) ∧
        u.svc = (if p.clamped = [] then v else v.event 0x2011 (arrayHandle e (b % 2048 / 2))).svc ∧
        u = { s with engines := u.engines, svc := u.svc } ∧
        (∀ g, g ≠ e → u.engine g = s.engine g) ∧
        u.engine e = take p { s.engine e with acc := { (s.engine e).acc with
          clamped := if p.clamped = [] then (s.engine e).acc.clamped else satAdd32 (s.engine e).acc.clamped p.clamped.length } })) ∧
  (∀ (s : State) (e : EngineId) (o : ArrayOp) (rest : List ArrayOp),
    s.awake = true → s.frozen (engineTile e) = false → (s.engine e).ops = o :: rest →
    (o.planes.length < o.p ∨ (s.tile (engineTile e)).pcyc < o.updateAt → ∀ bad, exec (.laneUpdate e bad) s = .next s) ∧
    (o.p ≤ o.planes.length → o.updateAt ≤ (s.tile (engineTile e)).pcyc → o.bank = none → ∀ bad,
      exec (.laneUpdate e bad) s = .next { s with engines := mset Engine.init s.engines e.val { s.engine e with
        ops := rest, pairLanes := false
        lanes := o.unboundLanes (s.engine e).lanes } }) ∧
    (o.p ≤ o.planes.length → o.updateAt ≤ (s.tile (engineTile e)).pcyc → ∀ b after, o.bank = some b →
      (s.tile (engineTile e)).badPool = [] →
      after = s.operateLanes o b false (s.engine e).lanes →
      exec (.laneUpdate e []) s = .next (
        let s1 := { s with engines := mset Engine.init s.engines e.val { s.engine e with
          ops := rest, lanes := after, pairLanes := decide (o.set = .pair8) } }
        let s2 := if s.operationSaturates o b false (s.engine e).lanes then s1.event 0x2012 (engineHandle e) else s1
        if o.poison then { s2 with free := s2.free + 1 } else s2)))

/-- With core power up and die d in service and powered, and no group overrunning, SLOT_START opens the next slot of the
throttle group of d, 4 cc later. When a die of the group asks for a hold the slot is a hold slot: it is counted, the
narrow writes that its tiles put off take effect, and nothing else happens. Otherwise it is a wait slot of the group
when the condition of a wait in the words that its tiles issue next does not hold, and a free slot when all hold;
in both the engines of each die take unscheduled work. (R37, R184, R185, R189, R190, R404, R410) -/
def Obligations.SlotStart : Prop :=
  ∀ (s : State) (d : DieId) (free : List (EngineId × TdcCapture)) (bad : List TileId) (ds : List DieId) (s1 s2 : State),
    s.awake = true → s.dieIn d = true → (s.die d).powered = true → ds = s.throttleDies d →
    s1 = (s.openSlot ds ((s.die d).clock + 4)).spoilWords (bad.filter fun t => ds.contains (tileDie t)) →
    s1.overruns = false →
    s2 = s1.markSlot ds false →
    (ds.any s1.asksHold = true → exec (.slotStart d free bad) s = .next ((s1.markSlot ds true).countSlot ds true false)) ∧
    (ds.any s1.asksHold = false → s2.waitsHold ds = false →
      exec (.slotStart d free bad) s = .next (forAll ds (fun r c => r.fillSlot c free) (s2.countSlot ds false true))) ∧
    (ds.any s1.asksHold = false → s2.waitsHold ds = true →
      exec (.slotStart d free bad) s = .next (forAll ds (fun r c => r.fillSlot c free) (s2.countSlot ds false false)))

/-- At issue limit n, from 0 to 16, exactly 16 − n of every 16 consecutive slots of a frame are hold slots. While the
device is awake, with no droop under way on a die in service and its dead time over, a sample more than the droop
margin below the table voltage starts a droop: the next slot of the die is a hold slot; more than 32 starts within 1
ms lower the droop limit by 2, to no less than 1, and raise 0x1020. On the hub a droop raises 0x1021 only.
DROOP_LIMIT_RISE raises a lowered droop limit by 1. (R404, R406, R407) -/
def Obligations.HoldSlots : Prop :=
  (∀ n : Fin 17, ∀ base : Nat, ((List.range 16).filter fun k => limitHolds n.val (16 * base + k)).length = 16 - n.val) ∧
  (∀ (s : State) (c : Fin 17) (mV : Nat), s.awake = true →
    (c.val = 0 → mV + s.droopMargin < s.tableVoltage 0 → exec (.droopSample c mV) s = .next (s.event 0x1021 hubHandle)) ∧
    (c.val = 0 → s.tableVoltage 0 ≤ mV + s.droopMargin → exec (.droopSample c mV) s = .next s) ∧
    (∀ d : DieId, c.val = d.val + 1 → s.dieIn d = true → (s.die d).droopActive = false → (s.die d).droopDead = 0 →
      mV + s.droopMargin < s.tableVoltage c.val →
      ∀ starts, starts = ((s.die d).droopStarts.filter fun t => decide ((s.die d).clock < t + 800000)) ++ [(s.die d).clock] →
      (starts.length ≤ 32 → ∃ u : State, exec (.droopSample c mV) s = .next u ∧ DieOnly s u d { s.die d with
        droopActive := true, droopHold := 1, droopNext := true, droopStarts := starts }) ∧
      (32 < starts.length → ∃ u : State, exec (.droopSample c mV) s = .next (u.event 0x1020 (dieHandle d)) ∧
        DieOnly s u d { s.die d with droopActive := true, droopHold := 1, droopNext := true, droopStarts := []
                                     nextDr := some (max 1 ((s.die d).limit - 2)) })) ∧
    (∀ d : DieId, (s.die d).nextDr = none → (s.die d).nDr < 16 → ∃ u : State, exec (.droopLimitRise d) s = .next u ∧
      DieOnly s u d { s.die d with nDr := (s.die d).nDr + 1 }))

/-- An update of turnstile n, below 64, of a tile in service with no update of it waiting: an add raises COUNT,
saturating at 65,535, and sets DONE once COUNT reaches a TARGET that is not 0; a reset clears COUNT, DONE and POIS and
sets TARGET; poison sets POIS, as a poisoned update does. The other turnstiles, and every other tile, keep theirs; an
add that saturates raises 0x5040 on the tile, with the number of the turnstile; of the rest of the state only the
process data that become due may change. (R281, R282, R283, R288) -/
def Obligations.TurnstileRules : Prop :=
  ∀ (s : State) (t : TileId) (n : Byte) (op : TsOp) (poison : Bool) (vis : Nat) (old new : Ts),
    s.tileIn t = true → n.toNat < 64 → (∀ u ∈ (s.tile t).tsQ, u.number ≠ n.toNat) →
    old = mget Ts.zero (s.tile t).tsSeen n.toNat → mget Ts.zero (s.tile t).turnstiles n.toNat = old →
    new = (match op with
      | .add v => ⟨old.pois || poison, old.done || decide (old.target ≠ 0 ∧ old.target.toNat ≤ min 65535 (old.count.toNat + v)),
        old.target, BitVec.ofNat 16 (min 65535 (old.count.toNat + v))⟩
      | .reset target => ⟨poison, false, target, 0⟩
      | .poison => ⟨true, old.done, old.target, old.count⟩) →
    mget Ts.zero ((s.tileUpdate t n op poison vis).tile t).turnstiles n.toNat = new ∧
    (∀ k, k ≠ n.toNat → mget Ts.zero ((s.tileUpdate t n op poison vis).tile t).turnstiles k =
      mget Ts.zero (s.tile t).turnstiles k) ∧
    (∀ u, u ≠ t → (s.tileUpdate t n op poison vis).tile u = s.tile u) ∧
    (s.tileUpdate t n op poison vis) = { s with
      tiles := (s.tileUpdate t n op poison vis).tiles, ecat := (s.tileUpdate t n op poison vis).ecat
      svc := if old.saturates op then (s.raise 0x5040 (tileHandle t) (eventParam 0 n.toNat) 0xFFFF).svc else s.svc }

/-- GLOBAL_UPDATE_ARRIVAL lets the updates of the oldest cycle for one turnstile reach the hub together, after which
waiting HD commands may go on. A single add or poison of turnstile n that neither saturates nor completes it acts on
it: its change goes to the shadow of every die 30 cc later, and n counts its source as arrived. SHADOW_UPDATE lets the
oldest change on its way reach the shadow of die d, and changes no other die. (R182, R195, R287, R288) -/
def Obligations.GlobalUpdates : Prop :=
  ∀ s : State,
    (∀ (u : GlobalUpdate) old new, s.fabric.globals = [u] → u.op.isReset = false → old = mget Ts.zero s.globals.ts u.number.toNat →
      new = old.apply u.op u.poison → old.saturates u.op = false → (new.done = true → old.done = true) →
      ∃ r : State, exec .globalUpdateArrival s = .next r.runHdQueue ∧
        r = { s with fabric := { s.fabric with globals := [] }, now := max s.now u.due, globals := r.globals, dies := r.dies } ∧
        r.globals.ts = mset Ts.zero s.globals.ts u.number.toNat new ∧
        r.globals.arrived = (if s.globals.arrived.contains (u.number.toNat, u.src) then s.globals.arrived
          else s.globals.arrived ++ [(u.number.toNat, u.src)]) ∧
        (new = old → r.dies = s.dies) ∧
        (new ≠ old → ∀ d : DieId, r.die d = { s.die d with
          shadowQ := (s.die d).shadowQ ++ [(max s.now u.due + 30, u.number.toNat, new)] })) ∧
    (∀ (us mine : List GlobalUpdate) (h : GlobalUpdate), s.fabric.globals = us → us.find? (fun u => decide (u.due = h.due)) = some h →
      (∀ u ∈ us, h.due ≤ u.due) → mine = us.filter (fun u => decide (u.due = h.due) && decide (u.number = h.number)) →
      exec .globalUpdateArrival s = .next (({ s with
        now := max s.now h.due
        fabric := { s.fabric with globals := us.filter fun u => !(decide (u.due = h.due) && decide (u.number = h.number)) } } :
          State).applyBatch h.number mine).runHdQueue) ∧
    (∀ (d : DieId) due n x rest, (s.die d).shadowQ = (due, n, x) :: rest → ∃ r : State, exec (.shadowUpdate d) s = .next r ∧
      r = { s with dies := r.dies, now := max s.now due } ∧
      r.die d = { s.die d with shadow := mset Ts.zero (s.die d).shadow n x, shadowQ := rest } ∧
      ∀ c, c ≠ d → r.die c = s.die c)

/-- When one row is on its way, to tile t, both its tiles are in service, the ring is up and its header was trusted: a row
of the own throttle group, while that runs the programme, lands once it is due, and before that nothing happens; a row
from outside lands in its cycle, and the round-robin pointer passes its source. A row that lands and holds the ticket
of its sender is written through the narrow port and its booth entry closes; the last row applies the done add of the
MOVE 1 cc later, with poison when a row of the MOVE was poisoned or discarded or its tile has frame poison. Without the
ticket the row is discarded and event 0x5030 is raised. TICKET_REQUEST_RECEIVED: the first request on its way to the
tile joins its booth while it has fewer than 16 and the rows lie in its working region, else it is refused with event
0x5031. TICKET_GRANT: the oldest request whose rows are all open takes them. NARROW_ROW_WRITE writes the next row that
waits at the narrow port, under the ticket of its writer where it has one. (R183, R195, R238, R259, R262, R547, R250,
R256, R257, R258, R286) -/
def Obligations.TicketsAndRows : Prop :=
  (∀ (s : State) (t : TileId) (r : FabricRow), s.fabric.rows = [r] → r.dst = t → s.ownRow t r = true → s.ownDue t r = false →
    exec (.moveRowLanding t) s = .next s) ∧
  (∀ (s z s1 : State) (t : TileId) (r : FabricRow) (key : TileId × Nat),
    s.fabric.rows = [r] → r.dst = t → s.tileIn t = true → s.tileIn r.src = true →
    s.ringUp (tileDie r.src) (tileDie t) = true → key = (r.src, r.op) → r.lost = false →
    s.fabric.untrusted.contains key = false →
    (s.ownRow t r = true ∧ s.ownDue t r = true ∧ z = s ∨
      s.ownRow t r = false ∧ z = { s.withTile t { s.tile t with narrowPtr := r.src.val + 1 } with now := max s.now r.arrive }) →
    s1 = { z with fabric := { z.fabric with rows := [] } } →
    ((s.tile t).boothOf r.row = .held r.src.val → r.data.anyPoison = false →
      exec (.moveRowLanding t) s = .next
        (let s2 := (s1.withTile t { z.tile t with booth := mset Booth.closed (s.tile t).booth r.row .closed }).narrowWrite
           t r.row r.data
         if r.last then
           { s2 with fabric := { s2.fabric with tainted := s2.fabric.tainted.filter fun k => decide (k ≠ key) } }.landDone
             r.src r.done (s.fabric.tainted.contains key || (s.tile r.src).framePoison)
         else s2)) ∧
    ((s.tile t).boothOf r.row ≠ .held r.src.val →
      exec (.moveRowLanding t) s = .next
        (let s2 := s1.event 0x5030 (tileHandle t)
         if r.last then
           { s2 with fabric := { s2.fabric with tainted := s2.fabric.tainted.filter fun k => decide (k ≠ key) } }.landDone
             r.src r.done true
         else { s2 with fabric := { s2.fabric with tainted := s2.fabric.tainted ++ [key] } }))) ∧
  (∀ (s : State) (t : TileId),
    (∀ r, s.fabric.wire.find? (fun p => decide (p.1 = t)) = some (t, r) → s.tileIn t = true →
      (s.tile t).regions.works r.first r.count = true → (s.tile t).requests.length < 16 →
      exec (.ticketRequestReceived t) s = .next (({ s with fabric := { s.fabric with wire := s.fabric.wire.erase (t, r) } } : State).withTile
        t { s.tile t with requests := (s.tile t).requests ++ [r] })) ∧
    (∀ r, s.fabric.wire.find? (fun p => decide (p.1 = t)) = some (t, r) →
      (s.tileIn t = false ∨ (s.tile t).regions.works r.first r.count = false ∨ 16 ≤ (s.tile t).requests.length) →
      exec (.ticketRequestReceived t) s = .next
        ((({ s with fabric := { s.fabric with wire := s.fabric.wire.erase (t, r) } } : State).refusalEvents t r).endTicket r true)) ∧
    (s.tileIn t = true →
      (∀ r, (s.tile t).requests.find? (s.tile t).grantable = some r → exec (.ticketGrant t) s = .next ((s.withTile t { s.tile t with
          requests := (s.tile t).requests.erase r
          booth := setBooth (s.tile t).booth r.first r.count fun _ => .held r.holder }).endTicket r false)) ∧
      (∀ r rs, (s.tile t).narrowIn = r :: rs → r.writer = none →
        exec (.narrowRowWrite t none) s = .next (((s.withTile t { s.tile t with narrowIn := rs, narrowPtr := t.val + 1 }).narrowWrite
          t r.row r.data).landHubDone r.done r.data.anyPoison)) ∧
      (∀ r rs w, (s.tile t).narrowIn = r :: rs → r.writer = some w → (s.tile t).boothOf r.row = .held w →
        exec (.narrowRowWrite t none) s = .next (((s.withTile t { s.tile t with
          narrowIn := rs, narrowPtr := w + 1, booth := mset Booth.closed (s.tile t).booth r.row .closed }).narrowWrite
          t r.row r.data).landHubDone r.done r.data.anyPoison))))

/-- The k-th outstanding transfer of a tile in service, unless it is a ticket, with no word in error: a LOAD or HLOAD lands
the rows that have not landed, and its done add follows 1 cc later; a STORE or HSTORE writes its rows to memory and
applies its done add; the transfer leaves the list, and its done add carries the poison of every row it moved and the
frame poison of the tile. NARROW_ROW_WRITE lands the next row of the named transfer. A tile of a lost die changes
nothing. (R250, R266, R268, R193, R286, R297) -/
def Obligations.TransferDone : Prop :=
  ∀ (s : State) (t : TileId) (k : Nat) (tr : Transfer), (s.tile t).transfers[k]? = some tr →
    (s.tileIn t = true → tr.kind = .load ∨ tr.kind = .hload → ∀ s1, s1 = s.landRest t tr.tag tr.count →
      exec (.transferDone t k [] []) s =
        .next ((s1.withTile t { s1.tile t with transfers := (s1.tile t).transfers.filter fun y => decide (y.tag ≠ tr.tag) }).landDone
          t tr.done ((((s1.tile t).transfers.filter fun y => decide (y.tag = tr.tag)).any fun y => y.poison) ||
            (s1.tile t).framePoison))) ∧
    (s.tileIn t = true → tr.kind = .store ∨ tr.kind = .hstore → ∀ s1, s1 = s.storeRows t tr →
      exec (.transferDone t k [] []) s =
        .next ((s1.withTile t { s1.tile t with transfers := (s1.tile t).transfers.filter fun y => decide (y.tag ≠ tr.tag) }).applyDone
          t tr.done ((((s1.tile t).transfers.filter fun y => decide (y.tag = tr.tag)).any fun y => y.poison) ||
            !tr.beats.isEmpty || ((s.sourceRows t tr).any Row.anyPoison) || (s1.tile t).framePoison))) ∧
    (tr.kind = .ticket ∨ s.tileIn t = false → ∀ upset fixed, exec (.transferDone t k upset fixed) s = .next s) ∧
    (s.tileIn t = true → exec (.narrowRowWrite t (some k)) s =
      .next ((s.withTile t { s.tile t with narrowPtr := t.val + 1 }).landTransferRow t tr.tag)) ∧
    (s.tileIn t = false → exec (.narrowRowWrite t (some k)) s = .next s)

/-- FRAME_START in Run or Idle, while no segment has stopped the frames: the frame number grows by 1, its start is the old
start plus 800 cycles for each microsecond of the period plus the last correction while no new period is written, the
system time is that of the edge; the log of the frame that ended is published, the period and phase that fall due are
taken, the old frame closes, the boundary of R431 runs, the segments transmit, requests of the new frame open and the
snapshot of 0x6000 is taken. In Doze the log is published and the segments transmit. In Off nothing changes. (R294, R296, R431, R435, R471, R515, R563) -/
def Obligations.FrameStart : Prop :=
  ∀ (s : State),
    (∀ (edge : EdgeInput),
        (s.power = .run ∨ s.power = .idle) →
        s.ecat.stopped = false →
        exec (.frameStart edge) s = .next
          (let s2 := (s.publishLog.openFrame edge).takePeriod.closeFrame.boundary edge
           let s3 := forAll (List.range 3) State.transmit s2
           ({ s3 with frame := { s3.frame with frameOut := s3.frameOutWidth } }.openRequests.takeSnapshot).runHdQueue)) ∧
    (∀ (edge : EdgeInput),
        s.frame.nextPeriod = none →
        (s.openFrame edge).frame.start =
          ((s.frame.start : Int) + ((800 * s.frame.period : Nat) + s.frame.lastCorr)).toNat) ∧
    (∀ (edge : EdgeInput),
        ((s.openFrame edge).frame.number = s.frame.number + 1 ∧
          (s.openFrame edge).frame.sysTime = edge.sysTime ∧ (s.openFrame edge).power = s.power)) ∧
    (∀ (edge : EdgeInput),
        s.power = .doze →
        s.ecat.stopped = false →
        exec (.frameStart edge) s = .next
          (let s2 := forAll (List.range 3) State.transmit (s.publishLog.openFrame edge).takePeriod
           ({ s2 with
             frame := { s2.frame with frameOut := s2.frameOutWidth }
             dict := { s2.dict with inForce := s2.dict.accepted, octetsInForce := s2.dict.octets } }.takeSnapshot).runHdQueue)) ∧
    (∀ (edge : EdgeInput),
        s.power = .off →
        exec (.frameStart edge) s = .next s)

/-- COMMIT_DEADLINE, once a frame: in Run the pending image becomes the committed image when the commit turnstile of a
started frame is complete and the device is not zeroised; else the frame missed and event 0x5021 is raised.
COMMIT_RECORDS_COMPLETE ends a set that is committing: event 0x8012, its history record unless the image is 0, load
status 5 where the set belongs to the load, and the boot set is written. (R160, R203, R204, R463) -/
def Obligations.CommitDeadline : Prop :=
  ∀ (s : State),
    (s.frame.deadlinePassed = false →
        s.power = .run →
        s.frame.started = true →
        s.sec.state ≠ .zeroised →
        (mget Ts.zero s.globals.ts s.commitTs.toNat).done = true →
        exec .commitDeadline s = .next
          (({ s with frame := { s.frame with deadlinePassed := true } } : State).commitImages false)) ∧
    (s.frame.deadlinePassed = false →
        s.power = .run →
        (s.frame.started = false ∨ s.sec.state = .zeroised ∨ (mget Ts.zero s.globals.ts s.commitTs.toNat).done = false) →
        exec .commitDeadline s = .next
          ((({ s with frame := { s.frame with deadlinePassed := true } } : State).commitImages true).event 0x5021 deviceHandle)) ∧
    (s.frame.deadlinePassed = false →
        s.power ≠ .run →
        exec .commitDeadline s = .next { s with frame := { s.frame with deadlinePassed := true } }) ∧
    (s.frame.deadlinePassed = true →
        exec .commitDeadline s = .next s) ∧
    (∀ (set : Fin 4) (f : FlipSet),
        s.flipSet set.val = f →
        f.committing = true →
        f.image = 0 →
        s.weights.loadSet ≠ some set →
        exec (.commitRecordsComplete set) s = .next
          (let s1 := (s.setFlip set.val FlipSet.none).event 0x8012 deviceHandle
           { s1 with weights := { s1.weights with lastCommitted := f.recorded s1.weights.lastCommitted } }).writeBoot) ∧
    (∀ (set : Fin 4) (f : FlipSet),
        s.flipSet set.val = f →
        f.committing = true →
        f.image ≠ 0 →
        s.weights.loadSet = some set →
        exec (.commitRecordsComplete set) s = .next
          (let s1 := (s.setFlip set.val FlipSet.none).event 0x8012 deviceHandle
           ({ s1 with weights := { s1.weights with
             status := 5, loadSet := none, liveDigest := f.image, lastCommitted := f.recorded s1.weights.lastCommitted } }.history
             3 0 f.image).writeBoot))

/-- While the device is awake and the die in service: GOINE_FLIT_DELIVERY on a module that is up delivers a flit with
no byte error, or with errors that the code corrects and the die counts, with the poison marks of its words; one that
the code cannot correct counts as bad, raises event 0x4010 and arrives poisoned in all its words; a late class S flit
raises event 0x4011 and its words arrive poisoned. GOINE_RETRAIN of a module that is up, at Goine 1.2 and with
success, takes the link down until it rejoins; an earlier version, or a failed retrain, loses the module.
GOINE_MODULE_LOSS of a module that is up, with no loop-back under way, loses it too: the link goes down, event 0x4013
is raised, and a die whose two hub modules are lost is marked out. (R265, R440, R545, R548, R573) -/
def Obligations.Goine : Prop :=
  ∀ (s : State),
    (∀ (d : DieId) (m : Fin 4) (toHub : Bool) (flit : BitVec 320) (bs : List Nat),
        s.awake = true →
        s.dieIn d = true →
        s.moduleUp d m.val = true →
        rsCorrect (unpackNat 8 flit.toNat 40) = some (bs, false) →
        exec (.goineFlitDelivery d m toHub false flit) s = .next (s.deliverPoison d toHub (Flit.parse (packNat 8 bs)) (Flit.parse (packNat 8 bs)).pois)) ∧
    (∀ (d : DieId) (m : Fin 4) (toHub : Bool) (flit : BitVec 320) (bs : List Nat),
        s.awake = true →
        s.dieIn d = true →
        s.moduleUp d m.val = true →
        rsCorrect (unpackNat 8 flit.toNat 40) = some (bs, true) →
        exec (.goineFlitDelivery d m toHub false flit) s = .next
          ((s.modDie d fun x => { x with fecCorrected := BitVec.ofNat 32 (min 0xFFFFFFFF (x.fecCorrected.toNat + 1)) }).deliverPoison d toHub
            (Flit.parse (packNat 8 bs)) (Flit.parse (packNat 8 bs)).pois)) ∧
    (∀ (d : DieId) (m : Fin 4) (toHub : Bool) (flit : BitVec 320),
        s.awake = true →
        s.dieIn d = true →
        s.moduleUp d m.val = true →
        rsCorrect (unpackNat 8 flit.toNat 40) = none →
        exec (.goineFlitDelivery d m toHub false flit) s = .next
          (((s.modDie d fun x => { x with fecBad := x.fecBad + 1 }).raise 0x4010 (dieHandle d) 0 (BitVec.ofNat 16 m)).deliverPoison d toHub
            (Flit.parse flit.toNat) 15)) ∧
    (∀ (d : DieId) (m : Fin 4) (toHub : Bool) (flit : BitVec 320),
        s.awake = true →
        s.dieIn d = true →
        (Flit.parse flit.toNat).cls = 2 →
        exec (.goineFlitDelivery d m toHub true flit) s = .next
          ((s.raise 0x4011 (dieHandle d) 0 (BitVec.ofNat 16 m)).deliverPoison d toHub (Flit.parse flit.toNat) 15)) ∧
    (∀ (d : DieId) (m : Fin 4),
        s.awake = true →
        s.dieIn d = true →
        s.moduleUp d m.val = true →
        (s.die d).goineVersion = some 0x0102 →
        exec (.goineRetrain d m true) s = .next
          ((s.dropLink d m.val).modDie d fun x => { x with rejoin := x.rejoin ++ [m.val] })) ∧
    (∀ (d : DieId) (m : Fin 4) (ok : Bool),
        s.awake = true →
        s.dieIn d = true →
        s.moduleUp d m.val = true →
        (ok = false ∨ (s.die d).goineVersion ≠ some 0x0102) →
        exec (.goineRetrain d m ok) s = .next
          (((s.dropLink d m.val).raise 0x4013 (dieHandle d) 0 (BitVec.ofNat 16 m.val)).checkHubModules d)) ∧
    (∀ (d : DieId) (m : Fin 4),
        s.awake = true →
        s.dieIn d = true →
        s.moduleUp d m.val = true →
        s.test.looping = false →
        exec (.goineModuleLoss d m) s = .next
          (((s.dropLink d m.val).raise 0x4013 (dieHandle d) 0 (BitVec.ofNat 16 m.val)).checkHubModules d))

/-- While the device is awake: KV_SPILL, when a spill is due, writes the parts of every entry of the gather list with
the token counter and steps the counter modulo 2 to the 32; KV_GATHER writes the granted entry of the gather unit and,
when nothing of the unit waits any more, asks for its next entry. PROCESS_DATA_FORWARD writes the first granted input
block of its segment. OUTPUT_COLLECT of an entry that is due copies its output rows to the pending image of its
segment, poisoned where they are, and applies its done add; one that came due late is counted and its done add carries
poison. (R259, R276, R277, R278, R479, R480, R481) -/
def Obligations.TokensAndTransfers : Prop :=
  ∀ (s : State),
    (s.awake = true →
        s.kv.spillDue = true →
        exec .kvSpill s = .next { s with
          lpddr := s.lpddr.writeParts (s.gatherEntries.flatMap (s.spillParts s.gatherHeader s.prog.tokenCounter))
          kv := { s.kv with spillDue := false }
          prog := { s.prog with tokenCounter := (s.prog.tokenCounter + 1) % 2 ^ 32 } }) ∧
    (∀ (a : AgentWrite),
        s.awake = true →
        (s.agents.find? (fun a => decide (a.holder = 0x102) && a.granted) = some a) →
        ((s.agentWrite a false).agents.any (fun b => decide (b.holder = 0x102)) = false) →
        exec .kvGather s = .next
          ((s.agentWrite a false).startGather.requestGather
            ((s.agentWrite a false).startGather.gatherEntries.length + 1 - (s.agentWrite a false).startGather.kv.entry))) ∧
    (∀ (seg : Fin 3) (a : AgentWrite),
        (s.agents.find? (fun a => decide (a.holder = 0x100) && decide (a.unit = seg.val) && a.granted) = some a) →
        exec (.processDataForward seg) s = .next (s.agentWrite a false)) ∧
    (∀ (entry : Fin 256) (m : OutMap) (t : TileId) (bs : List (Byte × Bool)) (s1 : State),
        (s.ecat.due.find? (fun p => decide (p.1 = entry.val)) = some (entry.val, false)) →
        OutMap.parse (s.octets (outMapKey entry.val)) = m →
        Handle.tile? m.tile = some t →
        s1 = { s with ecat := { s.ecat with due := s.ecat.due.erase (entry.val, false) } } →
        bs = s1.outputBytes t m.row m.length →
        exec (.outputCollect entry) s = .next
          ((({ s1 with ecat := { s1.ecat with badBeats := s1.ecat.badBeats.filter fun b => decide (b.1 ≠ (tileDie t).val) } } : State).modSegment
            m.segment fun g => g.collect m.offset bs).applyHubDone (.tile t (BitVec.ofNat 8 m.doneTs) m.doneValue) (bs.any Prod.snd))) ∧
    (∀ (entry : Fin 256) (m : OutMap) (t : TileId),
        (s.ecat.due.find? (fun p => decide (p.1 = entry.val)) = some (entry.val, true)) →
        OutMap.parse (s.octets (outMapKey entry.val)) = m →
        Handle.tile? m.tile = some t →
        exec (.outputCollect entry) s = .next
          ((({ s with ecat := { s.ecat with due := s.ecat.due.erase (entry.val, true) } } : State).modSegment m.segment fun g =>
            { g with lateCollections := g.lateCollections + 1 }).applyHubDone (.tile t (BitVec.ofNat 8 m.doneTs) m.doneValue) true))
end

