-- ==== Sys2Proof/Laws/Exec.lean ====
section
/-!
SUPPORT. exec of each command is its meaning: one lemma per constructor, so that no later proof unfolds exec.
-/
namespace Sys2Proof.Machine

variable (s : State)

@[simp] theorem exec_loop (t : TileId) (w : WordTag) (last : BitVec 13) (trips : BitVec 11) :
    exec (.loop t w last trips) s = execLoop t w last trips s := rfl
@[simp] theorem exec_var (t : TileId) (w : WordTag) (group : Fin 16) : exec (.var t w group) s = execVar t w group s := rfl
@[simp] theorem exec_pend (t : TileId) (w : WordTag) : exec (.pend t w) s = execPend t w s := rfl
@[simp] theorem exec_win (t : TileId) (w : WordTag) (latch : Fin 4) (reg : Fin 16) :
    exec (.win t w latch reg) s = execWin t w latch reg s := rfl
@[simp] theorem exec_hint (t : TileId) (w : WordTag) (phase : Byte) : exec (.hint t w phase) s = execHint t w phase s := rfl
@[simp] theorem exec_fend (t : TileId) (w : WordTag) : exec (.fend t w) s = execFend t w s := rfl
@[simp] theorem exec_nopWord (t : TileId) (bad : Bool) : exec (.nopWord t bad) s = execNopWord t bad s := rfl
@[simp] theorem exec_arrive (t : TileId) (w : WordTag) (sc : SynScope) (n : Byte) :
    exec (.arrive t w sc n) s = execArrive t w sc n s := rfl
@[simp] theorem exec_synAdd (t : TileId) (w : WordTag) (sc : SynScope) (n : Byte) (value : BitVec 14) :
    exec (.synAdd t w sc n value) s = execSynAdd t w sc n value s := rfl
@[simp] theorem exec_wait (t : TileId) (w : WordTag) (sc : SynScope) (n : Byte) (rel : Bool) (value : BitVec 14) :
    exec (.wait t w sc n rel value) s = execWait t w sc n rel value s := rfl
@[simp] theorem exec_reset (t : TileId) (w : WordTag) (sc : SynScope) (n : Byte) (value : BitVec 14) :
    exec (.reset t w sc n value) s = execReset t w sc n value s := rfl
@[simp] theorem exec_poison (t : TileId) (w : WordTag) (sc : SynScope) (n : Byte) :
    exec (.poison t w sc n) s = execPoison t w sc n s := rfl
@[simp] theorem exec_move (t : TileId) (w : WordTag) (desc : BitVec 12) (row : BitVec 13) (str : BitVec 6) (upset : List (Nat × BitVec 32)) :
    exec (.move t w desc row str upset) s = execMove t w desc row str upset s := rfl
@[simp] theorem exec_load (t : TileId) (w : WordTag) (desc : BitVec 12) (row : BitVec 13) (str : BitVec 6) :
    exec (.load t w desc row str) s = execLoad t w desc row str s := rfl
@[simp] theorem exec_store (t : TileId) (w : WordTag) (desc : BitVec 12) (row : BitVec 13) (str : BitVec 6) :
    exec (.store t w desc row str) s = execStore t w desc row str s := rfl
@[simp] theorem exec_hload (t : TileId) (w : WordTag) (desc : BitVec 12) (row : BitVec 13) (str : BitVec 6) :
    exec (.hload t w desc row str) s = execHload t w desc row str s := rfl
@[simp] theorem exec_hstore (t : TileId) (w : WordTag) (desc : BitVec 12) (row : BitVec 13) (str : BitVec 6) :
    exec (.hstore t w desc row str) s = execHstore t w desc row str s := rfl
@[simp] theorem exec_ticket (t : TileId) (w : WordTag) (desc : BitVec 12) (row : BitVec 13) (str : BitVec 6) :
    exec (.ticket t w desc row str) s = execTicket t w desc row str s := rfl
@[simp] theorem exec_rd (t : TileId) (w : WordTag) (row : BitVec 13) (str : BitVec 6) (vreg : Fin 32) (upset : BitVec 32) :
    exec (.rd t w row str vreg upset) s = execRd t w row str vreg upset s := rfl
@[simp] theorem exec_wr (t : TileId) (w : WordTag) (row : BitVec 13) (str : BitVec 6) (vreg : Fin 32) (st : Bool) (tag : Byte) (fmt : VFmt) (rs re : Bool) :
    exec (.wr t w row str vreg st tag fmt rs re) s = execWr t w row str vreg st tag fmt rs re s := rfl
@[simp] theorem exec_feed (t : TileId) (w : WordTag) (row : BitVec 13) (str : BitVec 6) (emask : BitVec 16) (part : Fin 16) (fidx : Byte) (upset : BitVec 32) :
    exec (.feed t w row str emask part fidx upset) s = execFeed t w row str emask part fidx upset s := rfl
@[simp] theorem exec_fill (t : TileId) (w : WordTag) (row : BitVec 13) (str : BitVec 6) (vreg : Fin 32) (countM1 : BitVec 13) :
    exec (.fill t w row str vreg countM1) s = execFill t w row str vreg countM1 s := rfl
@[simp] theorem exec_memCopy (t : TileId) (w : WordTag) (row : BitVec 13) (str : BitVec 6) (dst : BitVec 13) (countM1 : BitVec 13) (upset : List (Nat × BitVec 32)) :
    exec (.memCopy t w row str dst countM1 upset) s = execMemCopy t w row str dst countM1 upset s := rfl
@[simp] theorem exec_eval (t : TileId) (w : WordTag) (emask : BitVec 16) (block : BitVec 11) (pw : Fin 4) (matchSense clr bipolar : Bool) (str : BitVec 6) (badEntries : BitVec 16) :
    exec (.eval t w emask block pw matchSense clr bipolar str badEntries) s = execEval t w emask block pw matchSense clr bipolar str badEntries s := rfl
@[simp] theorem exec_engAdd (t : TileId) (w : WordTag) (emask : BitVec 16) (toRows : Bool) (addr : BitVec 13) (str : BitVec 6) :
    exec (.engAdd t w emask toRows addr str) s = execEngAdd t w emask toRows addr str s := rfl
@[simp] theorem exec_clear (t : TileId) (w : WordTag) (emask : BitVec 16) :
    exec (.clear t w emask) s = execClear t w emask s := rfl
@[simp] theorem exec_vecAdd (t : TileId) (w : WordTag) (f : VFmt) (vd va vb : Fin 32) :
    exec (.vecAdd t w f vd va vb) s = execVecAdd t w f vd va vb s := rfl
@[simp] theorem exec_sub (t : TileId) (w : WordTag) (f : VFmt) (vd va vb : Fin 32) :
    exec (.sub t w f vd va vb) s = execSub t w f vd va vb s := rfl
@[simp] theorem exec_mul (t : TileId) (w : WordTag) (f : VFmt) (vd va vb : Fin 32) :
    exec (.mul t w f vd va vb) s = execMul t w f vd va vb s := rfl
@[simp] theorem exec_fma (t : TileId) (w : WordTag) (f : VFmt) (vd va vb vc : Fin 32) :
    exec (.fma t w f vd va vb vc) s = execFma t w f vd va vb vc s := rfl
@[simp] theorem exec_max (t : TileId) (w : WordTag) (f : VFmt) (vd va vb : Fin 32) :
    exec (.max t w f vd va vb) s = execMax t w f vd va vb s := rfl
@[simp] theorem exec_min (t : TileId) (w : WordTag) (f : VFmt) (vd va vb : Fin 32) :
    exec (.min t w f vd va vb) s = execMin t w f vd va vb s := rfl
@[simp] theorem exec_abs (t : TileId) (w : WordTag) (f : VFmt) (vd va : Fin 32) :
    exec (.abs t w f vd va) s = execAbs t w f vd va s := rfl
@[simp] theorem exec_neg (t : TileId) (w : WordTag) (f : VFmt) (vd va : Fin 32) :
    exec (.neg t w f vd va) s = execNeg t w f vd va s := rfl
@[simp] theorem exec_wadd (t : TileId) (w : WordTag) (f : VFmt) (vd va vb : Fin 32) :
    exec (.wadd t w f vd va vb) s = execWadd t w f vd va vb s := rfl
@[simp] theorem exec_cmpeq (t : TileId) (w : WordTag) (f : VFmt) (vd va vb : Fin 32) :
    exec (.cmpeq t w f vd va vb) s = execCmpeq t w f vd va vb s := rfl
@[simp] theorem exec_cmplt (t : TileId) (w : WordTag) (f : VFmt) (vd va vb : Fin 32) :
    exec (.cmplt t w f vd va vb) s = execCmplt t w f vd va vb s := rfl
@[simp] theorem exec_cmple (t : TileId) (w : WordTag) (f : VFmt) (vd va vb : Fin 32) :
    exec (.cmple t w f vd va vb) s = execCmple t w f vd va vb s := rfl
@[simp] theorem exec_sel (t : TileId) (w : WordTag) (f : VFmt) (vd va vb vc : Fin 32) :
    exec (.sel t w f vd va vb vc) s = execSel t w f vd va vb vc s := rfl
@[simp] theorem exec_and (t : TileId) (w : WordTag) (f : VFmt) (vd va vb : Fin 32) :
    exec (.and t w f vd va vb) s = execAnd t w f vd va vb s := rfl
@[simp] theorem exec_or (t : TileId) (w : WordTag) (f : VFmt) (vd va vb : Fin 32) :
    exec (.or t w f vd va vb) s = execOr t w f vd va vb s := rfl
@[simp] theorem exec_xor (t : TileId) (w : WordTag) (f : VFmt) (vd va vb : Fin 32) :
    exec (.xor t w f vd va vb) s = execXor t w f vd va vb s := rfl
@[simp] theorem exec_shl (t : TileId) (w : WordTag) (f : VFmt) (vd va : Fin 32) (imm : Byte) :
    exec (.shl t w f vd va imm) s = execShl t w f vd va imm s := rfl
@[simp] theorem exec_shra (t : TileId) (w : WordTag) (f : VFmt) (vd va : Fin 32) (imm : Byte) :
    exec (.shra t w f vd va imm) s = execShra t w f vd va imm s := rfl
@[simp] theorem exec_cvt (t : TileId) (w : WordTag) (f : VFmt) (vd va : Fin 32) (dst : VFmt) (part : Fin 4) :
    exec (.cvt t w f vd va dst part) s = execCvt t w f vd va dst part s := rfl
@[simp] theorem exec_qnt (t : TileId) (w : WordTag) (f : VFmt) (vd va vb vc : Fin 32) (tag : Byte) (imm : Byte) (rs re : Bool) :
    exec (.qnt t w f vd va vb vc tag imm rs re) s = execQnt t w f vd va vb vc tag imm rs re s := rfl
@[simp] theorem exec_pack (t : TileId) (w : WordTag) (vd va vb : Fin 32) (nibbles : Bool) :
    exec (.pack t w vd va vb nibbles) s = execPack t w vd va vb nibbles s := rfl
@[simp] theorem exec_dq (t : TileId) (w : WordTag) (vd va vb vc : Fin 32) :
    exec (.dq t w vd va vb vc) s = execDq t w vd va vb vc s := rfl
@[simp] theorem exec_dqt (t : TileId) (w : WordTag) (vd va vb vc : Fin 32) (entry : Fin 32) :
    exec (.dqt t w vd va vb vc entry) s = execDqt t w vd va vb vc entry s := rfl
@[simp] theorem exec_vecRot (t : TileId) (w : WordTag) (f : VFmt) (vd va : Fin 32) (imm : Byte) :
    exec (.vecRot t w f vd va imm) s = execVecRot t w f vd va imm s := rfl
@[simp] theorem exec_macw (t : TileId) (w : WordTag) (f : VFmt) (vd va vb : Fin 32) (part : Fin 4) :
    exec (.macw t w f vd va vb part) s = execMacw t w f vd va vb part s := rfl
@[simp] theorem exec_rsum (t : TileId) (w : WordTag) (f : VFmt) (vd va : Fin 32) :
    exec (.rsum t w f vd va) s = execRsum t w f vd va s := rfl
@[simp] theorem exec_rmax (t : TileId) (w : WordTag) (f : VFmt) (vd va : Fin 32) :
    exec (.rmax t w f vd va) s = execRmax t w f vd va s := rfl
@[simp] theorem exec_rcp (t : TileId) (w : WordTag) (f : VFmt) (vd va : Fin 32) :
    exec (.rcp t w f vd va) s = execRcp t w f vd va s := rfl
@[simp] theorem exec_rsqrt (t : TileId) (w : WordTag) (f : VFmt) (vd va : Fin 32) :
    exec (.rsqrt t w f vd va) s = execRsqrt t w f vd va s := rfl
@[simp] theorem exec_exp (t : TileId) (w : WordTag) (f : VFmt) (vd va : Fin 32) :
    exec (.exp t w f vd va) s = execExp t w f vd va s := rfl
@[simp] theorem exec_stclr (t : TileId) (w : WordTag) (reg : Fin 16) : exec (.stclr t w reg) s = execStclr t w reg s := rfl
@[simp] theorem exec_strd (t : TileId) (w : WordTag) (vd : Fin 32) (reg : Fin 16) :
    exec (.strd t w vd reg) s = execStrd t w vd reg s := rfl
@[simp] theorem exec_stwr (t : TileId) (w : WordTag) (va : Fin 32) (reg : Fin 16) :
    exec (.stwr t w va reg) s = execStwr t w va reg s := rfl
@[simp] theorem exec_flrd (t : TileId) (w : WordTag) (vd : Fin 32) : exec (.flrd t w vd) s = execFlrd t w vd s := rfl
@[simp] theorem exec_flclr (t : TileId) (w : WordTag) : exec (.flclr t w) s = execFlclr t w s := rfl
@[simp] theorem exec_wscl (t : TileId) (w : WordTag) (vd : Fin 32) (latch : Fin 4) :
    exec (.wscl t w vd latch) s = execWscl t w vd latch s := rfl
@[simp] theorem exec_bcast (t : TileId) (w : WordTag) (f : VFmt) (vd va : Fin 32) (imm : Byte) :
    exec (.bcast t w f vd va imm) s = execBcast t w f vd va imm s := rfl
@[simp] theorem exec_resultLanding (t : TileId) : exec (.resultLanding t) s = execResultLanding t s := rfl
@[simp] theorem exec_arraySlot (e : EngineId) (c : TdcCapture) : exec (.arraySlot e c) s = execArraySlot e c s := rfl
@[simp] theorem exec_laneUpdate (e : EngineId) (badEntries : List Nat) :
    exec (.laneUpdate e badEntries) s = execLaneUpdate e badEntries s := rfl
@[simp] theorem exec_slotStart (d : DieId) (free : List (EngineId × TdcCapture)) (badWords : List TileId) :
    exec (.slotStart d free badWords) s = execSlotStart d free badWords s := rfl
@[simp] theorem exec_droopSample (channel : Fin 17) (milliVolts : Nat) :
    exec (.droopSample channel milliVolts) s = execDroopSample channel milliVolts s := rfl
@[simp] theorem exec_droopLimitRise (d : DieId) : exec (.droopLimitRise d) s = execDroopLimitRise d s := rfl
@[simp] theorem exec_frameStart (edge : EdgeInput) : exec (.frameStart edge) s = execFrameStart edge s := rfl
@[simp] theorem exec_commitDeadline : exec (.commitDeadline) s = execCommitDeadline s := rfl
@[simp] theorem exec_commitRecordsComplete (set : Fin 4) :
    exec (.commitRecordsComplete set) s = execCommitRecordsComplete set s := rfl
@[simp] theorem exec_globalUpdateArrival : exec (.globalUpdateArrival) s = execGlobalUpdateArrival s := rfl
@[simp] theorem exec_shadowUpdate (d : DieId) : exec (.shadowUpdate d) s = execShadowUpdate d s := rfl
@[simp] theorem exec_moveRowLanding (t : TileId) : exec (.moveRowLanding t) s = execMoveRowLanding t s := rfl
@[simp] theorem exec_narrowRowWrite (t : TileId) (transfer : Option Nat) :
    exec (.narrowRowWrite t transfer) s = execNarrowRowWrite t transfer s := rfl
@[simp] theorem exec_ticketRequestReceived (t : TileId) :
    exec (.ticketRequestReceived t) s = execTicketRequestReceived t s := rfl
@[simp] theorem exec_ticketGrant (t : TileId) : exec (.ticketGrant t) s = execTicketGrant t s := rfl
@[simp] theorem exec_transferDone (t : TileId) (k : Nat) (upset fixed : List Nat) :
    exec (.transferDone t k upset fixed) s = execTransferDone t k upset fixed s := rfl
@[simp] theorem exec_goineFlitDelivery (d : DieId) (m : Fin 4) (toHub late : Bool) (flit : BitVec 320) :
    exec (.goineFlitDelivery d m toHub late flit) s = execGoineFlitDelivery d m toHub late flit s := rfl
@[simp] theorem exec_kvSpill : exec (.kvSpill) s = execKvSpill s := rfl
@[simp] theorem exec_kvGather : exec (.kvGather) s = execKvGather s := rfl
@[simp] theorem exec_processDataForward (seg : Fin 3) : exec (.processDataForward seg) s = execProcessDataForward seg s := rfl
@[simp] theorem exec_outputCollect (entry : Fin 256) : exec (.outputCollect entry) s = execOutputCollect entry s := rfl
@[simp] theorem exec_hdNop (o : HdOrigin) : exec (.hdNop o) s = execHdNop o s := rfl
@[simp] theorem exec_gen (o : HdOrigin) (w : HdWidth) (d : Fin 32) (id : W32) (slot : Fin 4) :
    exec (.gen o w d id slot) s = execGen o w d id slot s := rfl
@[simp] theorem exec_bind (o : HdOrigin) (w : HdWidth) (d a b : Fin 32) : exec (.bind o w d a b) s = execBind o w d a b s := rfl
@[simp] theorem exec_not (o : HdOrigin) (w : HdWidth) (d a : Fin 32) : exec (.not o w d a) s = execNot o w d a s := rfl
@[simp] theorem exec_hdCopy (o : HdOrigin) (w : HdWidth) (d a : Fin 32) : exec (.hdCopy o w d a) s = execHdCopy o w d a s := rfl
@[simp] theorem exec_hdRot (o : HdOrigin) (w : HdWidth) (d a : Fin 32) (k : BitVec 13) :
    exec (.hdRot o w d a k) s = execHdRot o w d a k s := rfl
@[simp] theorem exec_car (o : HdOrigin) (w : HdWidth) (d a : Fin 32) (c : Fin 8) (inverse : Bool) :
    exec (.car o w d a c inverse) s = execCar o w d a c inverse s := rfl
@[simp] theorem exec_bclr (o : HdOrigin) (acc : Fin 4) : exec (.bclr o acc) s = execBclr o acc s := rfl
@[simp] theorem exec_badd (o : HdOrigin) (w : HdWidth) (acc : Fin 4) (a : Fin 32) (weight : Byte) (subtract : Bool) :
    exec (.badd o w acc a weight subtract) s = execBadd o w acc a weight subtract s := rfl
@[simp] theorem exec_baddx (o : HdOrigin) (w : HdWidth) (acc : Fin 4) (a b : Fin 32) (weight : Byte) (subtract : Bool) :
    exec (.baddx o w acc a b weight subtract) s = execBaddx o w acc a b weight subtract s := rfl
@[simp] theorem exec_bthr (o : HdOrigin) (w : HdWidth) (d : Fin 32) (acc : Fin 4) :
    exec (.bthr o w d acc) s = execBthr o w d acc s := rfl
@[simp] theorem exec_level (o : HdOrigin) (w : HdWidth) (d : Fin 32) (slot : Fin 16) (hbo : W32) :
    exec (.level o w d slot hbo) s = execLevel o w d slot hbo s := rfl
@[simp] theorem exec_record (o : HdOrigin) (w : HdWidth) (d : Fin 32) (acc : Fin 4) (hbo : W32) :
    exec (.record o w d acc hbo) s = execRecord o w d acc hbo s := rfl
@[simp] theorem exec_seq (o : HdOrigin) (w : HdWidth) (d a : Fin 32) (acc : Fin 4) (mM1 : Fin 16) (r : BitVec 13) (bundle : Bool) :
    exec (.seq o w d a acc mM1 r bundle) s = execSeq o w d a acc mM1 r bundle s := rfl
@[simp] theorem exec_loadv (o : HdOrigin) (w : HdWidth) (d : Fin 32) (hbo : W32) :
    exec (.loadv o w d hbo) s = execLoadv o w d hbo s := rfl
@[simp] theorem exec_storev (o : HdOrigin) (w : HdWidth) (a : Fin 32) (hbo : W32) :
    exec (.storev o w a hbo) s = execStorev o w a hbo s := rfl
@[simp] theorem exec_sign (o : HdOrigin) (w : HdWidth) (d : Fin 32) (fmt : SignFmt) (hbo : W32) :
    exec (.sign o w d fmt hbo) s = execSign o w d fmt hbo s := rfl
@[simp] theorem exec_outv (o : HdOrigin) (w : HdWidth) (a : Fin 32) (tile : Handle) (row : BitVec 13) (ts : Byte) (value : BitVec 14) :
    exec (.outv o w a tile row ts value) s = execOutv o w a tile row ts value s := rfl
@[simp] theorem exec_outvWrite : exec (.outvWrite) s = execOutvWrite s := rfl
@[simp] theorem exec_addg (o : HdOrigin) (ts : Byte) (value : BitVec 14) :
    exec (.addg o ts value) s = execAddg o ts value s := rfl
@[simp] theorem exec_waitg (o : HdOrigin) (ts : Byte) : exec (.waitg o ts) s = execWaitg o ts s := rfl
@[simp] theorem exec_listTrigger (n : Fin 16) : exec (.listTrigger n) s = execListTrigger n s := rfl
@[simp] theorem exec_listEnd (n : Fin 16) : exec (.listEnd n) s = execListEnd n s := rfl
@[simp] theorem exec_srch (o : HdOrigin) (w : HdWidth) (a d : Fin 32) (mask : W16) (cursor : Fin 16) (fill : Bool) (enables : BitVec 4) (bestKey : Bool) (dmin dmax : BitVec 14) (hbo : W32) :
    exec (.srch o w a d mask cursor fill enables bestKey dmin dmax hbo) s = execSrch o w a d mask cursor fill enables bestKey dmin dmax hbo s := rfl
@[simp] theorem exec_cstep (o : HdOrigin) (cursor : Fin 16) (append : Bool) (kM1 : Byte) (hbo : W32) :
    exec (.cstep o cursor append kM1 hbo) s = execCstep o cursor append kM1 hbo s := rfl
@[simp] theorem exec_glist (o : HdOrigin) : exec (.glist o) s = execGlist o s := rfl
@[simp] theorem exec_cfree (o : HdOrigin) (cursor : Fin 16) : exec (.cfree o cursor) s = execCfree o cursor s := rfl
@[simp] theorem exec_ins (o : HdOrigin) (w : HdWidth) (a : Fin 32) (bank : Fin 16) (hbo : W32) :
    exec (.ins o w a bank hbo) s = execIns o w a bank hbo s := rfl
@[simp] theorem exec_del (o : HdOrigin) (bank : Fin 16) (first : BitVec 14) (countM1 : BitVec 14) :
    exec (.del o bank first countM1) s = execDel o bank first countM1 s := rfl
@[simp] theorem exec_upd (o : HdOrigin) (w : HdWidth) (a : Fin 32) (bank : Fin 16) (withKey : Bool) (pos : BitVec 14) (hbo : W32) :
    exec (.upd o w a bank withKey pos hbo) s = execUpd o w a bank withKey pos hbo s := rfl
@[simp] theorem exec_rde (o : HdOrigin) (w : HdWidth) (bank : Fin 16) (pos : BitVec 14) (hbo : W32) :
    exec (.rde o w bank pos hbo) s = execRde o w bank pos hbo s := rfl
@[simp] theorem exec_dcoll (o : HdOrigin) (cursor : Fin 16) (fill : Bool) (enables : BitVec 4) (dmin dmax : BitVec 14) (hbo : W32) :
    exec (.dcoll o cursor fill enables dmin dmax hbo) s = execDcoll o cursor fill enables dmin dmax hbo s := rfl
@[simp] theorem exec_recallSlot (badWords : List (Fin 16 × Nat)) :
    exec (.recallSlot badWords) s = execRecallSlot badWords s := rfl
@[simp] theorem exec_searchComplete : exec (.searchComplete) s = execSearchComplete s := rfl
@[simp] theorem exec_parityScanWord (bank : Fin 16) (bad : Bool) :
    exec (.parityScanWord bank bad) s = execParityScanWord bank bad s := rfl
@[simp] theorem exec_carouselRebuildComplete (item : Fin 24) :
    exec (.carouselRebuildComplete item) s = execCarouselRebuildComplete item s := rfl
@[simp] theorem exec_csi2Packet (port : Fin 8) (p : CsiPacket) (overflow : Bool) :
    exec (.csi2Packet port p overflow) s = execCsi2Packet port p overflow s := rfl
@[simp] theorem exec_cameraFrameEnd (context : Fin 16) : exec (.cameraFrameEnd context) s = execCameraFrameEnd context s := rfl
@[simp] theorem exec_ingressDelivery : exec (.ingressDelivery) s = execIngressDelivery s := rfl
@[simp] theorem exec_cyclicFrameReturn (seg : Fin 3) (r : CyclicReturn) :
    exec (.cyclicFrameReturn seg r) s = execCyclicFrameReturn seg r s := rfl
@[simp] theorem exec_frameReturnTimeout (seg : Fin 3) : exec (.frameReturnTimeout seg) s = execFrameReturnTimeout seg s := rfl
@[simp] theorem exec_portLinkLoss (seg : Fin 3) : exec (.portLinkLoss seg) s = execPortLinkLoss seg s := rfl
@[simp] theorem exec_portLinkReturn (seg : Fin 3) : exec (.portLinkReturn seg) s = execPortLinkReturn seg s := rfl
@[simp] theorem exec_subdeviceOpRetry (seg : Fin 3) : exec (.subdeviceOpRetry seg) s = execSubdeviceOpRetry seg s := rfl
@[simp] theorem exec_acyclicFrame (seg : Fin 3) : exec (.acyclicFrame seg) s = execAcyclicFrame seg s := rfl
@[simp] theorem exec_dcReferenceLost : exec (.dcReferenceLost) s = execDcReferenceLost s := rfl
@[simp] theorem exec_sdoAccess (c : Channel) (a : ObjAddr) (op : SdoOp) :
    exec (.sdoAccess c a op) s = execSdoAccess c a op s := rfl
@[simp] theorem exec_foeWrite (c : Channel) (nameOk : Bool) (isRead : Bool) (image : Firmware) :
    exec (.foeWrite c nameOk isRead image) s = execFoeWrite c nameOk isRead image s := rfl
@[simp] theorem exec_p3LinkLoss : exec (.p3LinkLoss) s = execP3LinkLoss s := rfl
@[simp] theorem exec_rxpdoReceive (variant : Byte) (useVariant : Bool) (heartbeat : W16) :
    exec (.rxpdoReceive variant useVariant heartbeat) s = execRxpdoReceive variant useVariant heartbeat s := rfl
@[simp] theorem exec_emergencySend : exec (.emergencySend) s = execEmergencySend s := rfl
@[simp] theorem exec_estimatorTick (acts : List Activity) : exec (.estimatorTick acts) s = execEstimatorTick acts s := rfl
@[simp] theorem exec_currentLimitRise : exec (.currentLimitRise) s = execCurrentLimitRise s := rfl
@[simp] theorem exec_measurementSample (reports : List RegReport) :
    exec (.measurementSample reports) s = execMeasurementSample reports s := rfl
@[simp] theorem exec_energyBin : exec (.energyBin) s = execEnergyBin s := rfl
@[simp] theorem exec_measurementFail (channel : Fin 18) :
    exec (.measurementFail channel) s = execMeasurementFail channel s := rfl
@[simp] theorem exec_measurementRestore (channel : Fin 18) :
    exec (.measurementRestore channel) s = execMeasurementRestore channel s := rfl
@[simp] theorem exec_coefficientSave : exec (.coefficientSave) s = execCoefficientSave s := rfl
@[simp] theorem exec_phaseLimitCompute (d : DieId) (phase : Byte) :
    exec (.phaseLimitCompute d phase) s = execPhaseLimitCompute d phase s := rfl
@[simp] theorem exec_sensorSample (channel : Fin 17) (readings : List Int) :
    exec (.sensorSample channel readings) s = execSensorSample channel readings s := rfl
@[simp] theorem exec_thermalTrip (channel : Fin 17) : exec (.thermalTrip channel) s = execThermalTrip channel s := rfl
@[simp] theorem exec_driftScan (bank : Fin 8388608) : exec (.driftScan bank) s = execDriftScan bank s := rfl
@[simp] theorem exec_driftRefresh (bank : Fin 8388608) : exec (.driftRefresh bank) s = execDriftRefresh bank s := rfl
@[simp] theorem exec_periodicRecalibration (e : EngineId) :
    exec (.periodicRecalibration e) s = execPeriodicRecalibration e s := rfl
@[simp] theorem exec_calibrationComplete (e : EngineId) : exec (.calibrationComplete e) s = execCalibrationComplete e s := rfl
@[simp] theorem exec_strongmanMissLimit (e : EngineId) : exec (.strongmanMissLimit e) s = execStrongmanMissLimit e s := rfl
@[simp] theorem exec_bankWriteComplete (bank : Fin 8388608) (failed : List FailedCell) :
    exec (.bankWriteComplete bank failed) s = execBankWriteComplete bank failed s := rfl
@[simp] theorem exec_dieMarkOut (d : DieId) (cause : Nat) : exec (.dieMarkOut d cause) s = execDieMarkOut d cause s := rfl
@[simp] theorem exec_ringmasterRestart : exec (.ringmasterRestart) s = execRingmasterRestart s := rfl
@[simp] theorem exec_hubFailure (cause : Nat) : exec (.hubFailure cause) s = execHubFailure cause s := rfl
@[simp] theorem exec_firmwareTrialTimeout : exec (.firmwareTrialTimeout) s = execFirmwareTrialTimeout s := rfl
@[simp] theorem exec_bootSetPeriodicWrite : exec (.bootSetPeriodicWrite) s = execBootSetPeriodicWrite s := rfl
@[simp] theorem exec_tamperExcursion (sensor : TamperSensor) (time : Nat) :
    exec (.tamperExcursion sensor time) s = execTamperExcursion sensor time s := rfl
@[simp] theorem exec_authTimeout (c : Channel) : exec (.authTimeout c) s = execAuthTimeout c s := rfl
@[simp] theorem exec_authLockoutEnd (c : Channel) : exec (.authLockoutEnd c) s = execAuthLockoutEnd c s := rfl
@[simp] theorem exec_periodicSelfTest (ok : Bool) : exec (.periodicSelfTest ok) s = execPeriodicSelfTest ok s := rfl
@[simp] theorem exec_selfTestRetry (ok : Bool) : exec (.selfTestRetry ok) s = execSelfTestRetry ok s := rfl
@[simp] theorem exec_goineRetrain (d : DieId) (m : Fin 4) (ok : Bool) :
    exec (.goineRetrain d m ok) s = execGoineRetrain d m ok s := rfl
@[simp] theorem exec_scrub (word : Nat) (uncorrectable : Bool) :
    exec (.scrub word uncorrectable) s = execScrub word uncorrectable s := rfl
@[simp] theorem exec_requestRun (c : Channel) : exec (.requestRun c) s = execRequestRun c s := rfl
@[simp] theorem exec_requestIdle (c : Channel) : exec (.requestIdle c) s = execRequestIdle c s := rfl
@[simp] theorem exec_requestDoze (c : Channel) : exec (.requestDoze c) s = execRequestDoze c s := rfl
@[simp] theorem exec_framePeriodWrite (c : Channel) (t : W32) :
    exec (.framePeriodWrite c t) s = execFramePeriodWrite c t s := rfl
@[simp] theorem exec_firmwareImageWrite (c : Channel) (image : Firmware) :
    exec (.firmwareImageWrite c image) s = execFirmwareImageWrite c image s := rfl
@[simp] theorem exec_firmwareSwitch (c : Channel) : exec (.firmwareSwitch c) s = execFirmwareSwitch c s := rfl
@[simp] theorem exec_firmwareRevert (c : Channel) : exec (.firmwareRevert c) s = execFirmwareRevert c s := rfl
@[simp] theorem exec_firmwareConfirm (c : Channel) (value : Byte) :
    exec (.firmwareConfirm c value) s = execFirmwareConfirm c value s := rfl
@[simp] theorem exec_markOutDie (c : Channel) (dieField : Byte) :
    exec (.markOutDie c dieField) s = execMarkOutDie c dieField s := rfl
@[simp] theorem exec_clearOutMark (c : Channel) (dieField : Byte) :
    exec (.clearOutMark c dieField) s = execClearOutMark c dieField s := rfl
@[simp] theorem exec_groupDescriptorWrite (c : Channel) (desc : Option GroupDesc) :
    exec (.groupDescriptorWrite c desc) s = execGroupDescriptorWrite c desc s := rfl
@[simp] theorem exec_loadImage (c : Channel) (image : Image) (trailer : Trailer) :
    exec (.loadImage c image trailer) s = execLoadImage c image trailer s := rfl
@[simp] theorem exec_loadImageHold (c : Channel) (image : Image) (trailer : Trailer) :
    exec (.loadImageHold c image trailer) s = execLoadImageHold c image trailer s := rfl
@[simp] theorem exec_armHeldSet (c : Channel) (container : Option (BitVec 384)) :
    exec (.armHeldSet c container) s = execArmHeldSet c container s := rfl
@[simp] theorem exec_loadPlanSet (c : Channel) (plans : List Plan) (trailer : Trailer) :
    exec (.loadPlanSet c plans trailer) s = execLoadPlanSet c plans trailer s := rfl
@[simp] theorem exec_cancelFlipSet (c : Channel) (set : Fin 4) :
    exec (.cancelFlipSet c set) s = execCancelFlipSet c set s := rfl
@[simp] theorem exec_selectPlan (c : Channel) (dieField : Byte) :
    exec (.selectPlan c dieField) s = execSelectPlan c dieField s := rfl
@[simp] theorem exec_stuckMapRead (c : Channel) : exec (.stuckMapRead c) s = execStuckMapRead c s := rfl
@[simp] theorem exec_queueRecalibration (c : Channel) (h : Handle) :
    exec (.queueRecalibration c h) s = execQueueRecalibration c h s := rfl
@[simp] theorem exec_startConsolidation (c : Channel) (bank : Byte) (first count group : W16) :
    exec (.startConsolidation c bank first count group) s = execStartConsolidation c bank first count group s := rfl
@[simp] theorem exec_requestRespread (c : Channel) (bank : Byte) :
    exec (.requestRespread c bank) s = execRequestRespread c bank s := rfl
@[simp] theorem exec_listTableWrite (c : Channel) (n : Fin 16) (entry : List Byte) :
    exec (.listTableWrite c n entry) s = execListTableWrite c n entry s := rfl
@[simp] theorem exec_listWrite (c : Channel) (data : List Byte) : exec (.listWrite c data) s = execListWrite c data s := rfl
@[simp] theorem exec_deepGroupWrite (c : Channel) (entry : List Byte) :
    exec (.deepGroupWrite c entry) s = execDeepGroupWrite c entry s := rfl
@[simp] theorem exec_loadContainer (c : Channel) (k : Container) (trailer : Trailer) :
    exec (.loadContainer c k trailer) s = execLoadContainer c k trailer s := rfl
@[simp] theorem exec_switchStaged (c : Channel) : exec (.switchStaged c) s = execSwitchStaged c s := rfl
@[simp] theorem exec_switchRetained (c : Channel) : exec (.switchRetained c) s = execSwitchRetained c s := rfl
@[simp] theorem exec_authChallenge (c : Channel) : exec (.authChallenge c) s = execAuthChallenge c s := rfl
@[simp] theorem exec_authenticate (c : Channel) (role : Role) (ok : Bool) :
    exec (.authenticate c role ok) s = execAuthenticate c role ok s := rfl
@[simp] theorem exec_logout (c : Channel) (value : Byte) : exec (.logout c value) s = execLogout c value s := rfl
@[simp] theorem exec_sessionOpen (c : Channel) : exec (.sessionOpen c) s = execSessionOpen c s := rfl
@[simp] theorem exec_sessionCiphertext (c : Channel) (ciphertext : List Byte) :
    exec (.sessionCiphertext c ciphertext) s = execSessionCiphertext c ciphertext s := rfl
@[simp] theorem exec_imageKeyImport (c : Channel) (keyId : BitVec 128) (tagOk : Bool) :
    exec (.imageKeyImport c keyId tagOk) s = execImageKeyImport c keyId tagOk s := rfl
@[simp] theorem exec_imageKeyDelete (c : Channel) (keyId : BitVec 128) :
    exec (.imageKeyDelete c keyId) s = execImageKeyDelete c keyId s := rfl
@[simp] theorem exec_attestation (c : Channel) (nonce : BitVec 256) :
    exec (.attestation c nonce) s = execAttestation c nonce s := rfl
@[simp] theorem exec_selfTest (c : Channel) (ok : Bool) : exec (.selfTest c ok) s = execSelfTest c ok s := rfl
@[simp] theorem exec_clearLock (c : Channel) : exec (.clearLock c) s = execClearLock c s := rfl
@[simp] theorem exec_zeroise (c : Channel) : exec (.zeroise c) s = execZeroise c s := rfl
@[simp] theorem exec_raiseVersionFloor (c : Channel) : exec (.raiseVersionFloor c) s = execRaiseVersionFloor c s := rfl
@[simp] theorem exec_enrolment (c : Channel) (token : Token) : exec (.enrolment c token) s = execEnrolment c token s := rfl
@[simp] theorem exec_anchorWrite (c : Channel) (slot : AnchorSlot) (key : Option Nat) :
    exec (.anchorWrite c slot key) s = execAnchorWrite c slot key s := rfl
@[simp] theorem exec_revisionOffer (c : Channel) (rev : Byte) : exec (.revisionOffer c rev) s = execRevisionOffer c rev s := rfl
@[simp] theorem exec_loadEni (c : Channel) (seg : Fin 3) (eni : Eni) :
    exec (.loadEni c seg eni) s = execLoadEni c seg eni s := rfl
@[simp] theorem exec_segmentStart (seg : Fin 3) : exec (.segmentStart seg) s = execSegmentStart seg s := rfl
@[simp] theorem exec_loopbackStart (c : Channel) : exec (.loopbackStart c) s = execLoopbackStart c s := rfl
@[simp] theorem exec_loopbackStop (c : Channel) : exec (.loopbackStop c) s = execLoopbackStop c s := rfl
@[simp] theorem exec_loopbackLockTimeout : exec (.loopbackLockTimeout) s = execLoopbackLockTimeout s := rfl
@[simp] theorem exec_strongmanRun (c : Channel) (h : Handle) : exec (.strongmanRun c h) s = execStrongmanRun c h s := rfl
@[simp] theorem exec_eventEntryRead (c : Channel) : exec (.eventEntryRead c) s = execEventEntryRead c s := rfl
@[simp] theorem exec_eventAcknowledge (c : Channel) (sequence : W32) :
    exec (.eventAcknowledge c sequence) s = execEventAcknowledge c sequence s := rfl
@[simp] theorem exec_counterClear (c : Channel) (a : ObjAddr) (value : W32) :
    exec (.counterClear c a value) s = execCounterClear c a value s := rfl
@[simp] theorem exec_windowSelectorWrite (c : Channel) (window : Fin 16) (h : Handle) :
    exec (.windowSelectorWrite c window h) s = execWindowSelectorWrite c window h s := rfl
@[simp] theorem exec_statRegisterWrite (c : Channel) (window : Fin 16) (sub : Byte) (ctl clip : W32) :
    exec (.statRegisterWrite c window sub ctl clip) s = execStatRegisterWrite c window sub ctl clip s := rfl
@[simp] theorem exec_pcieEnable (offer : List Byte) : exec (.pcieEnable offer) s = execPcieEnable offer s := rfl
@[simp] theorem exec_pcieReset : exec (.pcieReset) s = execPcieReset s := rfl
@[simp] theorem exec_functionLevelReset : exec (.functionLevelReset) s = execFunctionLevelReset s := rfl
@[simp] theorem exec_mailboxDoorbell (tail : W32) : exec (.mailboxDoorbell tail) s = execMailboxDoorbell tail s := rfl
@[simp] theorem exec_hdDoorbell (tail : W32) : exec (.hdDoorbell tail) s = execHdDoorbell tail s := rfl
@[simp] theorem exec_hintDoorbell (tail : W32) : exec (.hintDoorbell tail) s = execHintDoorbell tail s := rfl
@[simp] theorem exec_eventDoorbell (head : W32) : exec (.eventDoorbell head) s = execEventDoorbell head s := rfl
@[simp] theorem exec_eventQueueCopy : exec (.eventQueueCopy) s = execEventQueueCopy s := rfl
@[simp] theorem exec_bar2Access (write : Bool) (addr : Nat) (data : List Byte) :
    exec (.bar2Access write addr data) s = execBar2Access write addr data s := rfl
@[simp] theorem exec_bar0WindowWrite (offset : Nat) (data : List Byte) :
    exec (.bar0WindowWrite offset data) s = execBar0WindowWrite offset data s := rfl
@[simp] theorem exec_perstNAssert : exec (.perstNAssert) s = execPerstNAssert s := rfl
@[simp] theorem exec_pcieLinkLoss (downgrade : Bool) : exec (.pcieLinkLoss downgrade) s = execPcieLinkLoss downgrade s := rfl
@[simp] theorem exec_porstNAssert : exec (.porstNAssert) s = execPorstNAssert s := rfl
@[simp] theorem exec_coldStart (f : StartFindings) : exec (.coldStart f) s = execColdStart f s := rfl
@[simp] theorem exec_bootSetRestore : exec (.bootSetRestore) s = execBootSetRestore s := rfl
@[simp] theorem exec_vinUndervoltage : exec (.vinUndervoltage) s = execVinUndervoltage s := rfl
@[simp] theorem exec_wakeNEdge : exec (.wakeNEdge) s = execWakeNEdge s := rfl
@[simp] theorem exec_dozeWake : exec (.dozeWake) s = execDozeWake s := rfl
@[simp] theorem exec_extest (testEn : Bool) : exec (.extest testEn) s = execExtest testEn s := rfl
@[simp] theorem exec_idcode : exec (.idcode) s = execIdcode s := rfl
@[simp] theorem exec_samplePreload (testEn : Bool) : exec (.samplePreload testEn) s = execSamplePreload testEn s := rfl
@[simp] theorem exec_clamp (testEn : Bool) : exec (.clamp testEn) s = execClamp testEn s := rfl
@[simp] theorem exec_highz (testEn : Bool) : exec (.highz testEn) s = execHighz testEn s := rfl
@[simp] theorem exec_wsel (testEn : Bool) (dieField : Byte) (answers : Bool) :
    exec (.wsel testEn dieField answers) s = execWsel testEn dieField answers s := rfl
@[simp] theorem exec_mbist (testEn : Bool) (mask : BitVec 17) : exec (.mbist testEn mask) s = execMbist testEn mask s := rfl
@[simp] theorem exec_mbistComplete (failBits : Nat) : exec (.mbistComplete failBits) s = execMbistComplete failBits s := rfl
@[simp] theorem exec_bypass : exec (.bypass) s = execBypass s := rfl
@[simp] theorem exec_ringmasterRestartComplete : exec (.ringmasterRestartComplete) s = execRingmasterRestartComplete s := rfl
@[simp] theorem exec_perstNRelease : exec (.perstNRelease) s = execPerstNRelease s := rfl
@[simp] theorem exec_pcieLinkUp (rate width : Nat) : exec (.pcieLinkUp rate width) s = execPcieLinkUp rate width s := rfl
@[simp] theorem exec_goineModuleLoss (d : DieId) (m : Fin 4) : exec (.goineModuleLoss d m) s = execGoineModuleLoss d m s := rfl
@[simp] theorem exec_p3StateTransition (request : AlState) :
    exec (.p3StateTransition request) s = execP3StateTransition request s := rfl
@[simp] theorem exec_completionQueueDoorbell (hd : Bool) (head : W32) :
    exec (.completionQueueDoorbell hd head) s = execCompletionQueueDoorbell hd head s := rfl
@[simp] theorem exec_vinApply : exec (.vinApply) s = execVinApply s := rfl
@[simp] theorem exec_excursionLasting100Ms (sensor : TamperSensor) :
    exec (.excursionLasting100Ms sensor) s = execExcursionLasting100Ms sensor s := rfl

end Sys2Proof.Machine
end

