-- ==== Sys2Proof/Laws/SMap.lean ====
section
/-!
SUPPORT. Laws of the sparse maps and of the byte memories: a read after a write, and the canonical form that every write
keeps (Memory.wf).
-/
namespace Sys2Proof.Machine

/-! ### Read after write -/

@[simp] theorem mget_nil {α : Type} (d : α) (a : Nat) : mget d [] a = d := rfl

@[simp] theorem mget_mput_same {α : Type} (d : α) (m : SMap α) (a : Nat) (v : α) : mget d (mput m a v) a = v := by
  induction m with
  | nil => simp [mput, mget]
  | cons p m ih =>
    obtain ⟨k, x⟩ := p
    unfold mput
    split
    · simp [mget]
    · split
      · simp [mget]
      · rename_i h; simp [mget, h, ih]

@[simp] theorem mget_mput_other {α : Type} (d : α) (m : SMap α) (a b : Nat) (v : α) (h : b ≠ a) :
    mget d (mput m a v) b = mget d m b := by
  induction m with
  | nil => simp [mput, mget, h]
  | cons p m ih =>
    obtain ⟨k, x⟩ := p
    unfold mput
    split
    · simp [mget, h]
    · split
      · rename_i e; subst e; simp [mget, h]
      · simp only [mget, ih]

theorem mget_mdel_same {α : Type} (d : α) (m : SMap α) (a : Nat) : mget d (mdel m a) a = d := by
  induction m with
  | nil => rfl
  | cons p m ih =>
    obtain ⟨k, x⟩ := p
    unfold mdel
    split
    · exact ih
    · rename_i h; simp [mget, h, ih]

theorem mget_mdel_other {α : Type} (d : α) (m : SMap α) (a b : Nat) (h : b ≠ a) : mget d (mdel m a) b = mget d m b := by
  induction m with
  | nil => rfl
  | cons p m ih =>
    obtain ⟨k, x⟩ := p
    unfold mdel
    split
    · rename_i e; subst e; simp [mget, h, ih]
    · simp only [mget, ih]

@[simp] theorem mget_mset_same {α : Type} [DecidableEq α] (d : α) (m : SMap α) (a : Nat) (v : α) :
    mget d (mset d m a v) a = v := by
  unfold mset
  split
  · rename_i h; rw [h]; exact mget_mdel_same d m a
  · exact mget_mput_same d m a v

@[simp] theorem mget_mset_other {α : Type} [DecidableEq α] (d : α) (m : SMap α) (a b : Nat) (v : α) (h : b ≠ a) :
    mget d (mset d m a v) b = mget d m b := by
  unfold mset
  split
  · exact mget_mdel_other d m a b h
  · exact mget_mput_other d m a b v h

theorem mget_mset {α : Type} [DecidableEq α] (d : α) (m : SMap α) (a b : Nat) (v : α) :
    mget d (mset d m a v) b = if b = a then v else mget d m b := by
  split
  · rename_i h; rw [h, mget_mset_same]
  · rename_i h; exact mget_mset_other d m a b v h

/-- A write of many values leaves the addresses outside them alone. -/
@[simp] theorem mget_msetMany_other {α : Type} [DecidableEq α] (d : α) (vs : List α) (m : SMap α) (a b : Nat)
    (h : b < a ∨ a + vs.length ≤ b) : mget d (msetMany d m a vs) b = mget d m b := by
  induction vs generalizing m a with
  | nil => rfl
  | cons v vs ih =>
    simp only [List.length_cons] at h
    unfold msetMany
    rw [ih _ _ (by omega), mget_mset_other _ _ _ _ _ (by omega)]

/-- Inside them it gives the values written. -/
@[simp] theorem mget_msetMany_inside {α : Type} [DecidableEq α] (d : α) (vs : List α) (m : SMap α) (a k : Nat)
    (h : k < vs.length) : mget d (msetMany d m a vs) (a + k) = vs[k] := by
  induction vs generalizing m a k with
  | nil => simp at h
  | cons v vs ih =>
    unfold msetMany
    cases k with
    | zero => rw [mget_msetMany_other _ _ _ _ _ (by omega)]; simp
    | succ k =>
      have := ih (mset d m a v) (a + 1) k (by simpa using h)
      rw [show a + (k + 1) = a + 1 + k by omega, this]; rfl

@[simp] theorem mgetMany_length {α : Type} (d : α) (m : SMap α) (a n : Nat) : (mgetMany d m a n).length = n := by
  induction n generalizing a with
  | zero => rfl
  | succ n ih => simp [mgetMany, ih]

/-- A write of a byte memory leaves every byte outside it as it was. -/
@[simp] theorem ByteMem.write_cells_other (m : ByteMem) (a : Nat) (bs : List Byte) (b : Nat) (h : b < a ∨ a + bs.length ≤ b) :
    mget 0 (m.write a bs).cells b = mget 0 m.cells b := mget_msetMany_other 0 bs m.cells a b h

@[simp] theorem ByteMem.write_cells_inside (m : ByteMem) (a : Nat) (bs : List Byte) (k : Nat) (h : k < bs.length) :
    mget 0 (m.write a bs).cells (a + k) = bs[k] := mget_msetMany_inside 0 bs m.cells a k h

/-! ### The canonical form -/

theorem wfFrom_mput {α : Type} [DecidableEq α] (d : α) (m : SMap α) (lo : Option Nat) (a : Nat) (v : α) (hv : v ≠ d)
    (hl : ∀ l, lo = some l → l < a) (h : SMap.wfFrom d lo m = true) : SMap.wfFrom d lo (mput m a v) = true := by
  induction m generalizing lo with
  | nil => cases lo <;> simp_all [mput, SMap.wfFrom]
  | cons p m ih =>
    obtain ⟨k, x⟩ := p
    simp only [SMap.wfFrom, Bool.and_eq_true] at h
    obtain ⟨⟨h1, h2⟩, h3⟩ := h
    simp only [mput]
    split
    · cases lo <;> simp_all [SMap.wfFrom]
    · split
      · subst_vars; cases lo <;> simp_all [SMap.wfFrom]
      · simp only [SMap.wfFrom, Bool.and_eq_true]
        refine ⟨⟨h1, h2⟩, ih (some k) (fun l hl => by injection hl; omega) h3⟩

theorem wfFrom_weaken {α : Type} [DecidableEq α] (d : α) (m : SMap α) (k : Nat) (lo : Option Nat) (hk : ∀ l, lo = some l → l ≤ k)
    (h : SMap.wfFrom d (some k) m = true) : SMap.wfFrom d lo m = true := by
  cases m with
  | nil => rfl
  | cons p m =>
    obtain ⟨j, x⟩ := p
    cases lo with
    | none => simp_all [SMap.wfFrom]
    | some l =>
      have := hk l rfl
      simp only [SMap.wfFrom, Bool.and_eq_true, decide_eq_true_eq] at h ⊢
      exact ⟨⟨by omega, h.1.2⟩, h.2⟩

theorem wfFrom_mdel {α : Type} [DecidableEq α] (d : α) (m : SMap α) (lo : Option Nat) (a : Nat)
    (h : SMap.wfFrom d lo m = true) : SMap.wfFrom d lo (mdel m a) = true := by
  induction m generalizing lo with
  | nil => rfl
  | cons p m ih =>
    obtain ⟨k, x⟩ := p
    simp only [SMap.wfFrom, Bool.and_eq_true] at h
    obtain ⟨⟨h1, h2⟩, h3⟩ := h
    simp only [mdel]
    split
    · refine ih lo (wfFrom_weaken d m k lo (fun l hl => ?_) h3)
      subst hl
      simp at h1
      omega
    · simp only [SMap.wfFrom, Bool.and_eq_true]
      exact ⟨⟨h1, h2⟩, ih (some k) h3⟩

@[simp] theorem wf_mset {α : Type} [DecidableEq α] (d : α) (m : SMap α) (a : Nat) (v : α) (h : SMap.wf d m = true) :
    SMap.wf d (mset d m a v) = true := by
  unfold mset SMap.wf
  split
  · exact wfFrom_mdel d m none a h
  · exact wfFrom_mput d m none a v (by assumption) (by simp) h

@[simp] theorem wf_msetMany {α : Type} [DecidableEq α] (d : α) (m : SMap α) (a : Nat) (vs : List α) (h : SMap.wf d m = true) :
    SMap.wf d (msetMany d m a vs) = true := by
  induction vs generalizing m a with
  | nil => exact h
  | cons v vs ih => exact ih _ _ (wf_mset d m a v h)

theorem wf_foldl {α β : Type} (P : β → Prop) (f : β → α → β) (hf : ∀ m x, P m → P (f m x)) (xs : List α) (m : β) (h : P m) :
    P (xs.foldl f m) := by
  induction xs generalizing m with
  | nil => exact h
  | cons x xs ih => exact ih _ (hf _ _ h)

@[simp] theorem ByteMem.wf_empty : ByteMem.wf ⟨[], []⟩ = true := rfl

@[simp] theorem ByteMem.wf_setPoison (m : ByteMem) (a : Nat) (p : Bool) (h : ByteMem.wf m = true) :
    ByteMem.wf (m.setPoison a p) = true := by
  simp only [ByteMem.wf, ByteMem.setPoison, Bool.and_eq_true] at h ⊢
  exact ⟨h.1, wf_mset _ _ _ _ h.2⟩

@[simp] theorem ByteMem.wf_write (m : ByteMem) (a : Nat) (bs : List Byte) (h : ByteMem.wf m = true) :
    ByteMem.wf (m.write a bs) = true := by
  simp only [ByteMem.wf, ByteMem.write, Bool.and_eq_true] at h ⊢
  refine ⟨wf_msetMany _ _ _ _ h.1, ?_⟩
  exact wf_foldl (fun p => SMap.wf false p = true) _ (fun m x hm => wf_mset _ _ _ _ hm) _ _ h.2

@[simp] theorem ByteMem.wf_foldl {α : Type} (f : ByteMem → α → ByteMem)
    (hf : ∀ m x, ByteMem.wf m = true → ByteMem.wf (f m x) = true) (xs : List α) (m : ByteMem) (h : ByteMem.wf m = true) :
    ByteMem.wf (xs.foldl f m) = true := Machine.wf_foldl (fun m => ByteMem.wf m = true) f hf xs m h

@[simp] theorem ByteMem.wf_taint (m : ByteMem) (a n : Nat) (h : ByteMem.wf m = true) : ByteMem.wf (m.taint a n) = true := by
  unfold ByteMem.taint
  exact ByteMem.wf_foldl _ (fun m x hm => ByteMem.wf_setPoison _ _ _ hm) _ _ h

@[simp] theorem ByteMem.wf_writeRow (m : ByteMem) (a : Nat) (r : Row) (h : ByteMem.wf m = true) :
    ByteMem.wf (m.writeRow a r) = true := by
  unfold ByteMem.writeRow
  exact ByteMem.wf_foldl _ (fun m x hm => ByteMem.wf_setPoison _ _ _ hm) _ _ (ByteMem.wf_write _ _ _ h)

@[simp] theorem ByteMem.wf_writeStream (m : ByteMem) (a : Nat) (bs : List (Byte × Bool)) (h : ByteMem.wf m = true) :
    ByteMem.wf (m.writeStream a bs) = true := by
  unfold ByteMem.writeStream
  exact ByteMem.wf_foldl _ (fun m x hm => ByteMem.wf_setPoison _ _ _ hm) _ _ (ByteMem.wf_write _ _ _ h)

@[simp] theorem ByteMem.wf_ite {c : Prop} [Decidable c] {x y : ByteMem} (hx : c → ByteMem.wf x = true)
    (hy : ¬c → ByteMem.wf y = true) : ByteMem.wf (if c then x else y) = true := by split <;> simp_all

/-! ### What a write of a byte memory leaves in its bytes and in its words -/

/-- Poison of words changes no byte. -/
@[simp] theorem ByteMem.taint_cells (m : ByteMem) (a n : Nat) : (m.taint a n).cells = m.cells := by
  unfold ByteMem.taint
  suffices h : ∀ (ks : List Nat) (m : ByteMem), (ks.foldl (fun m k => m.setPoison (a + k) true) m).cells = m.cells from h _ _
  intro ks
  induction ks with
  | nil => intro m; rfl
  | cons k ks ih => intro m; rw [List.foldl_cons, ih]; rfl

/-- Words after a run of sets: the words of the run hold the value, every other word what it held. -/
theorem mget_foldl_mset (v : Bool) (w0 c : Nat) (p : SMap Bool) (q : Nat) :
    mget false ((List.range c).foldl (fun p k => mset false p (w0 + k) v) p) q =
      if w0 ≤ q ∧ q < w0 + c then v else mget false p q := by
  induction c with
  | zero => rw [if_neg (by omega)]; rfl
  | succ c ih =>
    rw [List.range_succ, List.foldl_append, List.foldl_cons, List.foldl_nil, mget_mset, ih]
    split <;> (repeat' split) <;> first | rfl | omega

/-- Poison of a run of bytes: the words that it touches are poisoned, every other word as it was. -/
theorem ByteMem.taint_poison (m : ByteMem) (a n q : Nat) :
    mget false (m.taint a n).poison q = if 0 < n ∧ a / 8 ≤ q ∧ q ≤ (a + n - 1) / 8 then true else mget false m.poison q := by
  unfold ByteMem.taint
  induction n with
  | zero => simp
  | succ n ih =>
    rw [List.range_succ, List.foldl_append, List.foldl_cons, List.foldl_nil]
    unfold ByteMem.setPoison at *
    rw [mget_mset, ih]
    split <;> (repeat' split) <;> first | rfl | omega

/-- Whole words written without poison are clean, every other word as it was. -/
theorem ByteMem.write_poison (m : ByteMem) (a : Nat) (bs : List Byte) (q : Nat) (ha : a % 8 = 0) (hn : bs.length % 8 = 0) :
    mget false (m.write a bs).poison q =
      if a / 8 ≤ q ∧ q < a / 8 + bs.length / 8 then false else mget false m.poison q := by
  unfold ByteMem.write
  simp only [mget_foldl_mset]
  have h1 : (a + 7) / 8 = a / 8 := by omega
  have h2 : (a + bs.length) / 8 - (a + 7) / 8 = bs.length / 8 := by omega
  rw [h1] at *; rw [h2]

theorem leBytes_length (n x : Nat) : (leBytes n x).length = n := by simp [leBytes, unpackNat]
theorem leBytes_get (n x k : Nat) (h : k < (leBytes n x).length) : (leBytes n x)[k] = BitVec.ofNat 8 (x / 256 ^ k) := by
  simp only [leBytes, unpackNat, List.getElem_map, List.getElem_range, elemAt, bitsOf, Nat.pow_mul]
  apply BitVec.eq_of_toNat_eq
  simp

end Sys2Proof.Machine
end

