-- ==== Sys2Proof/Laws/State.lean ====
section
/-!
SUPPORT. Laws of the state: what each setter of a unit changes and what it leaves, and what each reader gives after it. Later
proofs cite these and unfold no record update.
-/
namespace Sys2Proof.Machine

variable (s : State)

/-! ### setTile -/

@[simp] theorem State.setTile_pending (t : TileId) (x : Tile) : (s.setTile t x).pending = s.pending := rfl
@[simp] theorem State.setTile_now (t : TileId) (x : Tile) : (s.setTile t x).now = s.now := rfl
@[simp] theorem State.setTile_power (t : TileId) (x : Tile) : (s.setTile t x).power = s.power := rfl
@[simp] theorem State.setTile_toward (t : TileId) (x : Tile) : (s.setTile t x).toward = s.toward := rfl
@[simp] theorem State.setTile_vin (t : TileId) (x : Tile) : (s.setTile t x).vin = s.vin := rfl
@[simp] theorem State.setTile_porst (t : TileId) (x : Tile) : (s.setTile t x).porst = s.porst := rfl
@[simp] theorem State.setTile_engines (t : TileId) (x : Tile) : (s.setTile t x).engines = s.engines := rfl
@[simp] theorem State.setTile_banks (t : TileId) (x : Tile) : (s.setTile t x).banks = s.banks := rfl
@[simp] theorem State.setTile_dies (t : TileId) (x : Tile) : (s.setTile t x).dies = s.dies := rfl
@[simp] theorem State.setTile_globals (t : TileId) (x : Tile) : (s.setTile t x).globals = s.globals := rfl
@[simp] theorem State.setTile_fabric (t : TileId) (x : Tile) : (s.setTile t x).fabric = s.fabric := rfl
@[simp] theorem State.setTile_agents (t : TileId) (x : Tile) : (s.setTile t x).agents = s.agents := rfl
@[simp] theorem State.setTile_hub (t : TileId) (x : Tile) : (s.setTile t x).hub = s.hub := rfl
@[simp] theorem State.setTile_lpddr (t : TileId) (x : Tile) : (s.setTile t x).lpddr = s.lpddr := rfl
@[simp] theorem State.setTile_lpddrFixed (t : TileId) (x : Tile) : (s.setTile t x).lpddrFixed = s.lpddrFixed := rfl
@[simp] theorem State.setTile_frame (t : TileId) (x : Tile) : (s.setTile t x).frame = s.frame := rfl
@[simp] theorem State.setTile_weights (t : TileId) (x : Tile) : (s.setTile t x).weights = s.weights := rfl
@[simp] theorem State.setTile_prog (t : TileId) (x : Tile) : (s.setTile t x).prog = s.prog := rfl
@[simp] theorem State.setTile_hd (t : TileId) (x : Tile) : (s.setTile t x).hd = s.hd := rfl
@[simp] theorem State.setTile_recall (t : TileId) (x : Tile) : (s.setTile t x).rcl = s.rcl := rfl
@[simp] theorem State.setTile_kv (t : TileId) (x : Tile) : (s.setTile t x).kv = s.kv := rfl
@[simp] theorem State.setTile_ingress (t : TileId) (x : Tile) : (s.setTile t x).ingress = s.ingress := rfl
@[simp] theorem State.setTile_ecat (t : TileId) (x : Tile) : (s.setTile t x).ecat = s.ecat := rfl
@[simp] theorem State.setTile_pwr (t : TileId) (x : Tile) : (s.setTile t x).pwr = s.pwr := rfl
@[simp] theorem State.setTile_svc (t : TileId) (x : Tile) : (s.setTile t x).svc = s.svc := rfl
@[simp] theorem State.setTile_sec (t : TileId) (x : Tile) : (s.setTile t x).sec = s.sec := rfl
@[simp] theorem State.setTile_pcie (t : TileId) (x : Tile) : (s.setTile t x).pcie = s.pcie := rfl
@[simp] theorem State.setTile_dict (t : TileId) (x : Tile) : (s.setTile t x).dict = s.dict := rfl
@[simp] theorem State.setTile_test (t : TileId) (x : Tile) : (s.setTile t x).test = s.test := rfl
@[simp] theorem State.setTile_free (t : TileId) (x : Tile) : (s.setTile t x).free = s.free := rfl

/-! ### modTile -/

@[simp] theorem State.modTile_pending (t : TileId) (f : Tile → Tile) : (s.modTile t f).pending = s.pending := rfl
@[simp] theorem State.modTile_now (t : TileId) (f : Tile → Tile) : (s.modTile t f).now = s.now := rfl
@[simp] theorem State.modTile_power (t : TileId) (f : Tile → Tile) : (s.modTile t f).power = s.power := rfl
@[simp] theorem State.modTile_toward (t : TileId) (f : Tile → Tile) : (s.modTile t f).toward = s.toward := rfl
@[simp] theorem State.modTile_vin (t : TileId) (f : Tile → Tile) : (s.modTile t f).vin = s.vin := rfl
@[simp] theorem State.modTile_porst (t : TileId) (f : Tile → Tile) : (s.modTile t f).porst = s.porst := rfl
@[simp] theorem State.modTile_engines (t : TileId) (f : Tile → Tile) : (s.modTile t f).engines = s.engines := rfl
@[simp] theorem State.modTile_banks (t : TileId) (f : Tile → Tile) : (s.modTile t f).banks = s.banks := rfl
@[simp] theorem State.modTile_dies (t : TileId) (f : Tile → Tile) : (s.modTile t f).dies = s.dies := rfl
@[simp] theorem State.modTile_globals (t : TileId) (f : Tile → Tile) : (s.modTile t f).globals = s.globals := rfl
@[simp] theorem State.modTile_fabric (t : TileId) (f : Tile → Tile) : (s.modTile t f).fabric = s.fabric := rfl
@[simp] theorem State.modTile_agents (t : TileId) (f : Tile → Tile) : (s.modTile t f).agents = s.agents := rfl
@[simp] theorem State.modTile_hub (t : TileId) (f : Tile → Tile) : (s.modTile t f).hub = s.hub := rfl
@[simp] theorem State.modTile_lpddr (t : TileId) (f : Tile → Tile) : (s.modTile t f).lpddr = s.lpddr := rfl
@[simp] theorem State.modTile_lpddrFixed (t : TileId) (f : Tile → Tile) : (s.modTile t f).lpddrFixed = s.lpddrFixed := rfl
@[simp] theorem State.modTile_frame (t : TileId) (f : Tile → Tile) : (s.modTile t f).frame = s.frame := rfl
@[simp] theorem State.modTile_weights (t : TileId) (f : Tile → Tile) : (s.modTile t f).weights = s.weights := rfl
@[simp] theorem State.modTile_prog (t : TileId) (f : Tile → Tile) : (s.modTile t f).prog = s.prog := rfl
@[simp] theorem State.modTile_hd (t : TileId) (f : Tile → Tile) : (s.modTile t f).hd = s.hd := rfl
@[simp] theorem State.modTile_recall (t : TileId) (f : Tile → Tile) : (s.modTile t f).rcl = s.rcl := rfl
@[simp] theorem State.modTile_kv (t : TileId) (f : Tile → Tile) : (s.modTile t f).kv = s.kv := rfl
@[simp] theorem State.modTile_ingress (t : TileId) (f : Tile → Tile) : (s.modTile t f).ingress = s.ingress := rfl
@[simp] theorem State.modTile_ecat (t : TileId) (f : Tile → Tile) : (s.modTile t f).ecat = s.ecat := rfl
@[simp] theorem State.modTile_pwr (t : TileId) (f : Tile → Tile) : (s.modTile t f).pwr = s.pwr := rfl
@[simp] theorem State.modTile_svc (t : TileId) (f : Tile → Tile) : (s.modTile t f).svc = s.svc := rfl
@[simp] theorem State.modTile_sec (t : TileId) (f : Tile → Tile) : (s.modTile t f).sec = s.sec := rfl
@[simp] theorem State.modTile_pcie (t : TileId) (f : Tile → Tile) : (s.modTile t f).pcie = s.pcie := rfl
@[simp] theorem State.modTile_dict (t : TileId) (f : Tile → Tile) : (s.modTile t f).dict = s.dict := rfl
@[simp] theorem State.modTile_test (t : TileId) (f : Tile → Tile) : (s.modTile t f).test = s.test := rfl
@[simp] theorem State.modTile_free (t : TileId) (f : Tile → Tile) : (s.modTile t f).free = s.free := rfl

/-! ### setEngine -/

@[simp] theorem State.setEngine_pending (e : EngineId) (x : Engine) : (s.setEngine e x).pending = s.pending := rfl
@[simp] theorem State.setEngine_now (e : EngineId) (x : Engine) : (s.setEngine e x).now = s.now := rfl
@[simp] theorem State.setEngine_power (e : EngineId) (x : Engine) : (s.setEngine e x).power = s.power := rfl
@[simp] theorem State.setEngine_toward (e : EngineId) (x : Engine) : (s.setEngine e x).toward = s.toward := rfl
@[simp] theorem State.setEngine_vin (e : EngineId) (x : Engine) : (s.setEngine e x).vin = s.vin := rfl
@[simp] theorem State.setEngine_porst (e : EngineId) (x : Engine) : (s.setEngine e x).porst = s.porst := rfl
@[simp] theorem State.setEngine_tiles (e : EngineId) (x : Engine) : (s.setEngine e x).tiles = s.tiles := rfl
@[simp] theorem State.setEngine_banks (e : EngineId) (x : Engine) : (s.setEngine e x).banks = s.banks := rfl
@[simp] theorem State.setEngine_dies (e : EngineId) (x : Engine) : (s.setEngine e x).dies = s.dies := rfl
@[simp] theorem State.setEngine_globals (e : EngineId) (x : Engine) : (s.setEngine e x).globals = s.globals := rfl
@[simp] theorem State.setEngine_fabric (e : EngineId) (x : Engine) : (s.setEngine e x).fabric = s.fabric := rfl
@[simp] theorem State.setEngine_agents (e : EngineId) (x : Engine) : (s.setEngine e x).agents = s.agents := rfl
@[simp] theorem State.setEngine_hub (e : EngineId) (x : Engine) : (s.setEngine e x).hub = s.hub := rfl
@[simp] theorem State.setEngine_lpddr (e : EngineId) (x : Engine) : (s.setEngine e x).lpddr = s.lpddr := rfl
@[simp] theorem State.setEngine_lpddrFixed (e : EngineId) (x : Engine) : (s.setEngine e x).lpddrFixed = s.lpddrFixed := rfl
@[simp] theorem State.setEngine_frame (e : EngineId) (x : Engine) : (s.setEngine e x).frame = s.frame := rfl
@[simp] theorem State.setEngine_weights (e : EngineId) (x : Engine) : (s.setEngine e x).weights = s.weights := rfl
@[simp] theorem State.setEngine_prog (e : EngineId) (x : Engine) : (s.setEngine e x).prog = s.prog := rfl
@[simp] theorem State.setEngine_hd (e : EngineId) (x : Engine) : (s.setEngine e x).hd = s.hd := rfl
@[simp] theorem State.setEngine_recall (e : EngineId) (x : Engine) : (s.setEngine e x).rcl = s.rcl := rfl
@[simp] theorem State.setEngine_kv (e : EngineId) (x : Engine) : (s.setEngine e x).kv = s.kv := rfl
@[simp] theorem State.setEngine_ingress (e : EngineId) (x : Engine) : (s.setEngine e x).ingress = s.ingress := rfl
@[simp] theorem State.setEngine_ecat (e : EngineId) (x : Engine) : (s.setEngine e x).ecat = s.ecat := rfl
@[simp] theorem State.setEngine_pwr (e : EngineId) (x : Engine) : (s.setEngine e x).pwr = s.pwr := rfl
@[simp] theorem State.setEngine_svc (e : EngineId) (x : Engine) : (s.setEngine e x).svc = s.svc := rfl
@[simp] theorem State.setEngine_sec (e : EngineId) (x : Engine) : (s.setEngine e x).sec = s.sec := rfl
@[simp] theorem State.setEngine_pcie (e : EngineId) (x : Engine) : (s.setEngine e x).pcie = s.pcie := rfl
@[simp] theorem State.setEngine_dict (e : EngineId) (x : Engine) : (s.setEngine e x).dict = s.dict := rfl
@[simp] theorem State.setEngine_test (e : EngineId) (x : Engine) : (s.setEngine e x).test = s.test := rfl
@[simp] theorem State.setEngine_free (e : EngineId) (x : Engine) : (s.setEngine e x).free = s.free := rfl

/-! ### modEngine -/

@[simp] theorem State.modEngine_pending (e : EngineId) (f : Engine → Engine) : (s.modEngine e f).pending = s.pending := rfl
@[simp] theorem State.modEngine_now (e : EngineId) (f : Engine → Engine) : (s.modEngine e f).now = s.now := rfl
@[simp] theorem State.modEngine_power (e : EngineId) (f : Engine → Engine) : (s.modEngine e f).power = s.power := rfl
@[simp] theorem State.modEngine_toward (e : EngineId) (f : Engine → Engine) : (s.modEngine e f).toward = s.toward := rfl
@[simp] theorem State.modEngine_vin (e : EngineId) (f : Engine → Engine) : (s.modEngine e f).vin = s.vin := rfl
@[simp] theorem State.modEngine_porst (e : EngineId) (f : Engine → Engine) : (s.modEngine e f).porst = s.porst := rfl
@[simp] theorem State.modEngine_tiles (e : EngineId) (f : Engine → Engine) : (s.modEngine e f).tiles = s.tiles := rfl
@[simp] theorem State.modEngine_banks (e : EngineId) (f : Engine → Engine) : (s.modEngine e f).banks = s.banks := rfl
@[simp] theorem State.modEngine_dies (e : EngineId) (f : Engine → Engine) : (s.modEngine e f).dies = s.dies := rfl
@[simp] theorem State.modEngine_globals (e : EngineId) (f : Engine → Engine) : (s.modEngine e f).globals = s.globals := rfl
@[simp] theorem State.modEngine_fabric (e : EngineId) (f : Engine → Engine) : (s.modEngine e f).fabric = s.fabric := rfl
@[simp] theorem State.modEngine_agents (e : EngineId) (f : Engine → Engine) : (s.modEngine e f).agents = s.agents := rfl
@[simp] theorem State.modEngine_hub (e : EngineId) (f : Engine → Engine) : (s.modEngine e f).hub = s.hub := rfl
@[simp] theorem State.modEngine_lpddr (e : EngineId) (f : Engine → Engine) : (s.modEngine e f).lpddr = s.lpddr := rfl
@[simp] theorem State.modEngine_lpddrFixed (e : EngineId) (f : Engine → Engine) : (s.modEngine e f).lpddrFixed = s.lpddrFixed := rfl
@[simp] theorem State.modEngine_frame (e : EngineId) (f : Engine → Engine) : (s.modEngine e f).frame = s.frame := rfl
@[simp] theorem State.modEngine_weights (e : EngineId) (f : Engine → Engine) : (s.modEngine e f).weights = s.weights := rfl
@[simp] theorem State.modEngine_prog (e : EngineId) (f : Engine → Engine) : (s.modEngine e f).prog = s.prog := rfl
@[simp] theorem State.modEngine_hd (e : EngineId) (f : Engine → Engine) : (s.modEngine e f).hd = s.hd := rfl
@[simp] theorem State.modEngine_recall (e : EngineId) (f : Engine → Engine) : (s.modEngine e f).rcl = s.rcl := rfl
@[simp] theorem State.modEngine_kv (e : EngineId) (f : Engine → Engine) : (s.modEngine e f).kv = s.kv := rfl
@[simp] theorem State.modEngine_ingress (e : EngineId) (f : Engine → Engine) : (s.modEngine e f).ingress = s.ingress := rfl
@[simp] theorem State.modEngine_ecat (e : EngineId) (f : Engine → Engine) : (s.modEngine e f).ecat = s.ecat := rfl
@[simp] theorem State.modEngine_pwr (e : EngineId) (f : Engine → Engine) : (s.modEngine e f).pwr = s.pwr := rfl
@[simp] theorem State.modEngine_svc (e : EngineId) (f : Engine → Engine) : (s.modEngine e f).svc = s.svc := rfl
@[simp] theorem State.modEngine_sec (e : EngineId) (f : Engine → Engine) : (s.modEngine e f).sec = s.sec := rfl
@[simp] theorem State.modEngine_pcie (e : EngineId) (f : Engine → Engine) : (s.modEngine e f).pcie = s.pcie := rfl
@[simp] theorem State.modEngine_dict (e : EngineId) (f : Engine → Engine) : (s.modEngine e f).dict = s.dict := rfl
@[simp] theorem State.modEngine_test (e : EngineId) (f : Engine → Engine) : (s.modEngine e f).test = s.test := rfl
@[simp] theorem State.modEngine_free (e : EngineId) (f : Engine → Engine) : (s.modEngine e f).free = s.free := rfl

/-! ### setBank -/

@[simp] theorem State.setBank_pending (b : Nat) (x : Bank) : (s.setBank b x).pending = s.pending := rfl
@[simp] theorem State.setBank_now (b : Nat) (x : Bank) : (s.setBank b x).now = s.now := rfl
@[simp] theorem State.setBank_power (b : Nat) (x : Bank) : (s.setBank b x).power = s.power := rfl
@[simp] theorem State.setBank_toward (b : Nat) (x : Bank) : (s.setBank b x).toward = s.toward := rfl
@[simp] theorem State.setBank_vin (b : Nat) (x : Bank) : (s.setBank b x).vin = s.vin := rfl
@[simp] theorem State.setBank_porst (b : Nat) (x : Bank) : (s.setBank b x).porst = s.porst := rfl
@[simp] theorem State.setBank_tiles (b : Nat) (x : Bank) : (s.setBank b x).tiles = s.tiles := rfl
@[simp] theorem State.setBank_engines (b : Nat) (x : Bank) : (s.setBank b x).engines = s.engines := rfl
@[simp] theorem State.setBank_dies (b : Nat) (x : Bank) : (s.setBank b x).dies = s.dies := rfl
@[simp] theorem State.setBank_globals (b : Nat) (x : Bank) : (s.setBank b x).globals = s.globals := rfl
@[simp] theorem State.setBank_fabric (b : Nat) (x : Bank) : (s.setBank b x).fabric = s.fabric := rfl
@[simp] theorem State.setBank_agents (b : Nat) (x : Bank) : (s.setBank b x).agents = s.agents := rfl
@[simp] theorem State.setBank_hub (b : Nat) (x : Bank) : (s.setBank b x).hub = s.hub := rfl
@[simp] theorem State.setBank_lpddr (b : Nat) (x : Bank) : (s.setBank b x).lpddr = s.lpddr := rfl
@[simp] theorem State.setBank_lpddrFixed (b : Nat) (x : Bank) : (s.setBank b x).lpddrFixed = s.lpddrFixed := rfl
@[simp] theorem State.setBank_frame (b : Nat) (x : Bank) : (s.setBank b x).frame = s.frame := rfl
@[simp] theorem State.setBank_weights (b : Nat) (x : Bank) : (s.setBank b x).weights = s.weights := rfl
@[simp] theorem State.setBank_prog (b : Nat) (x : Bank) : (s.setBank b x).prog = s.prog := rfl
@[simp] theorem State.setBank_hd (b : Nat) (x : Bank) : (s.setBank b x).hd = s.hd := rfl
@[simp] theorem State.setBank_recall (b : Nat) (x : Bank) : (s.setBank b x).rcl = s.rcl := rfl
@[simp] theorem State.setBank_kv (b : Nat) (x : Bank) : (s.setBank b x).kv = s.kv := rfl
@[simp] theorem State.setBank_ingress (b : Nat) (x : Bank) : (s.setBank b x).ingress = s.ingress := rfl
@[simp] theorem State.setBank_ecat (b : Nat) (x : Bank) : (s.setBank b x).ecat = s.ecat := rfl
@[simp] theorem State.setBank_pwr (b : Nat) (x : Bank) : (s.setBank b x).pwr = s.pwr := rfl
@[simp] theorem State.setBank_svc (b : Nat) (x : Bank) : (s.setBank b x).svc = s.svc := rfl
@[simp] theorem State.setBank_sec (b : Nat) (x : Bank) : (s.setBank b x).sec = s.sec := rfl
@[simp] theorem State.setBank_pcie (b : Nat) (x : Bank) : (s.setBank b x).pcie = s.pcie := rfl
@[simp] theorem State.setBank_dict (b : Nat) (x : Bank) : (s.setBank b x).dict = s.dict := rfl
@[simp] theorem State.setBank_test (b : Nat) (x : Bank) : (s.setBank b x).test = s.test := rfl
@[simp] theorem State.setBank_free (b : Nat) (x : Bank) : (s.setBank b x).free = s.free := rfl

/-! ### modBank -/

@[simp] theorem State.modBank_pending (b : Nat) (f : Bank → Bank) : (s.modBank b f).pending = s.pending := rfl
@[simp] theorem State.modBank_now (b : Nat) (f : Bank → Bank) : (s.modBank b f).now = s.now := rfl
@[simp] theorem State.modBank_power (b : Nat) (f : Bank → Bank) : (s.modBank b f).power = s.power := rfl
@[simp] theorem State.modBank_toward (b : Nat) (f : Bank → Bank) : (s.modBank b f).toward = s.toward := rfl
@[simp] theorem State.modBank_vin (b : Nat) (f : Bank → Bank) : (s.modBank b f).vin = s.vin := rfl
@[simp] theorem State.modBank_porst (b : Nat) (f : Bank → Bank) : (s.modBank b f).porst = s.porst := rfl
@[simp] theorem State.modBank_tiles (b : Nat) (f : Bank → Bank) : (s.modBank b f).tiles = s.tiles := rfl
@[simp] theorem State.modBank_engines (b : Nat) (f : Bank → Bank) : (s.modBank b f).engines = s.engines := rfl
@[simp] theorem State.modBank_dies (b : Nat) (f : Bank → Bank) : (s.modBank b f).dies = s.dies := rfl
@[simp] theorem State.modBank_globals (b : Nat) (f : Bank → Bank) : (s.modBank b f).globals = s.globals := rfl
@[simp] theorem State.modBank_fabric (b : Nat) (f : Bank → Bank) : (s.modBank b f).fabric = s.fabric := rfl
@[simp] theorem State.modBank_agents (b : Nat) (f : Bank → Bank) : (s.modBank b f).agents = s.agents := rfl
@[simp] theorem State.modBank_hub (b : Nat) (f : Bank → Bank) : (s.modBank b f).hub = s.hub := rfl
@[simp] theorem State.modBank_lpddr (b : Nat) (f : Bank → Bank) : (s.modBank b f).lpddr = s.lpddr := rfl
@[simp] theorem State.modBank_lpddrFixed (b : Nat) (f : Bank → Bank) : (s.modBank b f).lpddrFixed = s.lpddrFixed := rfl
@[simp] theorem State.modBank_frame (b : Nat) (f : Bank → Bank) : (s.modBank b f).frame = s.frame := rfl
@[simp] theorem State.modBank_weights (b : Nat) (f : Bank → Bank) : (s.modBank b f).weights = s.weights := rfl
@[simp] theorem State.modBank_prog (b : Nat) (f : Bank → Bank) : (s.modBank b f).prog = s.prog := rfl
@[simp] theorem State.modBank_hd (b : Nat) (f : Bank → Bank) : (s.modBank b f).hd = s.hd := rfl
@[simp] theorem State.modBank_recall (b : Nat) (f : Bank → Bank) : (s.modBank b f).rcl = s.rcl := rfl
@[simp] theorem State.modBank_kv (b : Nat) (f : Bank → Bank) : (s.modBank b f).kv = s.kv := rfl
@[simp] theorem State.modBank_ingress (b : Nat) (f : Bank → Bank) : (s.modBank b f).ingress = s.ingress := rfl
@[simp] theorem State.modBank_ecat (b : Nat) (f : Bank → Bank) : (s.modBank b f).ecat = s.ecat := rfl
@[simp] theorem State.modBank_pwr (b : Nat) (f : Bank → Bank) : (s.modBank b f).pwr = s.pwr := rfl
@[simp] theorem State.modBank_svc (b : Nat) (f : Bank → Bank) : (s.modBank b f).svc = s.svc := rfl
@[simp] theorem State.modBank_sec (b : Nat) (f : Bank → Bank) : (s.modBank b f).sec = s.sec := rfl
@[simp] theorem State.modBank_pcie (b : Nat) (f : Bank → Bank) : (s.modBank b f).pcie = s.pcie := rfl
@[simp] theorem State.modBank_dict (b : Nat) (f : Bank → Bank) : (s.modBank b f).dict = s.dict := rfl
@[simp] theorem State.modBank_test (b : Nat) (f : Bank → Bank) : (s.modBank b f).test = s.test := rfl
@[simp] theorem State.modBank_free (b : Nat) (f : Bank → Bank) : (s.modBank b f).free = s.free := rfl

/-! ### setDie -/

@[simp] theorem State.setDie_pending (d : DieId) (x : Die) : (s.setDie d x).pending = s.pending := rfl
@[simp] theorem State.setDie_now (d : DieId) (x : Die) : (s.setDie d x).now = s.now := rfl
@[simp] theorem State.setDie_power (d : DieId) (x : Die) : (s.setDie d x).power = s.power := rfl
@[simp] theorem State.setDie_toward (d : DieId) (x : Die) : (s.setDie d x).toward = s.toward := rfl
@[simp] theorem State.setDie_vin (d : DieId) (x : Die) : (s.setDie d x).vin = s.vin := rfl
@[simp] theorem State.setDie_porst (d : DieId) (x : Die) : (s.setDie d x).porst = s.porst := rfl
@[simp] theorem State.setDie_tiles (d : DieId) (x : Die) : (s.setDie d x).tiles = s.tiles := rfl
@[simp] theorem State.setDie_engines (d : DieId) (x : Die) : (s.setDie d x).engines = s.engines := rfl
@[simp] theorem State.setDie_banks (d : DieId) (x : Die) : (s.setDie d x).banks = s.banks := rfl
@[simp] theorem State.setDie_globals (d : DieId) (x : Die) : (s.setDie d x).globals = s.globals := rfl
@[simp] theorem State.setDie_fabric (d : DieId) (x : Die) : (s.setDie d x).fabric = s.fabric := rfl
@[simp] theorem State.setDie_agents (d : DieId) (x : Die) : (s.setDie d x).agents = s.agents := rfl
@[simp] theorem State.setDie_hub (d : DieId) (x : Die) : (s.setDie d x).hub = s.hub := rfl
@[simp] theorem State.setDie_lpddr (d : DieId) (x : Die) : (s.setDie d x).lpddr = s.lpddr := rfl
@[simp] theorem State.setDie_lpddrFixed (d : DieId) (x : Die) : (s.setDie d x).lpddrFixed = s.lpddrFixed := rfl
@[simp] theorem State.setDie_frame (d : DieId) (x : Die) : (s.setDie d x).frame = s.frame := rfl
@[simp] theorem State.setDie_weights (d : DieId) (x : Die) : (s.setDie d x).weights = s.weights := rfl
@[simp] theorem State.setDie_prog (d : DieId) (x : Die) : (s.setDie d x).prog = s.prog := rfl
@[simp] theorem State.setDie_hd (d : DieId) (x : Die) : (s.setDie d x).hd = s.hd := rfl
@[simp] theorem State.setDie_recall (d : DieId) (x : Die) : (s.setDie d x).rcl = s.rcl := rfl
@[simp] theorem State.setDie_kv (d : DieId) (x : Die) : (s.setDie d x).kv = s.kv := rfl
@[simp] theorem State.setDie_ingress (d : DieId) (x : Die) : (s.setDie d x).ingress = s.ingress := rfl
@[simp] theorem State.setDie_ecat (d : DieId) (x : Die) : (s.setDie d x).ecat = s.ecat := rfl
@[simp] theorem State.setDie_pwr (d : DieId) (x : Die) : (s.setDie d x).pwr = s.pwr := rfl
@[simp] theorem State.setDie_svc (d : DieId) (x : Die) : (s.setDie d x).svc = s.svc := rfl
@[simp] theorem State.setDie_sec (d : DieId) (x : Die) : (s.setDie d x).sec = s.sec := rfl
@[simp] theorem State.setDie_pcie (d : DieId) (x : Die) : (s.setDie d x).pcie = s.pcie := rfl
@[simp] theorem State.setDie_dict (d : DieId) (x : Die) : (s.setDie d x).dict = s.dict := rfl
@[simp] theorem State.setDie_test (d : DieId) (x : Die) : (s.setDie d x).test = s.test := rfl
@[simp] theorem State.setDie_free (d : DieId) (x : Die) : (s.setDie d x).free = s.free := rfl

/-! ### modDie -/

@[simp] theorem State.modDie_pending (d : DieId) (f : Die → Die) : (s.modDie d f).pending = s.pending := rfl
@[simp] theorem State.modDie_now (d : DieId) (f : Die → Die) : (s.modDie d f).now = s.now := rfl
@[simp] theorem State.modDie_power (d : DieId) (f : Die → Die) : (s.modDie d f).power = s.power := rfl
@[simp] theorem State.modDie_toward (d : DieId) (f : Die → Die) : (s.modDie d f).toward = s.toward := rfl
@[simp] theorem State.modDie_vin (d : DieId) (f : Die → Die) : (s.modDie d f).vin = s.vin := rfl
@[simp] theorem State.modDie_porst (d : DieId) (f : Die → Die) : (s.modDie d f).porst = s.porst := rfl
@[simp] theorem State.modDie_tiles (d : DieId) (f : Die → Die) : (s.modDie d f).tiles = s.tiles := rfl
@[simp] theorem State.modDie_engines (d : DieId) (f : Die → Die) : (s.modDie d f).engines = s.engines := rfl
@[simp] theorem State.modDie_banks (d : DieId) (f : Die → Die) : (s.modDie d f).banks = s.banks := rfl
@[simp] theorem State.modDie_globals (d : DieId) (f : Die → Die) : (s.modDie d f).globals = s.globals := rfl
@[simp] theorem State.modDie_fabric (d : DieId) (f : Die → Die) : (s.modDie d f).fabric = s.fabric := rfl
@[simp] theorem State.modDie_agents (d : DieId) (f : Die → Die) : (s.modDie d f).agents = s.agents := rfl
@[simp] theorem State.modDie_hub (d : DieId) (f : Die → Die) : (s.modDie d f).hub = s.hub := rfl
@[simp] theorem State.modDie_lpddr (d : DieId) (f : Die → Die) : (s.modDie d f).lpddr = s.lpddr := rfl
@[simp] theorem State.modDie_lpddrFixed (d : DieId) (f : Die → Die) : (s.modDie d f).lpddrFixed = s.lpddrFixed := rfl
@[simp] theorem State.modDie_frame (d : DieId) (f : Die → Die) : (s.modDie d f).frame = s.frame := rfl
@[simp] theorem State.modDie_weights (d : DieId) (f : Die → Die) : (s.modDie d f).weights = s.weights := rfl
@[simp] theorem State.modDie_prog (d : DieId) (f : Die → Die) : (s.modDie d f).prog = s.prog := rfl
@[simp] theorem State.modDie_hd (d : DieId) (f : Die → Die) : (s.modDie d f).hd = s.hd := rfl
@[simp] theorem State.modDie_recall (d : DieId) (f : Die → Die) : (s.modDie d f).rcl = s.rcl := rfl
@[simp] theorem State.modDie_kv (d : DieId) (f : Die → Die) : (s.modDie d f).kv = s.kv := rfl
@[simp] theorem State.modDie_ingress (d : DieId) (f : Die → Die) : (s.modDie d f).ingress = s.ingress := rfl
@[simp] theorem State.modDie_ecat (d : DieId) (f : Die → Die) : (s.modDie d f).ecat = s.ecat := rfl
@[simp] theorem State.modDie_pwr (d : DieId) (f : Die → Die) : (s.modDie d f).pwr = s.pwr := rfl
@[simp] theorem State.modDie_svc (d : DieId) (f : Die → Die) : (s.modDie d f).svc = s.svc := rfl
@[simp] theorem State.modDie_sec (d : DieId) (f : Die → Die) : (s.modDie d f).sec = s.sec := rfl
@[simp] theorem State.modDie_pcie (d : DieId) (f : Die → Die) : (s.modDie d f).pcie = s.pcie := rfl
@[simp] theorem State.modDie_dict (d : DieId) (f : Die → Die) : (s.modDie d f).dict = s.dict := rfl
@[simp] theorem State.modDie_test (d : DieId) (f : Die → Die) : (s.modDie d f).test = s.test := rfl
@[simp] theorem State.modDie_free (d : DieId) (f : Die → Die) : (s.modDie d f).free = s.free := rfl

/-! ### takeFree -/

@[simp] theorem State.takeFree_pending : (s.takeFree).pending = s.pending := rfl
@[simp] theorem State.takeFree_now : (s.takeFree).now = s.now := rfl
@[simp] theorem State.takeFree_power : (s.takeFree).power = s.power := rfl
@[simp] theorem State.takeFree_toward : (s.takeFree).toward = s.toward := rfl
@[simp] theorem State.takeFree_vin : (s.takeFree).vin = s.vin := rfl
@[simp] theorem State.takeFree_porst : (s.takeFree).porst = s.porst := rfl
@[simp] theorem State.takeFree_tiles : (s.takeFree).tiles = s.tiles := rfl
@[simp] theorem State.takeFree_engines : (s.takeFree).engines = s.engines := rfl
@[simp] theorem State.takeFree_banks : (s.takeFree).banks = s.banks := rfl
@[simp] theorem State.takeFree_dies : (s.takeFree).dies = s.dies := rfl
@[simp] theorem State.takeFree_globals : (s.takeFree).globals = s.globals := rfl
@[simp] theorem State.takeFree_fabric : (s.takeFree).fabric = s.fabric := rfl
@[simp] theorem State.takeFree_agents : (s.takeFree).agents = s.agents := rfl
@[simp] theorem State.takeFree_hub : (s.takeFree).hub = s.hub := rfl
@[simp] theorem State.takeFree_lpddr : (s.takeFree).lpddr = s.lpddr := rfl
@[simp] theorem State.takeFree_lpddrFixed : (s.takeFree).lpddrFixed = s.lpddrFixed := rfl
@[simp] theorem State.takeFree_frame : (s.takeFree).frame = s.frame := rfl
@[simp] theorem State.takeFree_weights : (s.takeFree).weights = s.weights := rfl
@[simp] theorem State.takeFree_prog : (s.takeFree).prog = s.prog := rfl
@[simp] theorem State.takeFree_hd : (s.takeFree).hd = s.hd := rfl
@[simp] theorem State.takeFree_recall : (s.takeFree).rcl = s.rcl := rfl
@[simp] theorem State.takeFree_kv : (s.takeFree).kv = s.kv := rfl
@[simp] theorem State.takeFree_ingress : (s.takeFree).ingress = s.ingress := rfl
@[simp] theorem State.takeFree_ecat : (s.takeFree).ecat = s.ecat := rfl
@[simp] theorem State.takeFree_pwr : (s.takeFree).pwr = s.pwr := rfl
@[simp] theorem State.takeFree_svc : (s.takeFree).svc = s.svc := rfl
@[simp] theorem State.takeFree_sec : (s.takeFree).sec = s.sec := rfl
@[simp] theorem State.takeFree_pcie : (s.takeFree).pcie = s.pcie := rfl
@[simp] theorem State.takeFree_dict : (s.takeFree).dict = s.dict := rfl
@[simp] theorem State.takeFree_test : (s.takeFree).test = s.test := rfl

@[simp] theorem State.takeFree_free : s.takeFree.free = s.free + 1 := rfl

/-! ### Readers -/

@[simp] theorem State.tile_setTile (t : TileId) (x : Tile) : (s.setTile t x).tile t = x := mget_mset_same _ _ _ _
@[simp] theorem State.tile_setTile_other (t u : TileId) (x : Tile) (h : u ≠ t) : (s.setTile t x).tile u = s.tile u :=
  mget_mset_other _ _ _ _ _ fun e => h (Fin.ext e)
@[simp] theorem State.tile_modTile (t : TileId) (f : Tile → Tile) : (s.modTile t f).tile t = f (s.tile t) := mget_mset_same _ _ _ _
@[simp] theorem State.tile_modTile_other (t u : TileId) (f : Tile → Tile) (h : u ≠ t) : (s.modTile t f).tile u = s.tile u :=
  mget_mset_other _ _ _ _ _ fun e => h (Fin.ext e)
@[simp] theorem State.engine_setEngine (e : EngineId) (x : Engine) : (s.setEngine e x).engine e = x := mget_mset_same _ _ _ _
@[simp] theorem State.engine_setEngine_other (e g : EngineId) (x : Engine) (h : g ≠ e) : (s.setEngine e x).engine g = s.engine g :=
  mget_mset_other _ _ _ _ _ fun e => h (Fin.ext e)
@[simp] theorem State.engine_modEngine (e : EngineId) (f : Engine → Engine) : (s.modEngine e f).engine e = f (s.engine e) := mget_mset_same _ _ _ _
@[simp] theorem State.engine_modEngine_other (e g : EngineId) (f : Engine → Engine) (h : g ≠ e) : (s.modEngine e f).engine g = s.engine g :=
  mget_mset_other _ _ _ _ _ fun e => h (Fin.ext e)
@[simp] theorem State.bank_setBank (b : Nat) (x : Bank) : (s.setBank b x).bank b = x := mget_mset_same _ _ _ _
@[simp] theorem State.bank_setBank_other (b c : Nat) (x : Bank) (h : c ≠ b) : (s.setBank b x).bank c = s.bank c :=
  mget_mset_other _ _ _ _ _ h
@[simp] theorem State.bank_modBank (b : Nat) (f : Bank → Bank) : (s.modBank b f).bank b = f (s.bank b) := mget_mset_same _ _ _ _
@[simp] theorem State.bank_modBank_other (b c : Nat) (f : Bank → Bank) (h : c ≠ b) : (s.modBank b f).bank c = s.bank c :=
  mget_mset_other _ _ _ _ _ h
@[simp] theorem State.die_setDie (d : DieId) (x : Die) : (s.setDie d x).die d = x := mget_mset_same _ _ _ _
@[simp] theorem State.die_setDie_other (d c : DieId) (x : Die) (h : c ≠ d) : (s.setDie d x).die c = s.die c :=
  mget_mset_other _ _ _ _ _ fun e => h (Fin.ext e)
@[simp] theorem State.die_modDie (d : DieId) (f : Die → Die) : (s.modDie d f).die d = f (s.die d) := mget_mset_same _ _ _ _
@[simp] theorem State.die_modDie_other (d c : DieId) (f : Die → Die) (h : c ≠ d) : (s.modDie d f).die c = s.die c :=
  mget_mset_other _ _ _ _ _ fun e => h (Fin.ext e)
@[simp] theorem State.setEngine_tile (e0 : EngineId) (x : Engine) (t : TileId) : (s.setEngine e0 x).tile t = s.tile t := rfl
@[simp] theorem State.modEngine_tile (e0 : EngineId) (f : Engine → Engine) (t : TileId) : (s.modEngine e0 f).tile t = s.tile t := rfl
@[simp] theorem State.setBank_tile (b0 : Nat) (x : Bank) (t : TileId) : (s.setBank b0 x).tile t = s.tile t := rfl
@[simp] theorem State.modBank_tile (b0 : Nat) (f : Bank → Bank) (t : TileId) : (s.modBank b0 f).tile t = s.tile t := rfl
@[simp] theorem State.setDie_tile (d0 : DieId) (x : Die) (t : TileId) : (s.setDie d0 x).tile t = s.tile t := rfl
@[simp] theorem State.modDie_tile (d0 : DieId) (f : Die → Die) (t : TileId) : (s.modDie d0 f).tile t = s.tile t := rfl
@[simp] theorem State.takeFree_tile (t : TileId) : (s.takeFree).tile t = s.tile t := rfl
@[simp] theorem State.setTile_engine (t0 : TileId) (x : Tile) (e : EngineId) : (s.setTile t0 x).engine e = s.engine e := rfl
@[simp] theorem State.modTile_engine (t0 : TileId) (f : Tile → Tile) (e : EngineId) : (s.modTile t0 f).engine e = s.engine e := rfl
@[simp] theorem State.setBank_engine (b0 : Nat) (x : Bank) (e : EngineId) : (s.setBank b0 x).engine e = s.engine e := rfl
@[simp] theorem State.modBank_engine (b0 : Nat) (f : Bank → Bank) (e : EngineId) : (s.modBank b0 f).engine e = s.engine e := rfl
@[simp] theorem State.setDie_engine (d0 : DieId) (x : Die) (e : EngineId) : (s.setDie d0 x).engine e = s.engine e := rfl
@[simp] theorem State.modDie_engine (d0 : DieId) (f : Die → Die) (e : EngineId) : (s.modDie d0 f).engine e = s.engine e := rfl
@[simp] theorem State.takeFree_engine (e : EngineId) : (s.takeFree).engine e = s.engine e := rfl
@[simp] theorem State.setTile_bank (t0 : TileId) (x : Tile) (b : Nat) : (s.setTile t0 x).bank b = s.bank b := rfl
@[simp] theorem State.modTile_bank (t0 : TileId) (f : Tile → Tile) (b : Nat) : (s.modTile t0 f).bank b = s.bank b := rfl
@[simp] theorem State.setEngine_bank (e0 : EngineId) (x : Engine) (b : Nat) : (s.setEngine e0 x).bank b = s.bank b := rfl
@[simp] theorem State.modEngine_bank (e0 : EngineId) (f : Engine → Engine) (b : Nat) : (s.modEngine e0 f).bank b = s.bank b := rfl
@[simp] theorem State.setDie_bank (d0 : DieId) (x : Die) (b : Nat) : (s.setDie d0 x).bank b = s.bank b := rfl
@[simp] theorem State.modDie_bank (d0 : DieId) (f : Die → Die) (b : Nat) : (s.modDie d0 f).bank b = s.bank b := rfl
@[simp] theorem State.takeFree_bank (b : Nat) : (s.takeFree).bank b = s.bank b := rfl
@[simp] theorem State.setTile_die (t0 : TileId) (x : Tile) (d : DieId) : (s.setTile t0 x).die d = s.die d := rfl
@[simp] theorem State.modTile_die (t0 : TileId) (f : Tile → Tile) (d : DieId) : (s.modTile t0 f).die d = s.die d := rfl
@[simp] theorem State.setEngine_die (e0 : EngineId) (x : Engine) (d : DieId) : (s.setEngine e0 x).die d = s.die d := rfl
@[simp] theorem State.modEngine_die (e0 : EngineId) (f : Engine → Engine) (d : DieId) : (s.modEngine e0 f).die d = s.die d := rfl
@[simp] theorem State.setBank_die (b0 : Nat) (x : Bank) (d : DieId) : (s.setBank b0 x).die d = s.die d := rfl
@[simp] theorem State.modBank_die (b0 : Nat) (f : Bank → Bank) (d : DieId) : (s.modBank b0 f).die d = s.die d := rfl
@[simp] theorem State.takeFree_die (d : DieId) : (s.takeFree).die d = s.die d := rfl

/-- A change of one tile made twice. -/
theorem State.modTile_modTile (t : TileId) (f g : Tile → Tile) : ((s.modTile t f).modTile t g).tile t = g (f (s.tile t)) := by
  simp

/-! ### Events (R434 to R437)

Raising an event changes the log and its counters, and the class 3 record of the die that it names; nothing else. -/

@[simp] theorem State.raise_pending (c : W16) (h : Handle) (p : W32) (a : W16) : (s.raise c h p a).pending = s.pending := by
  unfold State.raise; dsimp only; split <;> try split
  all_goals rfl
@[simp] theorem State.raise_now (c : W16) (h : Handle) (p : W32) (a : W16) : (s.raise c h p a).now = s.now := by
  unfold State.raise; dsimp only; split <;> try split
  all_goals rfl
@[simp] theorem State.raise_power (c : W16) (h : Handle) (p : W32) (a : W16) : (s.raise c h p a).power = s.power := by
  unfold State.raise; dsimp only; split <;> try split
  all_goals rfl
@[simp] theorem State.raise_toward (c : W16) (h : Handle) (p : W32) (a : W16) : (s.raise c h p a).toward = s.toward := by
  unfold State.raise; dsimp only; split <;> try split
  all_goals rfl
@[simp] theorem State.raise_vin (c : W16) (h : Handle) (p : W32) (a : W16) : (s.raise c h p a).vin = s.vin := by
  unfold State.raise; dsimp only; split <;> try split
  all_goals rfl
@[simp] theorem State.raise_porst (c : W16) (h : Handle) (p : W32) (a : W16) : (s.raise c h p a).porst = s.porst := by
  unfold State.raise; dsimp only; split <;> try split
  all_goals rfl
@[simp] theorem State.raise_tiles (c : W16) (h : Handle) (p : W32) (a : W16) : (s.raise c h p a).tiles = s.tiles := by
  unfold State.raise; dsimp only; split <;> try split
  all_goals rfl
@[simp] theorem State.raise_engines (c : W16) (h : Handle) (p : W32) (a : W16) : (s.raise c h p a).engines = s.engines := by
  unfold State.raise; dsimp only; split <;> try split
  all_goals rfl
@[simp] theorem State.raise_banks (c : W16) (h : Handle) (p : W32) (a : W16) : (s.raise c h p a).banks = s.banks := by
  unfold State.raise; dsimp only; split <;> try split
  all_goals rfl
@[simp] theorem State.raise_globals (c : W16) (h : Handle) (p : W32) (a : W16) : (s.raise c h p a).globals = s.globals := by
  unfold State.raise; dsimp only; split <;> try split
  all_goals rfl
@[simp] theorem State.raise_fabric (c : W16) (h : Handle) (p : W32) (a : W16) : (s.raise c h p a).fabric = s.fabric := by
  unfold State.raise; dsimp only; split <;> try split
  all_goals rfl
@[simp] theorem State.raise_agents (c : W16) (h : Handle) (p : W32) (a : W16) : (s.raise c h p a).agents = s.agents := by
  unfold State.raise; dsimp only; split <;> try split
  all_goals rfl
@[simp] theorem State.raise_hub (c : W16) (h : Handle) (p : W32) (a : W16) : (s.raise c h p a).hub = s.hub := by
  unfold State.raise; dsimp only; split <;> try split
  all_goals rfl
@[simp] theorem State.raise_lpddr (c : W16) (h : Handle) (p : W32) (a : W16) : (s.raise c h p a).lpddr = s.lpddr := by
  unfold State.raise; dsimp only; split <;> try split
  all_goals rfl
@[simp] theorem State.raise_lpddrFixed (c : W16) (h : Handle) (p : W32) (a : W16) : (s.raise c h p a).lpddrFixed = s.lpddrFixed := by
  unfold State.raise; dsimp only; split <;> try split
  all_goals rfl
@[simp] theorem State.raise_frame (c : W16) (h : Handle) (p : W32) (a : W16) : (s.raise c h p a).frame = s.frame := by
  unfold State.raise; dsimp only; split <;> try split
  all_goals rfl
@[simp] theorem State.raise_weights (c : W16) (h : Handle) (p : W32) (a : W16) : (s.raise c h p a).weights = s.weights := by
  unfold State.raise; dsimp only; split <;> try split
  all_goals rfl
@[simp] theorem State.raise_prog (c : W16) (h : Handle) (p : W32) (a : W16) : (s.raise c h p a).prog = s.prog := by
  unfold State.raise; dsimp only; split <;> try split
  all_goals rfl
@[simp] theorem State.raise_hd (c : W16) (h : Handle) (p : W32) (a : W16) : (s.raise c h p a).hd = s.hd := by
  unfold State.raise; dsimp only; split <;> try split
  all_goals rfl
@[simp] theorem State.raise_recall (c : W16) (h : Handle) (p : W32) (a : W16) : (s.raise c h p a).rcl = s.rcl := by
  unfold State.raise; dsimp only; split <;> try split
  all_goals rfl
@[simp] theorem State.raise_kv (c : W16) (h : Handle) (p : W32) (a : W16) : (s.raise c h p a).kv = s.kv := by
  unfold State.raise; dsimp only; split <;> try split
  all_goals rfl
@[simp] theorem State.raise_ingress (c : W16) (h : Handle) (p : W32) (a : W16) : (s.raise c h p a).ingress = s.ingress := by
  unfold State.raise; dsimp only; split <;> try split
  all_goals rfl
@[simp] theorem State.raise_ecat (c : W16) (h : Handle) (p : W32) (a : W16) : (s.raise c h p a).ecat = s.ecat := by
  unfold State.raise; dsimp only; split <;> try split
  all_goals rfl
@[simp] theorem State.raise_pwr (c : W16) (h : Handle) (p : W32) (a : W16) : (s.raise c h p a).pwr = s.pwr := by
  unfold State.raise; dsimp only; split <;> try split
  all_goals rfl
@[simp] theorem State.raise_sec (c : W16) (h : Handle) (p : W32) (a : W16) : (s.raise c h p a).sec = s.sec := by
  unfold State.raise; dsimp only; split <;> try split
  all_goals rfl
@[simp] theorem State.raise_pcie (c : W16) (h : Handle) (p : W32) (a : W16) : (s.raise c h p a).pcie = s.pcie := by
  unfold State.raise; dsimp only; split <;> try split
  all_goals rfl
@[simp] theorem State.raise_dict (c : W16) (h : Handle) (p : W32) (a : W16) : (s.raise c h p a).dict = s.dict := by
  unfold State.raise; dsimp only; split <;> try split
  all_goals rfl
@[simp] theorem State.raise_test (c : W16) (h : Handle) (p : W32) (a : W16) : (s.raise c h p a).test = s.test := by
  unfold State.raise; dsimp only; split <;> try split
  all_goals rfl
@[simp] theorem State.raise_free (c : W16) (h : Handle) (p : W32) (a : W16) : (s.raise c h p a).free = s.free := by
  unfold State.raise; dsimp only; split <;> try split
  all_goals rfl
@[simp] theorem State.raise_tile (c : W16) (h : Handle) (p : W32) (a : W16) (t : TileId) : (s.raise c h p a).tile t = s.tile t := by
  unfold State.tile; rw [State.raise_tiles]
@[simp] theorem State.raise_engine (c : W16) (h : Handle) (p : W32) (a : W16) (e : EngineId) :
    (s.raise c h p a).engine e = s.engine e := by
  unfold State.engine; rw [State.raise_engines]
@[simp] theorem State.raise_bank (c : W16) (h : Handle) (p : W32) (a : W16) (b : Nat) : (s.raise c h p a).bank b = s.bank b := by
  unfold State.bank; rw [State.raise_banks]

end Sys2Proof.Machine
end

