-- ==== Sys2Proof/Laws/Issue.lean ====
section
/-!
SUPPORT. What the issue of a field does (spec/08): every meaning of a word goes through these lemmas.
-/
namespace Sys2Proof.Machine

variable {s : State} {t : TileId} {w : WordTag} {f : State → State} {ok : Bool}

/-- A data field that acts. -/
theorem issue_acts (h : Acts s t w) (hok : ok = true) : s.issue t w .data ok f = (f s).endWord t w := by
  obtain ⟨⟨h1, h2⟩, h3⟩ := h
  simp [State.issue, State.endWord, h1, h2, h3, hok]

/-- A field without predicate. -/
theorem issue_plain (h : Issues s t w) (hok : ok = true) : s.issue t w .plain ok f = (f s).endWord t w := by
  obtain ⟨h1, h2⟩ := h
  simp [State.issue, State.endWord, h1, h2, hok]

theorem issue_flow (h : Issues s t w) (hok : ok = true) : s.issue t w .flow ok f = (f s).endWord t w := by
  obtain ⟨h1, h2⟩ := h
  simp [State.issue, State.endWord, h1, h2, hok]

/-- A data field whose predicate fails: the word takes its cycle and nothing else. -/
theorem issue_predicated_off (h : Issues s t w) (hp : (s.tile t).predicate w = false) (hok : ok = true) :
    s.issue t w .data ok f = s.endWord t w := by
  obtain ⟨h1, h2⟩ := h
  simp [State.issue, State.endWord, h1, h2, hp, hok]

/-- A tile that issues nothing. -/
theorem issue_idle {c : FieldClass} (h : s.canIssue t = false) : s.issue t w c ok f = s := by
  simp [State.issue, h]

/-- A field that its load check would have refused. -/
theorem issue_refused {c : FieldClass} : s.issue t w c false f = s := by
  simp [State.issue]

@[simp] theorem State.hdPassed_host (s : State) : s.hdPassed .host = s := rfl

/-- The command that leaves its list changes the list's position alone. -/
theorem State.hdPassed_frame (s : State) (o : HdOrigin) : ∃ k, s.hdPassed o = { s with hd := { s.hd with listPos := k } } := by
  cases o with
  | host => exact ⟨s.hd.listPos, rfl⟩
  | list n =>
    simp only [State.hdPassed]
    split
    · exact ⟨_, rfl⟩
    · exact ⟨s.hd.listPos, rfl⟩

/-- A command of the HD engine that issues, with good fields, has its effect. -/
theorem hd_issues {s : State} {o : HdOrigin} {i : Instr} {ok : Bool} {f : HdSettings → State → State} (h : HdIssues s o i)
    (hok : ok = true) : s.hdIssue o i ok f = f (s.hdInForce o) (s.hdPassed o) := by
  obtain ⟨ha, hw, hr, ho⟩ := h
  unfold State.hdIssue State.hdInForce State.hdPassed
  cases o with
  | list n =>
    obtain ⟨h1, h2⟩ := ho
    cases e : (s.listRest n).head? with
    | none => simp [e] at h2
    | some p =>
      obtain ⟨k, j⟩ := p
      have hj : j = i := by simpa [e] using h2
      simp [ha, hw, hr, h1, e, hj, hok]
  | host => simp only at ho; simp [ha, hw, hr, ho, hok]

/-- A host command with bad fields is refused with event 0x7013. -/
theorem hd_refused {s : State} {i : Instr} {ok : Bool} {f : HdSettings → State → State} (h : HdIssues s .host i)
    (hok : ok = false) : s.hdIssue .host i ok f = s.deviceEvent 0x7013 0xFF := by
  obtain ⟨ha, hw, hr, ho⟩ := h
  simp only at ho
  unfold State.hdIssue
  simp [ha, hw, hr, ho, hok]

/-- A command of the HD engine that does not issue changes nothing. -/
theorem hd_waits {s : State} {o : HdOrigin} {i : Instr} {ok : Bool} {f : HdSettings → State → State} (h : ¬HdIssues s o i) :
    s.hdIssue o i ok f = s := by
  unfold State.hdIssue
  by_cases ha : s.awake = true
  · by_cases hw : s.hd.waiting = none
    · by_cases hr : (hdReads i).any s.regPending = false
      · cases o with
        | list n =>
          by_cases h1 : s.hd.running = some n
          · cases e : (s.listRest n).head? with
            | none => simp [h1, e]
            | some p =>
              obtain ⟨k, j⟩ := p
              have hj : j ≠ i := fun hj => h ⟨ha, hw, hr, h1, by simp [e, hj]⟩
              simp [h1, e, hj]
          · simp [h1]
        | host =>
          have hi : s.hdIdle = false := by
            cases e : s.hdIdle with
            | false => rfl
            | true => exact absurd ⟨ha, hw, hr, e⟩ h
          simp [hi]
      · simp [hr]
    · cases e : s.hd.waiting with
      | none => exact absurd e hw
      | some x => simp
  · simp [ha]

end Sys2Proof.Machine
end

