-- ==== Sys2Proof/Laws/Kept.lean ====
section
/-!
SUPPORT. What the shared operations keep: the queue of waiting commands, whether the device is in Off, and State.Sound. One
lemma an operation; each is cited by the lemmas of the operations that call it.
-/
namespace Sys2Proof.Machine

/-- The queue and whether core power may be up (VIN present, PORST_N released) are `q`, the device is in Off exactly when `o`, and
the state is sound. -/
def Kept (q : List Instr × Bool) (o : Bool) (s : State) : Prop :=
  (s.pending, s.vin && !s.porst) = q ∧ decide (s.power = .off) = o ∧ s.Sound

variable {q : List Instr × Bool} {o : Bool} {s : State}

theorem Kept.sound (h : Kept q o s) : s.Sound := h.2.2
theorem Kept.hub (h : Kept q o s) : ByteMem.wf s.hub = true := h.2.2.2.2.1
theorem Kept.lpddr (h : Kept q o s) : ByteMem.wf s.lpddr = true := h.2.2.2.2.2
theorem Kept.awake (h : Kept q o s) (hp : s.power ≠ .off) : Kept q false s := by
  obtain ⟨h1, h2, h3⟩ := h; refine ⟨h1, by simp [hp], h3⟩

/-- A change of anything else. -/
@[simp] theorem kept_mk (h : Kept q o s) (now : Nat) (toward : Option PState) (tiles : SMap Tile) (engines : SMap Engine)
    (banks : SMap Bank) (dies : SMap Die) (globals : Globals) (fabric : Fabric) (agents : List AgentWrite) (fixed : SMap Nat) (frame : Frame)
    (weights : Weights) (prog : Programmes) (hd : Hd) (rcl : Recall) (kv : Kv) (ingress : Ingress) (ecat : Ecat)
    (pwr : Power) (svc : Service) (sec : Security) (pcie : Pcie) (dict : Dict) (test : Test) (free : Nat)
    (safe : sec.safeN = s.sec.safeN) :
    Kept q o (State.mk s.pending now s.power toward s.vin s.porst tiles engines banks dies globals fabric agents s.hub s.lpddr
      fixed frame weights prog hd rcl kv ingress ecat pwr svc sec pcie dict test free) := by
  obtain ⟨h1, h2, h3, h4, h5⟩ := h
  exact ⟨h1, h2, h3, fun e => by simpa [safe] using h4 e, h5⟩

/-- A change that may include the byte memories and may assert SAFE_N. -/
theorem kept_mem (h : Kept q o s) (t : State) (hq : t.pending = s.pending) (hp : t.power = s.power) (hv : t.vin = s.vin)
    (hr : t.porst = s.porst) (hs : t.sec.safeN = s.sec.safeN ∨ t.sec.safeN = true) (hh : ByteMem.wf t.hub = true)
    (hl : ByteMem.wf t.lpddr = true) : Kept q o t := by
  obtain ⟨h1, h2, h3, h4, h5⟩ := h
  refine ⟨by rw [hq, hv, hr, h1], by rw [hp, h2], by rw [hv, hr, hp]; exact h3, fun e => ?_, hh, hl⟩
  rcases hs with hs | hs
  · rw [hs]; exact h4 (by rw [← hp]; exact e)
  · exact hs

/-- A change of power state outside Off. -/
theorem kept_power (h : Kept q false s) (p : PState) (hp : p ≠ .off) (toward : Option PState) :
    Kept q false { s with power := p, toward := toward } := by
  obtain ⟨h1, h2, h3, _, h5⟩ := h
  have h2' : s.power ≠ .off := by simpa using h2
  exact ⟨h1, by simp [hp], fun e => absurd (h3 e) h2', fun e => absurd e hp, h5⟩

@[simp] theorem kept_ite {c : Prop} [Decidable c] {x y : State} (hx : c → Kept q o x) (hy : ¬c → Kept q o y) :
    Kept q o (if c then x else y) := by split <;> simp_all

@[simp] theorem kept_ite_fst {α : Type} {c : Prop} [Decidable c] {x y : State × α} (hx : c → Kept q o x.1)
    (hy : ¬c → Kept q o y.1) : Kept q o (if c then x else y).1 := by split <;> simp_all

@[simp] theorem kept_foldl {α : Type} (f : State → α → State) (hf : ∀ s x, Kept q o s → Kept q o (f s x)) (xs : List α)
    (s : State) (h : Kept q o s) : Kept q o (xs.foldl f s) := by
  induction xs generalizing s with
  | nil => exact h
  | cons x xs ih => exact ih _ (hf _ _ h)

@[simp] theorem kept_foldl_fst {α β : Type} (f : State × β → α → State × β)
    (hf : ∀ p x, Kept q o p.1 → Kept q o (f p x).1) (xs : List α) (p : State × β) (h : Kept q o p.1) :
    Kept q o (xs.foldl f p).1 := by
  induction xs generalizing p with
  | nil => exact h
  | cons x xs ih => exact ih _ (hf _ _ h)

@[simp] theorem kept_forAll {α : Type} (f : State → α → State) (hf : ∀ s x, Kept q o s → Kept q o (f s x)) (xs : List α)
    (s : State) (h : Kept q o s) : Kept q o (forAll xs f s) := kept_foldl f hf xs s h

/-- The first part of a pair that a command takes apart. -/
theorem Kept.ofPair {α : Type} {p : State × α} {x : State} {y : α} (e : p = (x, y)) (h : Kept q o p.1) : Kept q o x := by
  subst e; exact h

/-- Whatever next state an outcome gives is kept. -/
def KeptO (q : List Instr × Bool) (o : Bool) (r : Host.Outcome State Fault Refusal) : Prop := ∀ t, r = .next t → Kept q o t

theorem keptO_next {t : State} (h : Kept q o t) : KeptO q o (.next t) := by
  intro u e; injection e with e; subst e; exact h

/-- A meaning that a command of the dictionary or of a queue runs. -/
@[simp] theorem kept_after (r : Host.Outcome State Fault Refusal) (s : State) (hr : KeptO q o r) (h : Kept q o s) :
    Kept q o (after r s) := by
  unfold after; split
  · exact hr _ rfl
  · exact h

/-- A state that may be absent. -/
def KeptS (q : List Instr × Bool) (o : Bool) (x : Option State) : Prop := ∀ t, x = some t → Kept q o t

@[simp] theorem keptS_none : KeptS q o none := fun _ e => nomatch e
@[simp] theorem keptS_some {t : State} (h : Kept q o t) : KeptS q o (some t) := by
  intro u e; injection e with e; subst e; exact h
@[simp] theorem keptS_ite {c : Prop} [Decidable c] {x y : Option State} (hx : c → KeptS q o x) (hy : ¬c → KeptS q o y) :
    KeptS q o (if c then x else y) := by split <;> simp_all
theorem KeptS.ofEq {x : Option State} {t : State} (e : x = some t) (h : KeptS q o x) : Kept q o t := h t e

/-- Whatever next state an outcome of `s` gives has the queue of `s` and is sound. -/
def Fine (s : State) (r : Host.Outcome State Fault Refusal) : Prop := ∀ t, r = .next t → t.pending = s.pending ∧ t.Sound

theorem fine_next {s t : State} (hq : t.pending = s.pending) (h : t.Sound) : Fine s (.next t) := by
  intro u e; injection e with e; subst e; exact ⟨hq, h⟩

theorem Kept.start (h : s.Sound) : Kept (s.pending, s.vin && !s.porst) (decide (s.power = .off)) s := ⟨rfl, rfl, h⟩

theorem Kept.fine {t : State} (h : Kept (s.pending, s.vin && !s.porst) o t) : t.pending = s.pending ∧ t.Sound :=
  ⟨congrArg Prod.fst h.1, h.2.2⟩

theorem KeptO.fine {r : Host.Outcome State Fault Refusal} (h : KeptO (s.pending, s.vin && !s.porst) o r) : Fine s r :=
  fun t e => (h t e).fine

end Sys2Proof.Machine
end

