-- ==== Sys2Proof/Laws/KeptOps.lean ====
section
/-!
SUPPORT. What is kept by the operations that every unit shares, the sequencer and the turnstile: the queue of waiting commands, whether the device is in Off, and State.Sound.
-/
set_option linter.unusedSimpArgs false
set_option linter.unusedVariables false
namespace Sys2Proof.Machine

variable {q : List Instr × Bool} {o : Bool} {s : State}

/-! ### Ops -/

@[simp] theorem State.setTile_kept (s : State) (t : TileId) (x : Tile) (h : Kept q o s) :
    Kept q o (State.setTile s t x) := by
  unfold State.setTile
  simp (maxDischargeDepth := 30) (contextual := true) only [kept_mk, *]

@[simp] theorem State.modTile_kept (s : State) (t : TileId) (f : Tile → Tile) (h : Kept q o s) :
    Kept q o (State.modTile s t f) := by
  unfold State.modTile
  simp (maxDischargeDepth := 30) (contextual := true) only [State.setTile_kept, *]

@[simp] theorem State.setEngine_kept (s : State) (e : EngineId) (x : Engine) (h : Kept q o s) :
    Kept q o (State.setEngine s e x) := by
  unfold State.setEngine
  simp (maxDischargeDepth := 30) (contextual := true) only [kept_mk, *]

@[simp] theorem State.modEngine_kept (s : State) (e : EngineId) (f : Engine → Engine) (h : Kept q o s) :
    Kept q o (State.modEngine s e f) := by
  unfold State.modEngine
  simp (maxDischargeDepth := 30) (contextual := true) only [State.setEngine_kept, *]

@[simp] theorem State.setBank_kept (s : State) (b : Nat) (x : Bank) (h : Kept q o s) :
    Kept q o (State.setBank s b x) := by
  unfold State.setBank
  simp (maxDischargeDepth := 30) (contextual := true) only [kept_mk, *]

@[simp] theorem State.modBank_kept (s : State) (b : Nat) (f : Bank → Bank) (h : Kept q o s) :
    Kept q o (State.modBank s b f) := by
  unfold State.modBank
  simp (maxDischargeDepth := 30) (contextual := true) only [State.setBank_kept, *]

@[simp] theorem State.setDie_kept (s : State) (d : DieId) (x : Die) (h : Kept q o s) :
    Kept q o (State.setDie s d x) := by
  unfold State.setDie
  simp (maxDischargeDepth := 30) (contextual := true) only [kept_mk, *]

@[simp] theorem State.modDie_kept (s : State) (d : DieId) (f : Die → Die) (h : Kept q o s) :
    Kept q o (State.modDie s d f) := by
  unfold State.modDie
  simp (maxDischargeDepth := 30) (contextual := true) only [State.setDie_kept, *]

@[simp] theorem State.takeFree_kept (s : State) (h : Kept q o s) :
    Kept q o (State.takeFree s) := by
  unfold State.takeFree
  simp (maxDischargeDepth := 30) (contextual := true) only [kept_mk, *]

@[simp] theorem State.acceptSetting_kept (s : State) (k : Nat) (v : Nat) (h : Kept q o s) :
    Kept q o (State.acceptSetting s k v) := by
  unfold State.acceptSetting
  simp (maxDischargeDepth := 30) (contextual := true) only [kept_mk, *]

@[simp] theorem State.acceptOctets_kept (s : State) (k : Nat) (v : List Byte) (h : Kept q o s) :
    Kept q o (State.acceptOctets s k v) := by
  unfold State.acceptOctets
  simp (maxDischargeDepth := 30) (contextual := true) only [kept_mk, *]

@[simp] theorem State.raise_kept (s : State) (code : W16) (h' : Handle) (param : W32) (aux : W16) (h : Kept q o s) :
    Kept q o (State.raise s code h' param aux) := by
  unfold State.raise
  (repeat' split) <;> simp (maxDischargeDepth := 30) (contextual := true) only [kept_mk, State.modDie_kept, *]

@[simp] theorem State.event_kept (s : State) (code : W16) (h' : Handle) (h : Kept q o s) :
    Kept q o (State.event s code h') := by
  unfold State.event
  simp (maxDischargeDepth := 30) (contextual := true) only [State.raise_kept, *]

@[simp] theorem State.deviceEvent_kept (s : State) (code : W16) (aux : Nat) (h : Kept q o s) :
    Kept q o (State.deviceEvent s code aux) := by
  unfold State.deviceEvent
  simp (maxDischargeDepth := 30) (contextual := true) only [State.raise_kept, *]

@[simp] theorem State.tileUpdate_kept (s : State) (t : TileId) (n : Byte) (op : TsOp) (poison : Bool) (vis : Nat) (h : Kept q o s) :
    Kept q o (State.tileUpdate s t n op poison vis) := by
  unfold State.tileUpdate
  simp (maxDischargeDepth := 30) (contextual := true) only [kept_mk, kept_ite, implies_true, State.setTile_kept,
    State.raise_kept, *]

@[simp] theorem State.globalEdge_kept (s : State) (n : Nat) (h : Kept q o s) :
    Kept q o (State.globalEdge s n) := by
  unfold State.globalEdge
  simp (maxDischargeDepth := 30) (contextual := true) only [kept_mk, kept_foldl, implies_true, State.deviceEvent_kept, *]

@[simp] theorem State.broadcast_kept (s : State) (n : Nat) (x : Ts) (h : Kept q o s) :
    Kept q o (State.broadcast s n x) := by
  unfold State.broadcast
  simp (maxDischargeDepth := 30) (contextual := true) only [kept_forAll, implies_true, State.modDie_kept, *]

@[simp] theorem State.globalUpdate_kept (s : State) (n : Byte) (op : TsOp) (poison : Bool) (h : Kept q o s) :
    Kept q o (State.globalUpdate s n op poison) := by
  unfold State.globalUpdate
  simp (maxDischargeDepth := 30) (contextual := true) only [kept_mk, kept_ite, implies_true, State.raise_kept,
    State.globalEdge_kept, State.broadcast_kept, *]

@[simp] theorem State.sendGlobal_kept (s : State) (t : TileId) (n : Byte) (op : TsOp) (poison : Bool) (h : Kept q o s) :
    Kept q o (State.sendGlobal s t n op poison) := by
  unfold State.sendGlobal
  simp (maxDischargeDepth := 30) (contextual := true) only [kept_mk, *]

@[simp] theorem State.doneAdd_kept (s : State) (src : TileId) (d : DoneTo) (poison : Bool) (wait : Nat) (h : Kept q o s) :
    Kept q o (State.doneAdd s src d poison wait) := by
  unfold State.doneAdd
  (repeat' split) <;> simp (maxDischargeDepth := 30) (contextual := true) only [kept_mk, kept_forAll, implies_true,
    State.tileUpdate_kept, *]

@[simp] theorem State.applyDone_kept (s : State) (src : TileId) (d : DoneTo) (poison : Bool) (h : Kept q o s) :
    Kept q o (State.applyDone s src d poison) := State.doneAdd_kept s src d poison 0 h

@[simp] theorem State.landDone_kept (s : State) (src : TileId) (d : DoneTo) (poison : Bool) (h : Kept q o s) :
    Kept q o (State.landDone s src d poison) := State.doneAdd_kept s src d poison 1 h

@[simp] theorem State.applyHubDone_kept (s : State) (d : DoneTo) (poison : Bool) (h : Kept q o s) :
    Kept q o (State.applyHubDone s d poison) := by
  unfold State.applyHubDone
  (repeat' split) <;> simp (maxDischargeDepth := 30) (contextual := true) only [State.globalUpdate_kept, State.applyDone_kept, *]

@[simp] theorem State.landHubDone_kept (s : State) (d : DoneTo) (poison : Bool) (h : Kept q o s) :
    Kept q o (State.landHubDone s d poison) := by
  unfold State.landHubDone
  (repeat' split) <;> simp (maxDischargeDepth := 30) (contextual := true) only [State.globalUpdate_kept, State.landDone_kept, *]

@[simp] theorem State.narrowWrite_kept (s : State) (t : TileId) (n : Nat) (r : Row) (h : Kept q o s) :
    Kept q o (State.narrowWrite s t n r) := by
  unfold State.narrowWrite
  (repeat' split) <;> simp (maxDischargeDepth := 30) (contextual := true) only [kept_mk, kept_ite, kept_ite_fst, kept_foldl, kept_foldl_fst,
    kept_forAll, kept_after, implies_true, State.modTile_kept, *]

@[simp] theorem State.readRow_kept (s : State) (t : TileId) (row : Nat) (upset : BitVec 32) (h : Kept q o s) :
    Kept q o (State.readRow s t row upset).1 := by
  unfold State.readRow
  (repeat' split) <;> simp (maxDischargeDepth := 30) (contextual := true) only [kept_mk, kept_ite, kept_ite_fst, kept_foldl, kept_foldl_fst,
    kept_forAll, kept_after, implies_true, State.modTile_kept, State.event_kept, *]

@[simp] theorem State.remoteWrite_kept (s : State) (t : TileId) (writer : Nat) (row : Nat) (r : Row) (h : Kept q o s) :
    Kept q o (State.remoteWrite s t writer row r).1 := by
  unfold State.remoteWrite
  (repeat' split) <;> simp (maxDischargeDepth := 30) (contextual := true) only [kept_mk, kept_ite, kept_ite_fst, kept_foldl, kept_foldl_fst,
    kept_forAll, kept_after, implies_true, State.setTile_kept, State.narrowWrite_kept, State.event_kept, *]

@[simp] theorem State.remoteWrites_kept (s : State) (t : TileId) (writer : Nat) (first : Nat) (a0 : List Row) (h : Kept q o s) :
    Kept q o (State.remoteWrites s t writer first a0).1 := by
  induction a0 generalizing s first with
  | nil => exact h
  | cons r rs ih => exact ih _ _ (State.remoteWrite_kept s t writer first r h)

/-! ### Phases -/

@[simp] theorem State.setPhase_kept (s : State) (p : Nat) (x : Phase) (h : Kept q o s) :
    Kept q o (State.setPhase s p x) := by
  unfold State.setPhase
  simp (maxDischargeDepth := 30) (contextual := true) only [kept_mk, *]

@[simp] theorem State.openOcc_kept (s : State) (t : TileId) (h : Kept q o s) :
    Kept q o (State.openOcc s t) := by
  unfold State.openOcc
  simp (maxDischargeDepth := 30) (contextual := true) only [kept_mk, *]

@[simp] theorem State.endHint_kept (s : State) (t : TileId) (h : Kept q o s) :
    Kept q o (State.endHint s t) := by
  unfold State.endHint
  dsimp only; (repeat' split) <;> simp (maxDischargeDepth := 30) (contextual := true) only [kept_mk, State.setPhase_kept, *]

@[simp] theorem State.applyFt_kept (s : State) (d : DieId) (h : Kept q o s) :
    Kept q o (State.applyFt s d) := by
  unfold State.applyFt
  simp (maxDischargeDepth := 30) (contextual := true) only [kept_foldl, implies_true, State.modDie_kept, State.setPhase_kept, *]

/-! ### Seq -/

@[simp] theorem State.copyCycle_kept (s : State) (t : TileId) (h : Kept q o s) :
    Kept q o (State.copyCycle s t) := by
  unfold State.copyCycle
  (repeat' split) <;> simp (maxDischargeDepth := 30) (contextual := true) only [kept_mk, kept_ite, kept_ite_fst, kept_foldl, kept_foldl_fst,
    kept_forAll, kept_after, implies_true, State.readRow_kept, State.modTile_kept, *]

@[simp] theorem State.moveCycle_kept (s : State) (t : TileId) (id : Nat) (h : Kept q o s) :
    Kept q o (State.moveCycle s t id) := by
  unfold State.moveCycle
  (repeat' split) <;> simp (maxDischargeDepth := 30) (contextual := true) only [kept_mk, kept_ite, kept_ite_fst, kept_foldl, kept_foldl_fst,
    kept_forAll, kept_after, implies_true, State.readRow_kept, State.setTile_kept, *]

@[simp] theorem State.moveTick_kept (s : State) (t : TileId) (h : Kept q o s) :
    Kept q o (State.moveTick s t) := by
  unfold State.moveTick
  (repeat' split) <;> simp (maxDischargeDepth := 30) (contextual := true) only [kept_mk, kept_ite, kept_ite_fst, kept_foldl, kept_foldl_fst,
    kept_forAll, kept_after, implies_true, State.moveCycle_kept, State.modTile_kept, *]

@[simp] theorem State.wideClash_kept (s : State) (t : TileId) (h : Kept q o s) :
    Kept q o (State.wideClash s t) := by
  unfold State.wideClash
  simp (maxDischargeDepth := 30) (contextual := true) only [State.modTile_kept, State.raise_kept, *]

@[simp] theorem State.advance_kept (s : State) (t : TileId) (h : Kept q o s) :
    Kept q o (State.advance s t) := by
  unfold State.advance
  (repeat' split) <;> simp (maxDischargeDepth := 30) (contextual := true) only [kept_mk, kept_ite, kept_ite_fst, kept_foldl, kept_foldl_fst,
    kept_forAll, kept_after, implies_true, State.wideClash_kept, State.moveTick_kept, State.modTile_kept,
    State.copyCycle_kept, *]

@[simp] theorem State.tailCycles_kept (s : State) (t : TileId) (n : Nat) (h : Kept q o s) :
    Kept q o (State.tailCycles s t n) := by
  induction n generalizing s with
  | zero => exact h
  | succ n ih => exact ih _ (State.modTile_kept _ _ _ (State.moveTick_kept s t h))

@[simp] theorem State.badWord_kept (s : State) (t : TileId) (w : WordTag) (h : Kept q o s) :
    Kept q o (State.badWord s t w) := by
  unfold State.badWord
  simp (maxDischargeDepth := 30) (contextual := true) only [kept_ite, implies_true, State.setTile_kept, State.raise_kept, *]

@[simp] theorem State.countFixed_kept (s : State) (t : TileId) (n : Nat) (h : Kept q o s) :
    Kept q o (State.countFixed s t n) := by
  unfold State.countFixed
  (repeat' split) <;> simp (maxDischargeDepth := 30) (contextual := true) only [kept_mk, kept_ite, kept_ite_fst, kept_foldl, kept_foldl_fst,
    kept_forAll, kept_after, implies_true, State.modTile_kept, *]

@[simp] theorem State.issue_kept (s : State) (t : TileId) (w : WordTag) (c : FieldClass) (ok : Bool) (f : State → State) (h : Kept q o s) (hf : ∀ (x0 : State), Kept q o x0 → Kept q o (f x0)) :
    Kept q o (State.issue s t w c ok f) := by
  unfold State.issue
  simp (maxDischargeDepth := 30) (contextual := true) only [kept_ite, implies_true, State.advance_kept, State.badWord_kept,
    State.countFixed_kept, *]

@[simp] theorem State.landEffect_kept (s : State) (t : TileId) (a0 : LandEffect) (h : Kept q o s) :
    Kept q o (State.landEffect s t a0) := by
  unfold State.landEffect
  (repeat' split) <;> simp (maxDischargeDepth := 30) (contextual := true) only [State.modTile_kept, State.modEngine_kept, *]

@[simp] theorem execResultLanding_kept (t : TileId) (s : State) (h : Kept q o s) :
    KeptO q o (execResultLanding t s) := by
  unfold execResultLanding
  refine keptO_next ?_
  dsimp only; (repeat' split) <;> simp (maxDischargeDepth := 30) (contextual := true) only [State.setTile_kept,
    State.landEffect_kept, *]

@[simp] theorem execLoop_kept (t : TileId) (w : WordTag) (last : BitVec 13) (trips : BitVec 11) (s : State) (h : Kept q o s) :
    KeptO q o (execLoop t w last trips s) := by
  unfold execLoop
  refine keptO_next ?_
  refine State.issue_kept _ _ _ _ _ _ h ?_; intro x hx; simp (maxDischargeDepth := 30) (contextual := true) only [State.modTile_kept, *]

@[simp] theorem execVar_kept (t : TileId) (w : WordTag) (group : Fin 16) (s : State) (h : Kept q o s) :
    KeptO q o (execVar t w group s) := by
  unfold execVar
  refine keptO_next ?_
  refine State.issue_kept _ _ _ _ _ _ h ?_; intro x hx; (repeat' split) <;> simp (maxDischargeDepth := 30) (contextual := true) only [State.modTile_kept, *]

@[simp] theorem execPend_kept (t : TileId) (w : WordTag) (s : State) (h : Kept q o s) :
    KeptO q o (execPend t w s) := by
  unfold execPend
  refine keptO_next ?_
  refine State.issue_kept _ _ _ _ _ _ h ?_; intro x hx; simp (maxDischargeDepth := 30) (contextual := true) only [State.modTile_kept, *]

@[simp] theorem execWin_kept (t : TileId) (w : WordTag) (latch : Fin 4) (reg : Fin 16) (s : State) (h : Kept q o s) :
    KeptO q o (execWin t w latch reg s) := by
  unfold execWin
  refine keptO_next ?_
  refine State.issue_kept _ _ _ _ _ _ h ?_; intro x hx; simp (maxDischargeDepth := 30) (contextual := true) only [kept_ite,
    implies_true, State.modTile_kept, State.raise_kept, *]

@[simp] theorem execHint_kept (t : TileId) (w : WordTag) (phase : Byte) (s : State) (h : Kept q o s) :
    KeptO q o (execHint t w phase s) := by
  unfold execHint
  refine keptO_next ?_
  refine State.issue_kept _ _ _ _ _ _ h ?_; intro x hx; simp (maxDischargeDepth := 30) (contextual := true) only [State.modTile_kept, State.openOcc_kept, State.endHint_kept, State.applyFt_kept, *]

@[simp] theorem State.fendArrival_kept (s : State) (t : TileId) (poison : Bool) (h : Kept q o s) :
    Kept q o (State.fendArrival s t poison) := by
  unfold State.fendArrival
  simp (maxDischargeDepth := 30) (contextual := true) only [State.sendGlobal_kept, *]

@[simp] theorem execFend_kept (t : TileId) (w : WordTag) (s : State) (h : Kept q o s) :
    KeptO q o (execFend t w s) := by
  unfold execFend
  refine keptO_next ?_
  refine State.issue_kept _ _ _ _ _ _ h ?_; intro x hx; simp (maxDischargeDepth := 30) (contextual := true) only [State.modTile_kept, State.endHint_kept, State.applyFt_kept, State.fendArrival_kept, *]

@[simp] theorem execNopWord_kept (t : TileId) (bad : Bool) (s : State) (h : Kept q o s) :
    KeptO q o (execNopWord t bad s) := by
  unfold execNopWord
  refine keptO_next ?_
  refine State.issue_kept _ _ _ _ _ _ h ?_; intro x hx; simp (maxDischargeDepth := 30) (contextual := true) only [*]

/-! ### Turnstile -/

@[simp] theorem State.sendUpdate_kept (s : State) (t : TileId) (sc : SynScope) (n : Byte) (op : TsOp) (h : Kept q o s) :
    Kept q o (State.sendUpdate s t sc n op) := by
  unfold State.sendUpdate
  (repeat' split) <;> simp (maxDischargeDepth := 30) (contextual := true) only [kept_forAll, implies_true,
    State.tileUpdate_kept, State.sendGlobal_kept, *]

@[simp] theorem execArrive_kept (t : TileId) (w : WordTag) (sc : SynScope) (n : Byte) (s : State) (h : Kept q o s) :
    KeptO q o (execArrive t w sc n s) := by
  unfold execArrive
  refine keptO_next ?_
  refine State.issue_kept _ _ _ _ _ _ h ?_; intro x hx; simp (maxDischargeDepth := 30) (contextual := true) only [State.sendUpdate_kept, *]

@[simp] theorem execSynAdd_kept (t : TileId) (w : WordTag) (sc : SynScope) (n : Byte) (value : BitVec 14) (s : State) (h : Kept q o s) :
    KeptO q o (execSynAdd t w sc n value s) := by
  unfold execSynAdd
  refine keptO_next ?_
  refine State.issue_kept _ _ _ _ _ _ h ?_; intro x hx; simp (maxDischargeDepth := 30) (contextual := true) only [State.sendUpdate_kept, *]

@[simp] theorem execReset_kept (t : TileId) (w : WordTag) (sc : SynScope) (n : Byte) (value : BitVec 14) (s : State) (h : Kept q o s) :
    KeptO q o (execReset t w sc n value s) := by
  unfold execReset
  refine keptO_next ?_
  refine State.issue_kept _ _ _ _ _ _ h ?_; intro x hx; simp (maxDischargeDepth := 30) (contextual := true) only [State.sendUpdate_kept, *]

@[simp] theorem execPoison_kept (t : TileId) (w : WordTag) (sc : SynScope) (n : Byte) (s : State) (h : Kept q o s) :
    KeptO q o (execPoison t w sc n s) := by
  unfold execPoison
  refine keptO_next ?_
  refine State.issue_kept _ _ _ _ _ _ h ?_; intro x hx; simp (maxDischargeDepth := 30) (contextual := true) only [State.sendUpdate_kept, *]

@[simp] theorem State.completeWait_kept (s : State) (t : TileId) (sc : SynScope) (n : Byte) (h : Kept q o s) :
    Kept q o (State.completeWait s t sc n) := by
  unfold State.completeWait
  simp (maxDischargeDepth := 30) (contextual := true) only [State.modTile_kept, *]

@[simp] theorem State.enterWait_kept (s : State) (t : TileId) (h : Kept q o s) :
    Kept q o (State.enterWait s t) := by
  unfold State.enterWait
  simp (maxDischargeDepth := 30) (contextual := true) only [kept_forAll, implies_true, State.modDie_kept, *]

@[simp] theorem execWait_kept (t : TileId) (w : WordTag) (sc : SynScope) (n : Byte) (rel : Bool) (value : BitVec 14) (s : State) (h : Kept q o s) :
    KeptO q o (execWait t w sc n rel value s) := by
  unfold execWait
  refine keptO_next ?_
  simp (maxDischargeDepth := 30) (contextual := true) only [kept_ite, implies_true, State.modTile_kept, State.issue_kept,
    State.completeWait_kept, State.enterWait_kept, *]

@[simp] theorem State.applyBatch_kept (s : State) (n : Byte) (us : List GlobalUpdate) (h : Kept q o s) :
    Kept q o (State.applyBatch s n us) := by
  unfold State.applyBatch
  simp (maxDischargeDepth := 30) (contextual := true) only [kept_mk, kept_ite, kept_foldl, implies_true, State.raise_kept,
    State.globalUpdate_kept, *]

@[simp] theorem State.arriveGlobal_kept (s : State) (h : Kept q o s) :
    Kept q o (State.arriveGlobal s) := by
  unfold State.arriveGlobal
  dsimp only; (repeat' split) <;> simp (maxDischargeDepth := 30) (contextual := true) only [kept_mk, State.applyBatch_kept, *]

@[simp] theorem execShadowUpdate_kept (d : DieId) (s : State) (h : Kept q o s) :
    KeptO q o (execShadowUpdate d s) := by
  unfold execShadowUpdate
  refine keptO_next ?_
  (repeat' split) <;> simp (maxDischargeDepth := 30) (contextual := true) only [kept_mk, State.modDie_kept, *]

end Sys2Proof.Machine
end

