-- ==== Sys2Proof/Laws/KeptTile.lean ====
section
/-!
SUPPORT. What is kept by what the commands of a slot do to a tile: the queue of waiting commands, whether the device is in Off, and State.Sound.
-/
set_option linter.unusedSimpArgs false
set_option linter.unusedVariables false
namespace Sys2Proof.Machine

variable {q : List Instr × Bool} {o : Bool} {s : State}

/-! ### Mem -/

@[simp] theorem State.wideRead_kept (s : State) (t : TileId) (row : Nat) (upset : BitVec 32) (h : Kept q o s) :
    Kept q o (State.wideRead s t row upset).1 := by
  unfold State.wideRead
  (repeat' split) <;> simp (maxDischargeDepth := 30) (contextual := true) only [kept_mk, kept_ite, kept_ite_fst, kept_foldl, kept_foldl_fst,
    kept_forAll, kept_after, implies_true, State.readRow_kept, State.modTile_kept, *]

@[simp] theorem execRd_kept (t : TileId) (w : WordTag) (row : BitVec 13) (str : BitVec 6) (vreg : Fin 32) (upset : BitVec 32) (s : State) (h : Kept q o s) :
    KeptO q o (execRd t w row str vreg upset s) := by
  unfold execRd
  refine keptO_next ?_
  refine State.issue_kept _ _ _ _ _ _ h ?_; intro x hx; simp (maxDischargeDepth := 30) (contextual := true) only [State.modTile_kept, State.wideRead_kept, *]

@[simp] theorem execWr_kept (t : TileId) (w : WordTag) (row : BitVec 13) (str : BitVec 6) (vreg : Fin 32) (st : Bool) (tag : Byte) (fmt : VFmt) (rs : Bool) (re : Bool) (s : State) (h : Kept q o s) :
    KeptO q o (execWr t w row str vreg st tag fmt rs re s) := by
  unfold execWr
  refine keptO_next ?_
  refine State.issue_kept _ _ _ _ _ _ h ?_; intro x hx; simp (maxDischargeDepth := 30) (contextual := true) only [kept_ite,
    implies_true, State.modTile_kept, State.wideClash_kept, *]

@[simp] theorem execFeed_kept (t : TileId) (w : WordTag) (row : BitVec 13) (str : BitVec 6) (emask : BitVec 16) (part : Fin 16) (fidx : Byte) (upset : BitVec 32) (s : State) (h : Kept q o s) :
    KeptO q o (execFeed t w row str emask part fidx upset s) := by
  unfold execFeed
  refine keptO_next ?_
  refine State.issue_kept _ _ _ _ _ _ h ?_; intro x hx; (repeat' split) <;> simp (maxDischargeDepth := 30) (contextual := true) only [kept_foldl, implies_true, State.modTile_kept, State.wideRead_kept, *]

@[simp] theorem execFill_kept (t : TileId) (w : WordTag) (row : BitVec 13) (str : BitVec 6) (vreg : Fin 32) (countM1 : BitVec 13) (s : State) (h : Kept q o s) :
    KeptO q o (execFill t w row str vreg countM1 s) := by
  unfold execFill
  refine keptO_next ?_
  refine State.issue_kept _ _ _ _ _ _ h ?_; intro x hx; simp (maxDischargeDepth := 30) (contextual := true) only [State.modTile_kept, *]

@[simp] theorem execMemCopy_kept (t : TileId) (w : WordTag) (row : BitVec 13) (str : BitVec 6) (dst : BitVec 13) (countM1 : BitVec 13) (upset : List (Nat × BitVec 32)) (s : State) (h : Kept q o s) :
    KeptO q o (execMemCopy t w row str dst countM1 upset s) := by
  unfold execMemCopy
  refine keptO_next ?_
  (repeat' split) <;> simp (maxDischargeDepth := 30) (contextual := true) only [kept_mk, kept_ite, kept_ite_fst, kept_foldl, kept_foldl_fst,
    kept_forAll, kept_after, implies_true, State.issue_kept, State.modTile_kept, *]

/-! ### Vector -/

@[simp] theorem State.landVec_kept (s : State) (t : TileId) (latency : Nat) (vd : Fin 32) (w : Nat) (n : Nat) (val : Nat → FRes) (pois : Nat → Bool) (h : Kept q o s) :
    Kept q o (State.landVec s t latency vd w n val pois) := by
  unfold State.landVec
  simp (maxDischargeDepth := 30) (contextual := true) only [State.modTile_kept, State.takeFree_kept, *]

@[simp] theorem State.vec1_kept (s : State) (t : TileId) (w : WordTag) (ok : Bool) (lat : Nat) (f : VFmt) (vd : Fin 32) (va : Fin 32) (op : Nat → FRes) (h : Kept q o s) :
    Kept q o (State.vec1 s t w ok lat f vd va op) := by
  unfold State.vec1
  refine State.issue_kept _ _ _ _ _ _ h ?_; intro x hx; simp (maxDischargeDepth := 30) (contextual := true) only [State.landVec_kept, *]

@[simp] theorem State.vec2_kept (s : State) (t : TileId) (w : WordTag) (ok : Bool) (lat : Nat) (f : VFmt) (vd : Fin 32) (va : Fin 32) (vb : Fin 32) (op : Nat → Nat → FRes) (h : Kept q o s) :
    Kept q o (State.vec2 s t w ok lat f vd va vb op) := by
  unfold State.vec2
  refine State.issue_kept _ _ _ _ _ _ h ?_; intro x hx; simp (maxDischargeDepth := 30) (contextual := true) only [State.landVec_kept, *]

@[simp] theorem State.vec3_kept (s : State) (t : TileId) (w : WordTag) (ok : Bool) (lat : Nat) (f : VFmt) (vd : Fin 32) (va : Fin 32) (vb : Fin 32) (vc : Fin 32) (op : Nat → Nat → Nat → FRes) (h : Kept q o s) :
    Kept q o (State.vec3 s t w ok lat f vd va vb vc op) := by
  unfold State.vec3
  refine State.issue_kept _ _ _ _ _ _ h ?_; intro x hx; simp (maxDischargeDepth := 30) (contextual := true) only [State.landVec_kept, *]

@[simp] theorem execVecAdd_kept (t : TileId) (w : WordTag) (f : VFmt) (vd : Fin 32) (va : Fin 32) (vb : Fin 32) (s : State) (h : Kept q o s) :
    KeptO q o (execVecAdd t w f vd va vb s) := by
  unfold execVecAdd
  refine keptO_next ?_
  simp (maxDischargeDepth := 30) (contextual := true) only [State.vec2_kept, *]

@[simp] theorem execSub_kept (t : TileId) (w : WordTag) (f : VFmt) (vd : Fin 32) (va : Fin 32) (vb : Fin 32) (s : State) (h : Kept q o s) :
    KeptO q o (execSub t w f vd va vb s) := by
  unfold execSub
  refine keptO_next ?_
  simp (maxDischargeDepth := 30) (contextual := true) only [State.vec2_kept, *]

@[simp] theorem execMul_kept (t : TileId) (w : WordTag) (f : VFmt) (vd : Fin 32) (va : Fin 32) (vb : Fin 32) (s : State) (h : Kept q o s) :
    KeptO q o (execMul t w f vd va vb s) := by
  unfold execMul
  refine keptO_next ?_
  simp (maxDischargeDepth := 30) (contextual := true) only [State.vec2_kept, *]

@[simp] theorem execFma_kept (t : TileId) (w : WordTag) (f : VFmt) (vd : Fin 32) (va : Fin 32) (vb : Fin 32) (vc : Fin 32) (s : State) (h : Kept q o s) :
    KeptO q o (execFma t w f vd va vb vc s) := by
  unfold execFma
  refine keptO_next ?_
  simp (maxDischargeDepth := 30) (contextual := true) only [State.vec3_kept, *]

@[simp] theorem execMax_kept (t : TileId) (w : WordTag) (f : VFmt) (vd : Fin 32) (va : Fin 32) (vb : Fin 32) (s : State) (h : Kept q o s) :
    KeptO q o (execMax t w f vd va vb s) := by
  unfold execMax
  refine keptO_next ?_
  simp (maxDischargeDepth := 30) (contextual := true) only [State.vec2_kept, *]

@[simp] theorem execMin_kept (t : TileId) (w : WordTag) (f : VFmt) (vd : Fin 32) (va : Fin 32) (vb : Fin 32) (s : State) (h : Kept q o s) :
    KeptO q o (execMin t w f vd va vb s) := by
  unfold execMin
  refine keptO_next ?_
  simp (maxDischargeDepth := 30) (contextual := true) only [State.vec2_kept, *]

@[simp] theorem execAbs_kept (t : TileId) (w : WordTag) (f : VFmt) (vd : Fin 32) (va : Fin 32) (s : State) (h : Kept q o s) :
    KeptO q o (execAbs t w f vd va s) := by
  unfold execAbs
  refine keptO_next ?_
  simp (maxDischargeDepth := 30) (contextual := true) only [State.vec1_kept, *]

@[simp] theorem execNeg_kept (t : TileId) (w : WordTag) (f : VFmt) (vd : Fin 32) (va : Fin 32) (s : State) (h : Kept q o s) :
    KeptO q o (execNeg t w f vd va s) := by
  unfold execNeg
  refine keptO_next ?_
  simp (maxDischargeDepth := 30) (contextual := true) only [State.vec1_kept, *]

@[simp] theorem execWadd_kept (t : TileId) (w : WordTag) (f : VFmt) (vd : Fin 32) (va : Fin 32) (vb : Fin 32) (s : State) (h : Kept q o s) :
    KeptO q o (execWadd t w f vd va vb s) := by
  unfold execWadd
  refine keptO_next ?_
  simp (maxDischargeDepth := 30) (contextual := true) only [State.vec2_kept, *]

@[simp] theorem execCmpeq_kept (t : TileId) (w : WordTag) (f : VFmt) (vd : Fin 32) (va : Fin 32) (vb : Fin 32) (s : State) (h : Kept q o s) :
    KeptO q o (execCmpeq t w f vd va vb s) := by
  unfold execCmpeq
  refine keptO_next ?_
  simp (maxDischargeDepth := 30) (contextual := true) only [State.vec2_kept, *]

@[simp] theorem execCmplt_kept (t : TileId) (w : WordTag) (f : VFmt) (vd : Fin 32) (va : Fin 32) (vb : Fin 32) (s : State) (h : Kept q o s) :
    KeptO q o (execCmplt t w f vd va vb s) := by
  unfold execCmplt
  refine keptO_next ?_
  simp (maxDischargeDepth := 30) (contextual := true) only [State.vec2_kept, *]

@[simp] theorem execCmple_kept (t : TileId) (w : WordTag) (f : VFmt) (vd : Fin 32) (va : Fin 32) (vb : Fin 32) (s : State) (h : Kept q o s) :
    KeptO q o (execCmple t w f vd va vb s) := by
  unfold execCmple
  refine keptO_next ?_
  simp (maxDischargeDepth := 30) (contextual := true) only [State.vec2_kept, *]

@[simp] theorem execSel_kept (t : TileId) (w : WordTag) (f : VFmt) (vd : Fin 32) (va : Fin 32) (vb : Fin 32) (vc : Fin 32) (s : State) (h : Kept q o s) :
    KeptO q o (execSel t w f vd va vb vc s) := by
  unfold execSel
  refine keptO_next ?_
  simp (maxDischargeDepth := 30) (contextual := true) only [State.vec3_kept, *]

@[simp] theorem execAnd_kept (t : TileId) (w : WordTag) (f : VFmt) (vd : Fin 32) (va : Fin 32) (vb : Fin 32) (s : State) (h : Kept q o s) :
    KeptO q o (execAnd t w f vd va vb s) := by
  unfold execAnd
  refine keptO_next ?_
  simp (maxDischargeDepth := 30) (contextual := true) only [State.vec2_kept, *]

@[simp] theorem execOr_kept (t : TileId) (w : WordTag) (f : VFmt) (vd : Fin 32) (va : Fin 32) (vb : Fin 32) (s : State) (h : Kept q o s) :
    KeptO q o (execOr t w f vd va vb s) := by
  unfold execOr
  refine keptO_next ?_
  simp (maxDischargeDepth := 30) (contextual := true) only [State.vec2_kept, *]

@[simp] theorem execXor_kept (t : TileId) (w : WordTag) (f : VFmt) (vd : Fin 32) (va : Fin 32) (vb : Fin 32) (s : State) (h : Kept q o s) :
    KeptO q o (execXor t w f vd va vb s) := by
  unfold execXor
  refine keptO_next ?_
  simp (maxDischargeDepth := 30) (contextual := true) only [State.vec2_kept, *]

@[simp] theorem execShl_kept (t : TileId) (w : WordTag) (f : VFmt) (vd : Fin 32) (va : Fin 32) (imm : Byte) (s : State) (h : Kept q o s) :
    KeptO q o (execShl t w f vd va imm s) := by
  unfold execShl
  refine keptO_next ?_
  simp (maxDischargeDepth := 30) (contextual := true) only [State.vec1_kept, *]

@[simp] theorem execShra_kept (t : TileId) (w : WordTag) (f : VFmt) (vd : Fin 32) (va : Fin 32) (imm : Byte) (s : State) (h : Kept q o s) :
    KeptO q o (execShra t w f vd va imm s) := by
  unfold execShra
  refine keptO_next ?_
  simp (maxDischargeDepth := 30) (contextual := true) only [State.vec1_kept, *]

@[simp] theorem execRcp_kept (t : TileId) (w : WordTag) (f : VFmt) (vd : Fin 32) (va : Fin 32) (s : State) (h : Kept q o s) :
    KeptO q o (execRcp t w f vd va s) := by
  unfold execRcp
  refine keptO_next ?_
  simp (maxDischargeDepth := 30) (contextual := true) only [State.vec1_kept, *]

@[simp] theorem execRsqrt_kept (t : TileId) (w : WordTag) (f : VFmt) (vd : Fin 32) (va : Fin 32) (s : State) (h : Kept q o s) :
    KeptO q o (execRsqrt t w f vd va s) := by
  unfold execRsqrt
  refine keptO_next ?_
  simp (maxDischargeDepth := 30) (contextual := true) only [State.vec1_kept, *]

@[simp] theorem execExp_kept (t : TileId) (w : WordTag) (f : VFmt) (vd : Fin 32) (va : Fin 32) (s : State) (h : Kept q o s) :
    KeptO q o (execExp t w f vd va s) := by
  unfold execExp
  refine keptO_next ?_
  simp (maxDischargeDepth := 30) (contextual := true) only [State.vec1_kept, *]

@[simp] theorem execCvt_kept (t : TileId) (w : WordTag) (f : VFmt) (vd : Fin 32) (va : Fin 32) (dst : VFmt) (part : Fin 4) (s : State) (h : Kept q o s) :
    KeptO q o (execCvt t w f vd va dst part s) := by
  unfold execCvt
  refine keptO_next ?_
  refine State.issue_kept _ _ _ _ _ _ h ?_; intro x hx; simp (maxDischargeDepth := 30) (contextual := true) only [State.landVec_kept, *]

@[simp] theorem execQnt_kept (t : TileId) (w : WordTag) (f : VFmt) (vd : Fin 32) (va : Fin 32) (vb : Fin 32) (vc : Fin 32) (tag : Byte) (imm : Byte) (rs : Bool) (re : Bool) (s : State) (h : Kept q o s) :
    KeptO q o (execQnt t w f vd va vb vc tag imm rs re s) := by
  unfold execQnt
  refine keptO_next ?_
  refine State.issue_kept _ _ _ _ _ _ h ?_; intro x hx; (repeat' split) <;> simp (maxDischargeDepth := 30) (contextual := true) only [kept_ite, implies_true, State.modTile_kept, State.takeFree_kept, State.event_kept, *]

@[simp] theorem execPack_kept (t : TileId) (w : WordTag) (vd : Fin 32) (va : Fin 32) (vb : Fin 32) (nibbles : Bool) (s : State) (h : Kept q o s) :
    KeptO q o (execPack t w vd va vb nibbles s) := by
  unfold execPack
  refine keptO_next ?_
  refine State.issue_kept _ _ _ _ _ _ h ?_; intro x hx; simp (maxDischargeDepth := 30) (contextual := true) only [kept_ite,
    implies_true, State.landVec_kept, *]

@[simp] theorem execDq_kept (t : TileId) (w : WordTag) (vd : Fin 32) (va : Fin 32) (vb : Fin 32) (vc : Fin 32) (s : State) (h : Kept q o s) :
    KeptO q o (execDq t w vd va vb vc s) := by
  unfold execDq
  refine keptO_next ?_
  simp (maxDischargeDepth := 30) (contextual := true) only [State.vec3_kept, *]

@[simp] theorem execDqt_kept (t : TileId) (w : WordTag) (vd : Fin 32) (va : Fin 32) (vb : Fin 32) (vc : Fin 32) (entry : Fin 32) (s : State) (h : Kept q o s) :
    KeptO q o (execDqt t w vd va vb vc entry s) := by
  unfold execDqt
  refine keptO_next ?_
  simp (maxDischargeDepth := 30) (contextual := true) only [State.vec3_kept, *]

@[simp] theorem execVecRot_kept (t : TileId) (w : WordTag) (f : VFmt) (vd : Fin 32) (va : Fin 32) (imm : Byte) (s : State) (h : Kept q o s) :
    KeptO q o (execVecRot t w f vd va imm s) := by
  unfold execVecRot
  refine keptO_next ?_
  refine State.issue_kept _ _ _ _ _ _ h ?_; intro x hx; simp (maxDischargeDepth := 30) (contextual := true) only [State.landVec_kept, *]

@[simp] theorem execBcast_kept (t : TileId) (w : WordTag) (f : VFmt) (vd : Fin 32) (va : Fin 32) (imm : Byte) (s : State) (h : Kept q o s) :
    KeptO q o (execBcast t w f vd va imm s) := by
  unfold execBcast
  refine keptO_next ?_
  refine State.issue_kept _ _ _ _ _ _ h ?_; intro x hx; simp (maxDischargeDepth := 30) (contextual := true) only [State.landVec_kept, *]

@[simp] theorem execMacw_kept (t : TileId) (w : WordTag) (f : VFmt) (vd : Fin 32) (va : Fin 32) (vb : Fin 32) (part : Fin 4) (s : State) (h : Kept q o s) :
    KeptO q o (execMacw t w f vd va vb part s) := by
  unfold execMacw
  refine keptO_next ?_
  refine State.issue_kept _ _ _ _ _ _ h ?_; intro x hx; simp (maxDischargeDepth := 30) (contextual := true) only [State.landVec_kept, *]

@[simp] theorem State.vecReduce_kept (s : State) (t : TileId) (w : WordTag) (f : VFmt) (vd : Fin 32) (va : Fin 32) (op : Nat → Nat → FRes) (h : Kept q o s) :
    Kept q o (State.vecReduce s t w f vd va op) := by
  unfold State.vecReduce
  refine State.issue_kept _ _ _ _ _ _ h ?_; intro x hx; simp (maxDischargeDepth := 30) (contextual := true) only [State.landVec_kept, *]

@[simp] theorem execRsum_kept (t : TileId) (w : WordTag) (f : VFmt) (vd : Fin 32) (va : Fin 32) (s : State) (h : Kept q o s) :
    KeptO q o (execRsum t w f vd va s) := by
  unfold execRsum
  refine keptO_next ?_
  simp (maxDischargeDepth := 30) (contextual := true) only [State.vecReduce_kept, *]

@[simp] theorem execRmax_kept (t : TileId) (w : WordTag) (f : VFmt) (vd : Fin 32) (va : Fin 32) (s : State) (h : Kept q o s) :
    KeptO q o (execRmax t w f vd va s) := by
  unfold execRmax
  refine keptO_next ?_
  simp (maxDischargeDepth := 30) (contextual := true) only [State.vecReduce_kept, *]

@[simp] theorem execStclr_kept (t : TileId) (w : WordTag) (reg : Fin 16) (s : State) (h : Kept q o s) :
    KeptO q o (execStclr t w reg s) := by
  unfold execStclr
  refine keptO_next ?_
  refine State.issue_kept _ _ _ _ _ _ h ?_; intro x hx; simp (maxDischargeDepth := 30) (contextual := true) only [State.modTile_kept, *]

@[simp] theorem execStrd_kept (t : TileId) (w : WordTag) (vd : Fin 32) (reg : Fin 16) (s : State) (h : Kept q o s) :
    KeptO q o (execStrd t w vd reg s) := by
  unfold execStrd
  refine keptO_next ?_
  refine State.issue_kept _ _ _ _ _ _ h ?_; intro x hx; simp (maxDischargeDepth := 30) (contextual := true) only [State.modTile_kept, *]

@[simp] theorem execStwr_kept (t : TileId) (w : WordTag) (va : Fin 32) (reg : Fin 16) (s : State) (h : Kept q o s) :
    KeptO q o (execStwr t w va reg s) := by
  unfold execStwr
  refine keptO_next ?_
  refine State.issue_kept _ _ _ _ _ _ h ?_; intro x hx; simp (maxDischargeDepth := 30) (contextual := true) only [State.modTile_kept, *]

@[simp] theorem execFlrd_kept (t : TileId) (w : WordTag) (vd : Fin 32) (s : State) (h : Kept q o s) :
    KeptO q o (execFlrd t w vd s) := by
  unfold execFlrd
  refine keptO_next ?_
  refine State.issue_kept _ _ _ _ _ _ h ?_; intro x hx; simp (maxDischargeDepth := 30) (contextual := true) only [State.modTile_kept, *]

@[simp] theorem execFlclr_kept (t : TileId) (w : WordTag) (s : State) (h : Kept q o s) :
    KeptO q o (execFlclr t w s) := by
  unfold execFlclr
  refine keptO_next ?_
  refine State.issue_kept _ _ _ _ _ _ h ?_; intro x hx; simp (maxDischargeDepth := 30) (contextual := true) only [State.modTile_kept, *]

@[simp] theorem execWscl_kept (t : TileId) (w : WordTag) (vd : Fin 32) (latch : Fin 4) (s : State) (h : Kept q o s) :
    KeptO q o (execWscl t w vd latch s) := by
  unfold execWscl
  refine keptO_next ?_
  refine State.issue_kept _ _ _ _ _ _ h ?_; intro x hx; simp (maxDischargeDepth := 30) (contextual := true) only [State.modTile_kept, *]

/-! ### Array -/

@[simp] theorem State.evalEngine_kept (s : State) (e : EngineId) (block : Nat) (p : Nat) (isMatch : Bool) (clr : Bool) (bipolar : Bool) (bad : Bool) (issued : Nat) (h : Kept q o s) :
    Kept q o (State.evalEngine s e block p isMatch clr bipolar bad issued) := by
  unfold State.evalEngine
  simp (maxDischargeDepth := 30) (contextual := true) only [kept_ite, implies_true, State.setEngine_kept, State.event_kept, *]

@[simp] theorem execEval_kept (t : TileId) (w : WordTag) (emask : BitVec 16) (block : BitVec 11) (pw : Fin 4) (matchSense : Bool) (clr : Bool) (bipolar : Bool) (str : BitVec 6) (badEntries : BitVec 16) (s : State) (h : Kept q o s) :
    KeptO q o (execEval t w emask block pw matchSense clr bipolar str badEntries s) := by
  unfold execEval
  refine keptO_next ?_
  refine State.issue_kept _ _ _ _ _ _ h ?_; intro x hx; simp (maxDischargeDepth := 30) (contextual := true) only [kept_foldl,
    implies_true, State.evalEngine_kept, *]

@[simp] theorem execClear_kept (t : TileId) (w : WordTag) (emask : BitVec 16) (s : State) (h : Kept q o s) :
    KeptO q o (execClear t w emask s) := by
  unfold execClear
  refine keptO_next ?_
  refine State.issue_kept _ _ _ _ _ _ h ?_; intro x hx; simp (maxDischargeDepth := 30) (contextual := true) only [kept_foldl,
    implies_true, State.modEngine_kept, *]

@[simp] theorem State.flagLanes_kept (s : State) (e : EngineId) (ks : List Nat) (h : Kept q o s) :
    Kept q o (State.flagLanes s e ks) := by
  unfold State.flagLanes
  (repeat' split) <;> simp (maxDischargeDepth := 30) (contextual := true) only [kept_mk, kept_ite, kept_ite_fst, kept_foldl, kept_foldl_fst,
    kept_forAll, kept_after, implies_true, State.modEngine_kept, *]

@[simp] theorem execEngAdd_kept (t : TileId) (w : WordTag) (emask : BitVec 16) (toRows : Bool) (addr : BitVec 13) (str : BitVec 6) (s : State) (h : Kept q o s) :
    KeptO q o (execEngAdd t w emask toRows addr str s) := by
  unfold execEngAdd
  refine keptO_next ?_
  dsimp only
  (repeat' split) <;> simp (maxDischargeDepth := 30) (contextual := true) only [kept_mk, kept_ite, kept_ite_fst, kept_foldl, kept_foldl_fst,
    kept_forAll, kept_after, implies_true, State.issue_kept, State.modTile_kept, State.flagLanes_kept, State.event_kept,
    State.takeFree_kept, *]

@[simp] theorem State.slotEvents_kept (s : State) (e : EngineId) (h' : Handle) (p : PlaneSums) (h : Kept q o s) :
    Kept q o (State.slotEvents s e h' p) := by
  unfold State.slotEvents
  simp (maxDischargeDepth := 30) (contextual := true) only [kept_ite, implies_true, State.modEngine_kept, State.event_kept, *]

@[simp] theorem execArraySlot_kept (e : EngineId) (c : TdcCapture) (s : State) (h : Kept q o s) :
    KeptO q o (execArraySlot e c s) := by
  unfold execArraySlot
  refine keptO_next ?_
  dsimp only; (repeat' split) <;> simp (maxDischargeDepth := 30) (contextual := true) only [State.modEngine_kept,
    State.slotEvents_kept, *]

@[simp] theorem execLaneUpdate_kept (e : EngineId) (badEntries : List Nat) (s : State) (h : Kept q o s) :
    KeptO q o (execLaneUpdate e badEntries s) := by
  unfold execLaneUpdate
  refine keptO_next ?_
  dsimp only; (repeat' split) <;> simp (maxDischargeDepth := 30) (contextual := true) only [State.modTile_kept,
    State.setEngine_kept, State.takeFree_kept, State.event_kept, *]

/-! ### Move -/

@[simp] theorem State.refuseTransfer_kept (s : State) (t : TileId) (d : DoneTo) (h : Kept q o s) :
    Kept q o (State.refuseTransfer s t d) := by
  unfold State.refuseTransfer
  simp (maxDischargeDepth := 30) (contextual := true) only [State.event_kept, State.applyDone_kept, *]

@[simp] theorem State.withDesc_kept (s : State) (t : TileId) (n : BitVec 12) (k : XKind) (f : MoveDesc → State → State) (h : Kept q o s) (hf : ∀ (x0 : MoveDesc) (x1 : State), Kept q o x1 → Kept q o (f x0 x1)) :
    Kept q o (State.withDesc s t n k f) := by
  unfold State.withDesc
  (repeat' split) <;> simp (maxDischargeDepth := 30) (contextual := true) only [State.refuseTransfer_kept, *]

@[simp] theorem State.startMove_kept (s : State) (t : TileId) (row : Nat) (d : MoveDesc) (upset : List (Nat × BitVec 32)) (h : Kept q o s) :
    Kept q o (State.startMove s t row d upset) := by
  unfold State.startMove
  (repeat' split) <;> simp (maxDischargeDepth := 30) (contextual := true) only [kept_mk, kept_ite, kept_ite_fst, kept_foldl, kept_foldl_fst,
    kept_forAll, kept_after, implies_true, State.refuseTransfer_kept, State.setTile_kept, State.raise_kept, *]

@[simp] theorem execMove_kept (t : TileId) (w : WordTag) (desc : BitVec 12) (row : BitVec 13) (str : BitVec 6) (upset : List (Nat × BitVec 32)) (s : State) (h : Kept q o s) :
    KeptO q o (execMove t w desc row str upset s) := by
  unfold execMove
  refine keptO_next ?_
  (repeat' split) <;> simp (maxDischargeDepth := 30) (contextual := true) only [kept_mk, kept_ite, kept_ite_fst, kept_foldl, kept_foldl_fst,
    kept_forAll, kept_after, implies_true, State.issue_kept, State.withDesc_kept, State.startMove_kept, *]

@[simp] theorem State.startTransfer_kept (s : State) (t : TileId) (row : Nat) (d : MoveDesc) (h : Kept q o s) :
    Kept q o (State.startTransfer s t row d) := by
  unfold State.startTransfer
  simp (maxDischargeDepth := 30) (contextual := true) only [kept_mk, kept_ite, implies_true, State.setTile_kept,
    State.refuseTransfer_kept, *]

@[simp] theorem execLoad_kept (t : TileId) (w : WordTag) (desc : BitVec 12) (row : BitVec 13) (str : BitVec 6) (s : State) (h : Kept q o s) :
    KeptO q o (execLoad t w desc row str s) := by
  unfold execLoad
  refine keptO_next ?_
  refine State.issue_kept _ _ _ _ _ _ h ?_; intro x hx; simp (maxDischargeDepth := 30) (contextual := true) only [implies_true,
    State.withDesc_kept, State.startTransfer_kept, *]

@[simp] theorem execStore_kept (t : TileId) (w : WordTag) (desc : BitVec 12) (row : BitVec 13) (str : BitVec 6) (s : State) (h : Kept q o s) :
    KeptO q o (execStore t w desc row str s) := by
  unfold execStore
  refine keptO_next ?_
  refine State.issue_kept _ _ _ _ _ _ h ?_; intro x hx; simp (maxDischargeDepth := 30) (contextual := true) only [implies_true,
    State.withDesc_kept, State.startTransfer_kept, *]

@[simp] theorem execHload_kept (t : TileId) (w : WordTag) (desc : BitVec 12) (row : BitVec 13) (str : BitVec 6) (s : State) (h : Kept q o s) :
    KeptO q o (execHload t w desc row str s) := by
  unfold execHload
  refine keptO_next ?_
  refine State.issue_kept _ _ _ _ _ _ h ?_; intro x hx; simp (maxDischargeDepth := 30) (contextual := true) only [implies_true,
    State.withDesc_kept, State.startTransfer_kept, *]

@[simp] theorem execHstore_kept (t : TileId) (w : WordTag) (desc : BitVec 12) (row : BitVec 13) (str : BitVec 6) (s : State) (h : Kept q o s) :
    KeptO q o (execHstore t w desc row str s) := by
  unfold execHstore
  refine keptO_next ?_
  refine State.issue_kept _ _ _ _ _ _ h ?_; intro x hx; simp (maxDischargeDepth := 30) (contextual := true) only [implies_true,
    State.withDesc_kept, State.startTransfer_kept, *]

@[simp] theorem State.startTicket_kept (s : State) (t : TileId) (d : MoveDesc) (h : Kept q o s) :
    Kept q o (State.startTicket s t d) := by
  unfold State.startTicket
  (repeat' split) <;> simp (maxDischargeDepth := 30) (contextual := true) only [kept_mk, kept_ite, implies_true,
    State.setTile_kept, State.modTile_kept, State.applyDone_kept, State.refuseTransfer_kept, *]

@[simp] theorem execTicket_kept (t : TileId) (w : WordTag) (desc : BitVec 12) (_row : BitVec 13) (_str : BitVec 6) (s : State) (h : Kept q o s) :
    KeptO q o (execTicket t w desc _row _str s) := by
  unfold execTicket
  refine keptO_next ?_
  refine State.issue_kept _ _ _ _ _ _ h ?_; intro x hx; simp (maxDischargeDepth := 30) (contextual := true) only [implies_true,
    State.withDesc_kept, State.startTicket_kept, *]

@[simp] theorem State.endTicket_kept (s : State) (r : TicketReq) (refused : Bool) (h : Kept q o s) :
    Kept q o (State.endTicket s r refused) := by
  unfold State.endTicket
  (repeat' split) <;> simp (maxDischargeDepth := 30) (contextual := true) only [kept_mk, kept_foldl, implies_true,
    State.setTile_kept, State.applyDone_kept, State.applyHubDone_kept, State.landHubDone_kept, State.landDone_kept, *]

@[simp] theorem State.refusalEvents_kept (s : State) (t : TileId) (r : TicketReq) (h : Kept q o s) :
    Kept q o (State.refusalEvents s t r) := by
  unfold State.refusalEvents
  simp (maxDischargeDepth := 30) (contextual := true) only [kept_foldl, implies_true, State.event_kept, State.deviceEvent_kept, *]

@[simp] theorem State.agentRequest_kept (s : State) (holder : Nat) (unit : Nat) (t : TileId) (first : Nat) (rows : List Row) (d : DoneTo) (h : Kept q o s) :
    Kept q o (State.agentRequest s holder unit t first rows d) := by
  unfold State.agentRequest
  simp (maxDischargeDepth := 30) (contextual := true) only [kept_mk, *]

@[simp] theorem State.agentWrite_kept (s : State) (a : AgentWrite) (poison : Bool) (h : Kept q o s) :
    Kept q o (State.agentWrite s a poison) := by
  unfold State.agentWrite
  simp (maxDischargeDepth := 30) (contextual := true) only [kept_mk, State.applyHubDone_kept, State.landHubDone_kept, State.landDone_kept, State.remoteWrites_kept, *]

@[simp] theorem execTicketRequestReceived_kept (t : TileId) (s : State) (h : Kept q o s) :
    KeptO q o (execTicketRequestReceived t s) := by
  unfold execTicketRequestReceived
  refine keptO_next ?_
  (repeat' split) <;> simp (maxDischargeDepth := 30) (contextual := true) only [kept_mk, kept_ite, implies_true,
    State.setTile_kept, State.endTicket_kept, State.refusalEvents_kept, *]

@[simp] theorem execTicketGrant_kept (t : TileId) (s : State) (h : Kept q o s) :
    KeptO q o (execTicketGrant t s) := by
  unfold execTicketGrant
  refine keptO_next ?_
  dsimp only; (repeat' split) <;> simp (maxDischargeDepth := 30) (contextual := true) only [State.setTile_kept,
    State.endTicket_kept, *]

@[simp] theorem State.landRow_kept (s : State) (t : TileId) (r : FabricRow) (h : Kept q o s) :
    Kept q o (State.landRow s t r) := by
  unfold State.landRow
  (repeat' split) <;> simp (maxDischargeDepth := 30) (contextual := true) only [kept_mk, kept_ite, kept_ite_fst, kept_foldl, kept_foldl_fst,
    kept_forAll, kept_after, implies_true, State.remoteWrite_kept, State.landDone_kept, *]

@[simp] theorem State.landOwn_kept (s : State) (t : TileId) (r : FabricRow) (h : Kept q o s) :
    Kept q o (State.landOwn s t r) := by
  unfold State.landOwn
  (repeat' split) <;> simp (maxDischargeDepth := 30) (contextual := true) only [kept_mk, kept_ite, kept_ite_fst, kept_foldl, kept_foldl_fst,
    kept_forAll, kept_after, implies_true, State.landRow_kept, State.modTile_kept, State.raise_kept, *]

@[simp] theorem execMoveRowLanding_kept (t : TileId) (s : State) (h : Kept q o s) :
    KeptO q o (execMoveRowLanding t s) := by
  unfold execMoveRowLanding
  refine keptO_next ?_
  dsimp only
  (repeat' split) <;> simp (maxDischargeDepth := 30) (contextual := true) only [kept_mk, kept_ite, kept_ite_fst, kept_foldl, kept_foldl_fst,
    kept_forAll, kept_after, implies_true, State.landOwn_kept, State.modTile_kept, State.landRow_kept, *]

@[simp] theorem State.landTransferRow_kept (s : State) (t : TileId) (tag : Nat) (h : Kept q o s) :
    Kept q o (State.landTransferRow s t tag) := by
  unfold State.landTransferRow
  dsimp only
  (repeat' split) <;> simp (maxDischargeDepth := 30) (contextual := true) only [kept_mk, kept_ite, kept_ite_fst, kept_foldl, kept_foldl_fst,
    kept_forAll, kept_after, implies_true, State.setTile_kept, State.narrowWrite_kept, *]

@[simp] theorem State.landRest_kept (s : State) (t : TileId) (tag : Nat) (a0 : Nat) (h : Kept q o s) :
    Kept q o (State.landRest s t tag a0) := by
  induction a0 generalizing s with
  | zero => exact h
  | succ n ih => exact ih _ (State.landTransferRow_kept s t tag h)

@[simp] theorem State.storeRows_kept (s : State) (t : TileId) (tr : Transfer) (h : Kept q o s) :
    Kept q o (State.storeRows s t tr) := by
  have wf : ∀ (m : ByteMem) (a n : Nat) (bs : List (Nat × Nat)), ByteMem.wf m = true → ByteMem.wf (m.taintBeats a n bs) = true :=
    fun m a n bs hm => ByteMem.wf_foldl _ (fun _ _ hx => ByteMem.wf_taint _ _ _ hx) _ _ hm
  unfold State.storeRows
  dsimp only
  split
  · refine kept_mem h _ rfl rfl rfl rfl (.inl rfl) h.hub (ByteMem.wf_ite (fun _ => wf _ _ _ _ (ByteMem.wf_writeStream _ _ _ h.lpddr)) (fun _ => ?_))
    exact ByteMem.wf_foldl _ (fun _ _ hx => ByteMem.wf_writeRow _ _ _ hx) _ _ h.lpddr
  · refine kept_mem h _ rfl rfl rfl rfl (.inl rfl) (ByteMem.wf_ite (fun _ => wf _ _ _ _ (ByteMem.wf_writeStream _ _ _ h.hub)) (fun _ => ?_)) h.lpddr
    exact ByteMem.wf_foldl _ (fun _ _ hx => ByteMem.wf_writeRow _ _ _ hx) _ _ h.hub
  · exact h

@[simp] theorem execNarrowRowWrite_kept (t : TileId) (transfer : Option Nat) (s : State) (h : Kept q o s) :
    KeptO q o (execNarrowRowWrite t transfer s) := by
  unfold execNarrowRowWrite
  refine keptO_next ?_
  (repeat' split) <;> simp (maxDischargeDepth := 30) (contextual := true) only [kept_mk, kept_ite, kept_ite_fst, kept_foldl, kept_foldl_fst,
    kept_forAll, kept_after, implies_true, State.modTile_kept, State.landTransferRow_kept, State.narrowWrite_kept,
    State.landHubDone_kept, State.remoteWrite_kept, *]

@[simp] theorem State.upsetTransfer_kept (s : State) (t : TileId) (tr : Transfer) (upset : List Nat) (h : Kept q o s) :
    Kept q o (State.upsetTransfer s t tr upset) := by
  have wf : ∀ (f : Nat → Nat) (m : ByteMem), ByteMem.wf m = true → ByteMem.wf (upset.foldl (fun m w => m.setPoison (f w) true) m) = true :=
    fun f m hm => ByteMem.wf_foldl _ (fun _ _ hx => ByteMem.wf_setPoison _ _ _ hx) _ _ hm
  unfold State.upsetTransfer
  dsimp only
  split
  · exact State.modTile_kept _ _ _ (State.event_kept _ _ _ (kept_mem h _ rfl rfl rfl rfl (.inl rfl) h.hub (wf _ _ h.lpddr)))
  · exact State.modTile_kept _ _ _ (State.event_kept _ _ _ (kept_mem h _ rfl rfl rfl rfl (.inl rfl) (wf _ _ h.hub) h.lpddr))
  · exact kept_foldl _ (fun _ _ hx => State.readRow_kept _ _ _ _ hx) _ _ h

@[simp] theorem State.fixedTransfer_kept (s : State) (t : TileId) (tr : Transfer) (fixed : List Nat) (h : Kept q o s) :
    Kept q o (State.fixedTransfer s t tr fixed) := by
  unfold State.fixedTransfer
  (repeat' split) <;> simp (maxDischargeDepth := 30) (contextual := true) only [kept_mk, kept_ite, kept_ite_fst, kept_foldl, kept_foldl_fst,
    kept_forAll, kept_after, implies_true, State.countFixed_kept, *]

@[simp] theorem execTransferDone_kept (t : TileId) (k : Nat) (upset : List Nat) (fixed : List Nat) (s : State) (h : Kept q o s) :
    KeptO q o (execTransferDone t k upset fixed s) := by
  unfold execTransferDone
  refine keptO_next ?_
  dsimp only
  (repeat' split) <;> simp (maxDischargeDepth := 30) (contextual := true) only [kept_mk, kept_ite, kept_ite_fst, kept_foldl, kept_foldl_fst,
    kept_forAll, kept_after, implies_true, State.upsetTransfer_kept, State.fixedTransfer_kept, State.landRest_kept,
    State.storeRows_kept, State.setTile_kept, State.landDone_kept, State.applyDone_kept, *]

/-! ### Measure -/

@[simp] theorem State.checkSums_kept (s : State) (e : EngineId) (p : PlaneSums) (h : Kept q o s) :
    Kept q o (State.checkSums s e p) := by
  unfold State.checkSums
  (repeat' split) <;> simp (maxDischargeDepth := 30) (contextual := true) only [kept_mk, kept_ite, kept_ite_fst, kept_foldl, kept_foldl_fst,
    kept_forAll, kept_after, implies_true, State.slotEvents_kept, State.modEngine_kept, State.issue_kept, *]

@[simp] theorem State.countStrongman_kept (s : State) (e : EngineId) (ref : Bool) (miss : Bool) (largest : Nat) (h : Kept q o s) :
    Kept q o (State.countStrongman s e ref miss largest) := by
  unfold State.countStrongman
  (repeat' split) <;> simp (maxDischargeDepth := 30) (contextual := true) only [kept_mk, kept_ite, kept_ite_fst, kept_foldl, kept_foldl_fst,
    kept_forAll, kept_after, implies_true, State.modEngine_kept, *]

@[simp] theorem State.strongmanWith_kept (s : State) (e : EngineId) (v : Nat) (p : PlaneSums) (h : Kept q o s) :
    Kept q o (State.strongmanWith s e v p) := by
  unfold State.strongmanWith
  (repeat' split) <;> simp (maxDischargeDepth := 30) (contextual := true) only [kept_mk, kept_ite, kept_ite_fst, kept_foldl, kept_foldl_fst,
    kept_forAll, kept_after, implies_true, State.checkSums_kept, State.countStrongman_kept, *]

@[simp] theorem State.strongman_kept (s : State) (e : EngineId) (v : Nat) (c : TdcCapture) (h : Kept q o s) :
    Kept q o (State.strongman s e v c) := by
  unfold State.strongman
  (repeat' split) <;> simp (maxDischargeDepth := 30) (contextual := true) only [kept_mk, kept_ite, kept_ite_fst, kept_foldl, kept_foldl_fst,
    kept_forAll, kept_after, implies_true, State.strongmanWith_kept, *]

@[simp] theorem State.measure_kept (s : State) (e : EngineId) (c : Calib) (x : TdcCapture) (h : Kept q o s) :
    Kept q o (State.measure s e c x) := by
  unfold State.measure
  (repeat' split) <;> simp (maxDischargeDepth := 30) (contextual := true) only [kept_mk, kept_ite, kept_ite_fst, kept_foldl, kept_foldl_fst,
    kept_forAll, kept_after, implies_true, State.strongmanWith_kept, State.modEngine_kept, State.checkSums_kept, *]

@[simp] theorem State.scanSlot_kept (s : State) (e : EngineId) (x : Scan) (c : TdcCapture) (h : Kept q o s) :
    Kept q o (State.scanSlot s e x c) := by
  unfold State.scanSlot
  (repeat' split) <;> simp (maxDischargeDepth := 30) (contextual := true) only [kept_mk, kept_ite, kept_ite_fst, kept_foldl, kept_foldl_fst,
    kept_forAll, kept_after, implies_true, State.checkSums_kept, State.countStrongman_kept, State.modEngine_kept, *]

@[simp] theorem State.runSlot_kept (s : State) (e : EngineId) (r : StrongRun) (c : TdcCapture) (h : Kept q o s) :
    Kept q o (State.runSlot s e r c) := by
  unfold State.runSlot
  (repeat' split) <;> simp (maxDischargeDepth := 30) (contextual := true) only [kept_mk, kept_ite, kept_ite_fst, kept_foldl, kept_foldl_fst,
    kept_forAll, kept_after, implies_true, State.strongmanWith_kept, State.modEngine_kept, *]

@[simp] theorem State.serveWaiting_kept (s : State) (e : EngineId) (w : Waiting) (c : TdcCapture) (h : Kept q o s) :
    Kept q o (State.serveWaiting s e w c) := by
  unfold State.serveWaiting
  (repeat' split) <;> simp (maxDischargeDepth := 30) (contextual := true) only [kept_mk, kept_ite, kept_ite_fst, kept_foldl, kept_foldl_fst,
    kept_forAll, kept_after, implies_true, State.measure_kept, State.runSlot_kept, State.scanSlot_kept, *]

@[simp] theorem State.filler_kept (s : State) (e : EngineId) (c : TdcCapture) (h : Kept q o s) :
    Kept q o (State.filler s e c) := by
  unfold State.filler
  (repeat' split) <;> simp (maxDischargeDepth := 30) (contextual := true) only [kept_mk, kept_ite, kept_ite_fst, kept_foldl, kept_foldl_fst,
    kept_forAll, kept_after, implies_true, State.strongman_kept, *]

@[simp] theorem State.writeSlot_kept (s : State) (b : Nat) (h : Kept q o s) :
    Kept q o (State.writeSlot s b) := by
  unfold State.writeSlot
  (repeat' split) <;> simp (maxDischargeDepth := 30) (contextual := true) only [kept_mk, kept_ite, kept_ite_fst, kept_foldl, kept_foldl_fst,
    kept_forAll, kept_after, implies_true, State.modBank_kept, State.modEngine_kept, State.issue_kept, *]

/-! ### Slot -/

@[simp] theorem State.fillSlot_kept (s : State) (d : DieId) (free : List (EngineId × TdcCapture)) (h : Kept q o s) :
    Kept q o (State.fillSlot s d free) := by
  unfold State.fillSlot
  refine State.modDie_kept _ _ _ (kept_foldl_fst _ (fun p e hp => kept_ite_fst (fun _ => ?_) (fun _ => hp)) _ _
    (kept_forAll _ (fun s b hs => State.writeSlot_kept s b hs) _ _ (kept_foldl _ (fun s e hs => ?_) _ _ h)))
  · split
    · exact State.filler_kept _ _ _ hp
    · exact hp
  · split
    · exact State.serveWaiting_kept _ _ _ _ hs
    · exact hs

@[simp] theorem State.stopGroup_kept (s : State) (ds : List DieId) (h : Kept q o s) :
    Kept q o (State.stopGroup s ds) := by
  unfold State.stopGroup
  (repeat' split) <;> simp (maxDischargeDepth := 30) (contextual := true) only [kept_mk, kept_ite, kept_ite_fst, kept_foldl, kept_foldl_fst,
    kept_forAll, kept_after, implies_true, State.modTile_kept, State.modEngine_kept, *]

@[simp] theorem State.endSlot_kept (s : State) (t : TileId) (clock : Nat) (h : Kept q o s) :
    Kept q o (State.endSlot s t clock) := by
  unfold State.endSlot
  (repeat' split) <;> simp (maxDischargeDepth := 30) (contextual := true) only [kept_mk, kept_ite, kept_ite_fst, kept_foldl, kept_foldl_fst,
    kept_forAll, kept_after, implies_true, State.tailCycles_kept, State.modTile_kept, *]

@[simp] theorem State.openSlot_kept (s : State) (ds : List DieId) (clock : Nat) (h : Kept q o s) :
    Kept q o (State.openSlot s ds clock) := by
  unfold State.openSlot
  (repeat' split) <;> simp (maxDischargeDepth := 30) (contextual := true) only [kept_mk, kept_ite, kept_ite_fst, kept_foldl, kept_foldl_fst,
    kept_forAll, kept_after, implies_true, State.endSlot_kept, State.modDie_kept, *]

@[simp] theorem State.countBand_kept (s : State) (ch : Nat) (h : Kept q o s) : Kept q o (s.countBand ch) := by
  unfold State.countBand
  simp only [kept_mk, *]

@[simp] theorem State.markSlot_kept (s : State) (ds : List DieId) (hold : Bool) (h : Kept q o s) :
    Kept q o (State.markSlot s ds hold) := by
  unfold State.markSlot
  simp (maxDischargeDepth := 30) (contextual := true) only [kept_mk, kept_ite, kept_forAll, kept_foldl, implies_true,
    State.modTile_kept, State.modDie_kept, State.countBand_kept, *]

@[simp] theorem State.spoilWords_kept (s : State) (ts : List TileId) (h : Kept q o s) :
    Kept q o (State.spoilWords s ts) := by
  unfold State.spoilWords
  (repeat' split) <;> simp (maxDischargeDepth := 30) (contextual := true) only [kept_mk, kept_ite, kept_ite_fst, kept_foldl, kept_foldl_fst,
    kept_forAll, kept_after, implies_true, State.modTile_kept, *]

@[simp] theorem State.enterSlot_kept (s : State) (ds : List DieId) (free : List (EngineId × TdcCapture)) (h : Kept q o s) :
    Kept q o (State.enterSlot s ds free) := by
  unfold State.enterSlot
  (repeat' split) <;> simp (maxDischargeDepth := 30) (contextual := true) only [kept_mk, kept_ite, kept_ite_fst, kept_foldl, kept_foldl_fst,
    kept_forAll, kept_after, implies_true, State.modDie_kept, State.countBand_kept, State.modTile_kept, State.fillSlot_kept, *]

@[simp] theorem execSlotStart_kept (d : DieId) (free : List (EngineId × TdcCapture)) (badWords : List TileId) (s : State) (h : Kept q o s) :
    KeptO q o (execSlotStart d free badWords s) := by
  unfold execSlotStart
  refine keptO_next ?_
  (repeat' split) <;> simp (maxDischargeDepth := 30) (contextual := true) only [kept_mk, kept_ite, kept_ite_fst, kept_foldl, kept_foldl_fst,
    kept_forAll, kept_after, implies_true, State.openSlot_kept, State.spoilWords_kept, State.stopGroup_kept,
    State.markSlot_kept, State.enterSlot_kept, *]

@[simp] theorem execDroopSample_kept (channel : Fin 17) (milliVolts : Nat) (s : State) (h : Kept q o s) :
    KeptO q o (execDroopSample channel milliVolts s) := by
  unfold execDroopSample
  refine keptO_next ?_
  simp (maxDischargeDepth := 30) (contextual := true) only [kept_ite, implies_true, State.setDie_kept, State.event_kept, *]

@[simp] theorem execDroopLimitRise_kept (d : DieId) (s : State) (h : Kept q o s) :
    KeptO q o (execDroopLimitRise d s) := by
  unfold execDroopLimitRise
  refine keptO_next ?_
  simp (maxDischargeDepth := 30) (contextual := true) only [kept_ite, implies_true, State.setDie_kept, *]

/-! ### Runtime -/

@[simp] theorem State.takeSnapshot_kept (s : State) (h : Kept q o s) :
    Kept q o (State.takeSnapshot s) := by
  unfold State.takeSnapshot
  simp (maxDischargeDepth := 30) (contextual := true) only [kept_mk, *]

end Sys2Proof.Machine
end

