-- ==== Sys2Proof/Laws/KeptUnits.lean ====
section
/-!
SUPPORT. What is kept by the power states, EtherCAT, the HD unit and recall: the queue of waiting commands, whether the device is in Off, and State.Sound.
-/
set_option linter.unusedSimpArgs false
set_option linter.unusedVariables false
namespace Sys2Proof.Machine

variable {q : List Instr × Bool} {o : Bool} {s : State}

/-! ### PStates -/

@[simp] theorem State.vector_kept (s : State) (n : Nat) (h : Kept q o s) :
    Kept q o (State.vector s n) := by
  unfold State.vector
  simp (maxDischargeDepth := 30) (contextual := true) only [kept_mk, kept_ite, implies_true, *]

@[simp] theorem State.history_kept (s : State) (kind : Nat) (outcome : Nat) (digest : BitVec 384) (h : Kept q o s) :
    Kept q o (State.history s kind outcome digest) := by
  unfold State.history
  simp (maxDischargeDepth := 30) (contextual := true) only [kept_mk, *]

@[simp] theorem State.setSegment_kept (s : State) (k : Nat) (g : Segment) (h : Kept q o s) :
    Kept q o (State.setSegment s k g) := by
  unfold State.setSegment
  simp (maxDischargeDepth := 30) (contextual := true) only [kept_mk, *]

@[simp] theorem State.modSegment_kept (s : State) (k : Nat) (f : Segment → Segment) (h : Kept q o s) :
    Kept q o (State.modSegment s k f) := by
  unfold State.modSegment
  simp (maxDischargeDepth := 30) (contextual := true) only [State.setSegment_kept, *]

@[simp] theorem State.driveSafe_kept (s : State) (h : Kept q o s) :
    Kept q o (State.driveSafe s) := by
  unfold State.driveSafe
  simp (maxDischargeDepth := 30) (contextual := true) only [kept_forAll, implies_true, State.modSegment_kept, *]

@[simp] theorem State.applyEni_kept (s : State) (seg : Nat) (n : Eni) (h : Kept q o s) :
    Kept q o (State.applyEni s seg n) := by
  unfold State.applyEni
  simp (maxDischargeDepth := 30) (contextual := true) only [State.modSegment_kept, *]

@[simp] theorem State.takeEnis_kept (s : State) (h : Kept q o s) :
    Kept q o (State.takeEnis s) := by
  unfold State.takeEnis
  refine kept_forAll _ (fun s k hs => ?_) _ _ h
  split
  · exact State.applyEni_kept _ _ _ hs
  · exact hs

@[simp] theorem State.enter_kept (s : State) (p : PState) (h : Kept q false s) (hp : p ≠ .off) : Kept q false (State.enter s p) := by
  unfold State.enter
  exact State.vector_kept _ _ (State.raise_kept _ _ _ _ _ (kept_power h p hp _))

@[simp] theorem State.writeBoot_kept (s : State) (h : Kept q o s) :
    Kept q o (State.writeBoot s) := by
  unfold State.writeBoot
  simp (maxDischargeDepth := 30) (contextual := true) only [kept_mk, *]

@[simp] theorem State.haltTiles_kept (s : State) (h : Kept q o s) :
    Kept q o (State.haltTiles s) := by
  unfold State.haltTiles
  simp (maxDischargeDepth := 30) (contextual := true) only [kept_forAll, implies_true, State.modTile_kept, *]

@[simp] theorem State.goIdle_kept (s : State) (h : Kept q false s) : Kept q false (State.goIdle s) := by
  unfold State.goIdle
  refine State.enter_kept _ _ ?_ (by decide)
  simp (maxDischargeDepth := 30) (contextual := true) only [h, kept_mk, State.haltTiles_kept, State.driveSafe_kept,
    State.takeEnis_kept]

@[simp] theorem State.abandonRewrites_kept (s : State) (h : Kept q o s) :
    Kept q o (State.abandonRewrites s) := by
  unfold State.abandonRewrites
  simp (maxDischargeDepth := 30) (contextual := true) only [kept_mk, *]

@[simp] theorem State.enterDoze_kept (s : State) (h : Kept q false s) : Kept q false (State.enterDoze s) := by
  unfold State.enterDoze
  refine State.enter_kept _ _ ?_ (by decide)
  have h0 := State.abandonRewrites_kept s h
  have h1 : Kept q false { s.abandonRewrites with svc := { s.svc with savedCoeff := s.pwr.chans } }.writeBoot :=
    State.writeBoot_kept _ (kept_mk h0 _ _ _ _ _ _ _ _ _ _ _ _ _ _ _ _ _ _ _ _ _ _ _ _ _ rfl)
  exact kept_mk h1 _ _ _ _ _ _ _ _ _ _ _ _ _ _ _ _ _ _ _ _ _ _ _ _ _ rfl

/-! ### Loop -/

@[simp] theorem State.retrainModule_kept (s : State) (d : DieId) (m : Nat) (h : Kept q o s) :
    Kept q o (State.retrainModule s d m) := by
  unfold State.retrainModule
  simp (maxDischargeDepth := 30) (contextual := true) only [kept_ite, implies_true, State.modDie_kept, State.raise_kept, *]

@[simp] theorem State.freeIface_kept (s : State) (i : Nat) (depth : Nat) (h : Kept q o s) :
    Kept q o (State.freeIface s i depth) := by
  unfold State.freeIface
  simp (maxDischargeDepth := 30) (contextual := true) only [kept_ite, implies_true, State.modSegment_kept,
    State.retrainModule_kept, *]

@[simp] theorem State.endLoop_kept (s : State) (code : Nat) (h : Kept q o s) :
    Kept q o (State.endLoop s code) := by
  unfold State.endLoop
  (repeat' split) <;> simp (maxDischargeDepth := 30) (contextual := true) only [kept_mk, State.raise_kept,
    State.freeIface_kept, *]

@[simp] theorem State.breakLoop_kept (s t : State) (h : Kept q o s) : Kept q o (State.breakLoop s t) := by
  unfold State.breakLoop
  split
  · exact h
  · exact kept_ite (fun _ => State.endLoop_kept _ _ h) (fun _ => h)

@[simp] theorem State.loopBoundary_kept (s : State) (h : Kept q o s) :
    Kept q o (State.loopBoundary s) := by
  unfold State.loopBoundary
  simp (maxDischargeDepth := 30) (contextual := true) only [kept_mk, kept_ite, implies_true, State.takeFree_kept,
    State.breakLoop_kept, *]

/-! ### Trust -/

@[simp] theorem State.answer_kept (s : State) (c : Channel) (abort : W32) (data : List Byte) (h : Kept q o s) :
    Kept q o (State.answer s c abort data) := by
  unfold State.answer
  (repeat' split) <;> simp (maxDischargeDepth := 30) (contextual := true) only [kept_mk, *]

@[simp] theorem State.request_kept (s : State) (c : Channel) (checks : List (Bool × W32)) (f : State → State) (h : Kept q o s) (hf : ∀ (x0 : State), Kept q o x0 → Kept q o (f x0)) :
    Kept q o (State.request s c checks f) := by
  unfold State.request
  (repeat' split) <;> simp (maxDischargeDepth := 30) (contextual := true) only [State.answer_kept, *]

@[simp] theorem State.requestOpen_kept (s : State) (c : Channel) (checks : List (Bool × W32)) (f : State → State) (h : Kept q o s)
    (hf : ∀ x, Kept q o x → x.power ≠ .off → Kept q o (f x)) : Kept q o (State.requestOpen s c checks f) := by
  unfold State.requestOpen
  refine kept_ite (fun _ => h) (fun hs => kept_ite (fun _ => State.answer_kept _ _ _ _ h) (fun _ => ?_))
  have hp : s.power ≠ .off := by
    intro e; simp [State.serves, e] at hs
  split
  · exact State.answer_kept _ _ _ _ h
  · exact State.answer_kept _ _ _ _ (hf _ h hp)

@[simp] theorem State.fetch_kept (s : State) (c : Channel) (checks : List (Bool × W32)) (data : List Byte) (f : State → State) (h : Kept q o s) (hf : ∀ (x0 : State), Kept q o x0 → Kept q o (f x0)) :
    Kept q o (State.fetch s c checks data f) := by
  unfold State.fetch
  (repeat' split) <;> simp (maxDischargeDepth := 30) (contextual := true) only [State.answer_kept, *]

@[simp] theorem State.setAuth_kept (s : State) (c : Channel) (a : Auth) (h : Kept q o s) :
    Kept q o (State.setAuth s c a) := by
  unfold State.setAuth
  (repeat' split) <;> simp (maxDischargeDepth := 30) (contextual := true) only [kept_mk, *]

@[simp] theorem State.endAuthentications_kept (s : State) (h : Kept q o s) :
    Kept q o (State.endAuthentications s) := by
  unfold State.endAuthentications
  simp (maxDischargeDepth := 30) (contextual := true) only [kept_mk, *]

@[simp] theorem State.putSlot_kept (s : State) (toB : Bool) (x : Slot) (h : Kept q o s) :
    Kept q o (State.putSlot s toB x) := by
  unfold State.putSlot
  simp (maxDischargeDepth := 30) (contextual := true) only [kept_mk, kept_ite, implies_true, *]

@[simp] theorem State.writeFirmware_kept (s : State) (toB : Bool) (f : Firmware) (h : Kept q o s) :
    Kept q o (State.writeFirmware s toB f) := by
  unfold State.writeFirmware
  simp (maxDischargeDepth := 30) (contextual := true) only [kept_ite, implies_true, State.raise_kept, State.event_kept,
    State.history_kept, State.putSlot_kept, *]

/-! ### EcatOps -/

@[simp] theorem State.forwardInputs_kept (s : State) (seg : Nat) (bad : Bool) (h : Kept q o s) :
    Kept q o (State.forwardInputs s seg bad) := by
  unfold State.forwardInputs
  refine kept_forAll _ (fun s b hs => ?_) _ _ h
  split
  · exact hs
  · exact State.agentRequest_kept _ _ _ _ _ _ _ hs

@[simp] theorem execProcessDataForward_kept (seg : Fin 3) (s : State) (h : Kept q o s) :
    KeptO q o (execProcessDataForward seg s) := by
  unfold execProcessDataForward
  refine keptO_next ?_
  (repeat' split) <;> simp (maxDischargeDepth := 30) (contextual := true) only [State.agentWrite_kept, *]

@[simp] theorem execOutputCollect_kept (entry : Fin 256) (s : State) (h : Kept q o s) :
    KeptO q o (execOutputCollect entry s) := by
  unfold execOutputCollect
  refine keptO_next ?_
  dsimp only; (repeat' split) <;> simp (maxDischargeDepth := 30) (contextual := true) only [kept_mk, State.applyHubDone_kept,
    State.modSegment_kept, *]

@[simp] theorem State.streamHeader_kept (s : State) (k : Nat) (h' : Nat × Nat × Nat) (h : Kept q o s) :
    Kept q o (State.streamHeader s k h') := by
  unfold State.streamHeader
  (refine kept_mem h _ rfl rfl rfl rfl (.inl rfl) ?_ ?_ <;> simp (maxDischargeDepth := 30) (contextual := true) only [ByteMem.wf_ite, ByteMem.wf_foldl, ByteMem.wf_write, ByteMem.wf_writeRow, ByteMem.wf_writeStream, ByteMem.wf_setPoison, ByteMem.wf_taint, ByteMem.wf_empty, h.hub, h.lpddr, implies_true])

@[simp] theorem State.streamSamples_kept (s : State) (c : Stream) (w : Nat) (n : Nat) (h : Kept q o s) :
    Kept q o (State.streamSamples s c w n) := by
  unfold State.streamSamples
  refine kept_forAll _ (fun s b h => ?_) _ _ h
  (refine kept_mem h _ rfl rfl rfl rfl (.inl rfl) ?_ ?_ <;> simp (maxDischargeDepth := 30) (contextual := true) only [ByteMem.wf_ite, ByteMem.wf_foldl, ByteMem.wf_write, ByteMem.wf_writeRow, ByteMem.wf_writeStream, ByteMem.wf_setPoison, ByteMem.wf_taint, ByteMem.wf_empty, h.hub, h.lpddr, implies_true])

@[simp] theorem State.appendStream_kept (s : State) (k : Nat) (h : Kept q o s) :
    Kept q o (State.appendStream s k) := by
  unfold State.appendStream
  simp (maxDischargeDepth := 30) (contextual := true) only [kept_ite, implies_true, State.deviceEvent_kept,
    State.applyHubDone_kept, State.streamHeader_kept, State.streamSamples_kept, *]

@[simp] theorem State.gapStream_kept (s : State) (k : Nat) (h : Kept q o s) :
    Kept q o (State.gapStream s k) := by
  unfold State.gapStream
  simp (maxDischargeDepth := 30) (contextual := true) only [State.streamHeader_kept, *]

@[simp] theorem State.loseLock_kept (s : State) (h : Kept q o s) :
    Kept q o (State.loseLock s) := by
  unfold State.loseLock
  simp (maxDischargeDepth := 30) (contextual := true) only [kept_mk, kept_ite, implies_true, State.event_kept, *]

@[simp] theorem State.failSegment_kept (s : State) (seg : Nat) (h : Kept q o s) :
    Kept q o (State.failSegment s seg) := by
  unfold State.failSegment
  simp (maxDischargeDepth := 30) (contextual := true) only [kept_ite, implies_true, State.deviceEvent_kept,
    State.modSegment_kept, *]

@[simp] theorem State.badFrame_kept (s : State) (seg : Nat) (h : Kept q o s) :
    Kept q o (State.badFrame s seg) := by
  unfold State.badFrame
  simp (maxDischargeDepth := 30) (contextual := true) only [kept_ite, kept_forAll, implies_true, State.deviceEvent_kept,
    State.modSegment_kept, State.forwardInputs_kept, State.gapStream_kept, State.failSegment_kept, *]

@[simp] theorem State.goodFrame_kept (s : State) (seg : Nat) (inputs : List Byte) (h : Kept q o s) :
    Kept q o (State.goodFrame s seg inputs) := by
  unfold State.goodFrame
  refine kept_forAll _ (fun s k hs => State.appendStream_kept _ _ hs) _ _ ?_
  refine State.forwardInputs_kept _ _ _ ?_
  have h1 := State.modSegment_kept s seg (fun g => { g with awaiting := false, badRun := 0 }) h
  exact kept_mem h1 _ rfl rfl rfl rfl (.inl rfl) (ByteMem.wf_write _ _ _ h1.hub) h1.lpddr

@[simp] theorem State.alStatus_kept (s : State) (seg : Nat) (r : CyclicReturn) (h : Kept q o s) :
    Kept q o (State.alStatus s seg r) := by
  unfold State.alStatus
  simp (maxDischargeDepth := 30) (contextual := true) only [kept_ite, implies_true, State.raise_kept, State.modSegment_kept, *]

@[simp] theorem State.clockDatagram_kept (s : State) (seg : Nat) (ok : Bool) (h : Kept q o s) :
    Kept q o (State.clockDatagram s seg ok) := by
  unfold State.clockDatagram
  (repeat' split) <;> simp (maxDischargeDepth := 30) (contextual := true) only [kept_mk, kept_ite, kept_ite_fst, kept_foldl, kept_foldl_fst,
    kept_forAll, kept_after, implies_true, State.modSegment_kept, State.loseLock_kept, *]

@[simp] theorem execCyclicFrameReturn_kept (seg : Fin 3) (r : CyclicReturn) (s : State) (h : Kept q o s) :
    KeptO q o (execCyclicFrameReturn seg r s) := by
  unfold execCyclicFrameReturn
  refine keptO_next ?_
  simp (maxDischargeDepth := 30) (contextual := true) only [kept_ite, implies_true, State.badFrame_kept, State.goodFrame_kept,
    State.alStatus_kept, State.clockDatagram_kept, *]

@[simp] theorem execFrameReturnTimeout_kept (seg : Fin 3) (s : State) (h : Kept q o s) :
    KeptO q o (execFrameReturnTimeout seg s) := by
  unfold execFrameReturnTimeout
  refine keptO_next ?_
  simp (maxDischargeDepth := 30) (contextual := true) only [kept_ite, implies_true, State.badFrame_kept,
    State.clockDatagram_kept, *]

@[simp] theorem execPortLinkLoss_kept (seg : Fin 3) (s : State) (h : Kept q o s) :
    KeptO q o (execPortLinkLoss seg s) := by
  unfold execPortLinkLoss
  refine keptO_next ?_
  simp (maxDischargeDepth := 30) (contextual := true) only [kept_ite, implies_true, State.modSegment_kept, State.loseLock_kept,
    State.failSegment_kept, *]

@[simp] theorem execPortLinkReturn_kept (seg : Fin 3) (s : State) (h : Kept q o s) :
    KeptO q o (execPortLinkReturn seg s) := by
  unfold execPortLinkReturn
  refine keptO_next ?_
  simp (maxDischargeDepth := 30) (contextual := true) only [kept_ite, implies_true, State.setSegment_kept, *]

@[simp] theorem execSubdeviceOpRetry_kept (seg : Fin 3) (s : State) (h : Kept q o s) :
    KeptO q o (execSubdeviceOpRetry seg s) := by
  unfold execSubdeviceOpRetry
  refine keptO_next ?_
  simp (maxDischargeDepth := 30) (contextual := true) only [kept_ite, implies_true, State.modSegment_kept, *]

@[simp] theorem execAcyclicFrame_kept (seg : Fin 3) (s : State) (h : Kept q o s) :
    KeptO q o (execAcyclicFrame seg s) := by
  unfold execAcyclicFrame
  refine keptO_next ?_
  simp (maxDischargeDepth := 30) (contextual := true) only [kept_ite, implies_true, State.modSegment_kept, *]

@[simp] theorem execDcReferenceLost_kept (s : State) (h : Kept q o s) :
    KeptO q o (execDcReferenceLost s) := by
  unfold execDcReferenceLost
  refine keptO_next ?_
  simp (maxDischargeDepth := 30) (contextual := true) only [State.loseLock_kept, *]

@[simp] theorem execLoadEni_kept (c : Channel) (seg : Fin 3) (eni : Eni) (s : State) (h : Kept q o s) :
    KeptO q o (execLoadEni c seg eni s) := by
  unfold execLoadEni
  refine keptO_next ?_
  refine State.request_kept _ _ _ _ h ?_; intro x hx; simp (maxDischargeDepth := 30) (contextual := true) only [kept_ite,
    implies_true, State.raise_kept, State.modSegment_kept, State.applyEni_kept, State.writeBoot_kept, State.endLoop_kept, *]

@[simp] theorem execSegmentStart_kept (seg : Fin 3) (s : State) (h : Kept q o s) :
    KeptO q o (execSegmentStart seg s) := by
  unfold execSegmentStart
  refine keptO_next ?_
  simp (maxDischargeDepth := 30) (contextual := true) only [kept_ite, implies_true, State.deviceEvent_kept,
    State.setSegment_kept, *]

@[simp] theorem execP3LinkLoss_kept (s : State) (h : Kept q o s) :
    KeptO q o (execP3LinkLoss s) := by
  unfold execP3LinkLoss
  refine keptO_next ?_
  simp (maxDischargeDepth := 30) (contextual := true) only [kept_mk, State.event_kept, *]

@[simp] theorem execRxpdoReceive_kept (variant : Byte) (useVariant : Bool) (heartbeat : W16) (s : State) (h : Kept q o s) :
    KeptO q o (execRxpdoReceive variant useVariant heartbeat s) := by
  unfold execRxpdoReceive
  refine keptO_next ?_
  simp (maxDischargeDepth := 30) (contextual := true) only [kept_mk, kept_ite, implies_true, *]

@[simp] theorem execEmergencySend_kept (s : State) (h : Kept q o s) :
    KeptO q o (execEmergencySend s) := by
  unfold execEmergencySend
  refine keptO_next ?_
  (repeat' split) <;> simp (maxDischargeDepth := 30) (contextual := true) only [kept_mk, *]

@[simp] theorem execP3StateTransition_kept (request : AlState) (s : State) (h : Kept q o s) :
    KeptO q o (execP3StateTransition request s) := by
  unfold execP3StateTransition
  refine keptO_next ?_
  simp (maxDischargeDepth := 30) (contextual := true) only [kept_mk, kept_ite, implies_true, *]

@[simp] theorem execRevisionOffer_kept (c : Channel) (rev : Byte) (s : State) (h : Kept q o s) :
    KeptO q o (execRevisionOffer c rev s) := by
  unfold execRevisionOffer
  refine keptO_next ?_
  refine State.request_kept _ _ _ _ h ?_; intro x hx; simp (maxDischargeDepth := 30) (contextual := true) only [kept_mk,
    State.acceptSetting_kept, *]

@[simp] theorem execFoeWrite_kept (c : Channel) (nameOk : Bool) (isRead : Bool) (image : Firmware) (s : State) (h : Kept q o s) :
    KeptO q o (execFoeWrite c nameOk isRead image s) := by
  unfold execFoeWrite
  refine keptO_next ?_
  simp (maxDischargeDepth := 30) (contextual := true) only [kept_mk, kept_ite, implies_true, State.answer_kept,
    State.writeFirmware_kept, *]

/-! ### Hd -/

@[simp] theorem State.passCommand_kept (s : State) (k : Nat) (h : Kept q o s) :
    Kept q o (State.passCommand s k) := by
  unfold State.passCommand
  (repeat' split) <;> simp (maxDischargeDepth := 30) (contextual := true) only [kept_mk, kept_ite, kept_ite_fst, kept_foldl, kept_foldl_fst,
    kept_forAll, kept_after, implies_true, *]

@[simp] theorem State.hdIssue_kept (s : State) (o' : HdOrigin) (i : Instr) (ok : Bool) (f : HdSettings → State → State) (h : Kept q o s) (hf : ∀ (x0 : HdSettings) (x1 : State), Kept q o x1 → Kept q o (f x0 x1)) :
    Kept q o (State.hdIssue s o' i ok f) := by
  unfold State.hdIssue
  split
  · exact h
  · split
    · split
      · exact h
      · split
        · split
          · exact h
          · exact kept_ite (fun _ => hf _ _ (State.passCommand_kept _ _ h)) (fun _ => State.passCommand_kept _ _ h)
        · exact h
    · exact kept_ite (fun _ => h) (fun _ => kept_ite (fun _ => hf _ _ h) (fun _ => State.deviceEvent_kept _ _ _ h))

@[simp] theorem State.setHreg_kept (s : State) (o' : HdOrigin) (d : Fin 32) (x : BitVec 8192) (poison : Bool) (h : Kept q o s) :
    Kept q o (State.setHreg s o' d x poison) := by
  unfold State.setHreg
  simp (maxDischargeDepth := 30) (contextual := true) only [kept_mk, *]

@[simp] theorem State.setHacc_kept (s : State) (o' : HdOrigin) (a : Fin 4) (x : HAcc) (h : Kept q o s) :
    Kept q o (State.setHacc s o' a x) := by
  unfold State.setHacc
  simp (maxDischargeDepth := 30) (contextual := true) only [kept_mk, *]

@[simp] theorem execHdNop_kept (o' : HdOrigin) (s : State) (h : Kept q o s) :
    KeptO q o (execHdNop o' s) := by
  unfold execHdNop
  refine keptO_next ?_
  refine State.hdIssue_kept _ _ _ _ _ h ?_; intro st x hx; simp (maxDischargeDepth := 30) (contextual := true) only [*]

@[simp] theorem execGen_kept (o' : HdOrigin) (w : HdWidth) (d : Fin 32) (id : W32) (slot : Fin 4) (s : State) (h : Kept q o s) :
    KeptO q o (execGen o' w d id slot s) := by
  unfold execGen
  refine keptO_next ?_
  refine State.hdIssue_kept _ _ _ _ _ h ?_; intro st x hx; simp (maxDischargeDepth := 30) (contextual := true) only [State.setHreg_kept, *]

@[simp] theorem execBind_kept (o' : HdOrigin) (w : HdWidth) (d : Fin 32) (a : Fin 32) (b : Fin 32) (s : State) (h : Kept q o s) :
    KeptO q o (execBind o' w d a b s) := by
  unfold execBind
  refine keptO_next ?_
  refine State.hdIssue_kept _ _ _ _ _ h ?_; intro st x hx; simp (maxDischargeDepth := 30) (contextual := true) only [State.setHreg_kept, *]

@[simp] theorem execNot_kept (o' : HdOrigin) (w : HdWidth) (d : Fin 32) (a : Fin 32) (s : State) (h : Kept q o s) :
    KeptO q o (execNot o' w d a s) := by
  unfold execNot
  refine keptO_next ?_
  refine State.hdIssue_kept _ _ _ _ _ h ?_; intro st x hx; simp (maxDischargeDepth := 30) (contextual := true) only [State.setHreg_kept, *]

@[simp] theorem execHdCopy_kept (o' : HdOrigin) (w : HdWidth) (d : Fin 32) (a : Fin 32) (s : State) (h : Kept q o s) :
    KeptO q o (execHdCopy o' w d a s) := by
  unfold execHdCopy
  refine keptO_next ?_
  refine State.hdIssue_kept _ _ _ _ _ h ?_; intro st x hx; simp (maxDischargeDepth := 30) (contextual := true) only [State.setHreg_kept, *]

@[simp] theorem execHdRot_kept (o' : HdOrigin) (w : HdWidth) (d : Fin 32) (a : Fin 32) (k : BitVec 13) (s : State) (h : Kept q o s) :
    KeptO q o (execHdRot o' w d a k s) := by
  unfold execHdRot
  refine keptO_next ?_
  refine State.hdIssue_kept _ _ _ _ _ h ?_; intro st x hx; simp (maxDischargeDepth := 30) (contextual := true) only [State.setHreg_kept, *]

@[simp] theorem execCar_kept (o' : HdOrigin) (w : HdWidth) (d : Fin 32) (a : Fin 32) (c : Fin 8) (inverse : Bool) (s : State) (h : Kept q o s) :
    KeptO q o (execCar o' w d a c inverse s) := by
  unfold execCar
  refine keptO_next ?_
  refine State.hdIssue_kept _ _ _ _ _ h ?_; intro st x hx; simp (maxDischargeDepth := 30) (contextual := true) only [State.setHreg_kept, *]

@[simp] theorem execBclr_kept (o' : HdOrigin) (acc : Fin 4) (s : State) (h : Kept q o s) :
    KeptO q o (execBclr o' acc s) := by
  unfold execBclr
  refine keptO_next ?_
  refine State.hdIssue_kept _ _ _ _ _ h ?_; intro st x hx; simp (maxDischargeDepth := 30) (contextual := true) only [State.setHacc_kept, *]

@[simp] theorem State.bundleInto_kept (s : State) (o' : HdOrigin) (acc : Fin 4) (n : Nat) (x : BitVec 8192) (weight : Byte) (subtract : Bool) (poison : Bool) (h : Kept q o s) :
    Kept q o (State.bundleInto s o' acc n x weight subtract poison) := by
  unfold State.bundleInto
  simp (maxDischargeDepth := 30) (contextual := true) only [kept_ite, implies_true, State.deviceEvent_kept, State.setHacc_kept, *]

@[simp] theorem execBadd_kept (o' : HdOrigin) (w : HdWidth) (acc : Fin 4) (a : Fin 32) (weight : Byte) (subtract : Bool) (s : State) (h : Kept q o s) :
    KeptO q o (execBadd o' w acc a weight subtract s) := by
  unfold execBadd
  refine keptO_next ?_
  refine State.hdIssue_kept _ _ _ _ _ h ?_; intro st x hx; simp (maxDischargeDepth := 30) (contextual := true) only [State.bundleInto_kept, *]

@[simp] theorem execBaddx_kept (o' : HdOrigin) (w : HdWidth) (acc : Fin 4) (a : Fin 32) (b : Fin 32) (weight : Byte) (subtract : Bool) (s : State) (h : Kept q o s) :
    KeptO q o (execBaddx o' w acc a b weight subtract s) := by
  unfold execBaddx
  refine keptO_next ?_
  refine State.hdIssue_kept _ _ _ _ _ h ?_; intro st x hx; simp (maxDischargeDepth := 30) (contextual := true) only [State.bundleInto_kept, *]

@[simp] theorem execBthr_kept (o' : HdOrigin) (w : HdWidth) (d : Fin 32) (acc : Fin 4) (s : State) (h : Kept q o s) :
    KeptO q o (execBthr o' w d acc s) := by
  unfold execBthr
  refine keptO_next ?_
  refine State.hdIssue_kept _ _ _ _ _ h ?_; intro st x hx; simp (maxDischargeDepth := 30) (contextual := true) only [State.setHreg_kept, *]

@[simp] theorem execLoadv_kept (o' : HdOrigin) (w : HdWidth) (d : Fin 32) (hbo : W32) (s : State) (h : Kept q o s) :
    KeptO q o (execLoadv o' w d hbo s) := by
  unfold execLoadv
  refine keptO_next ?_
  simp (maxDischargeDepth := 30) (contextual := true) only [implies_true, State.hdIssue_kept, State.setHreg_kept, *]

@[simp] theorem State.hubWrite_kept (s : State) (a : Nat) (bs : List Byte) (poison : Bool) (h : Kept q o s) :
    Kept q o (State.hubWrite s a bs poison) := by
  unfold State.hubWrite
  (refine kept_mem h _ rfl rfl rfl rfl (.inl rfl) ?_ ?_ <;> simp (maxDischargeDepth := 30) (contextual := true) only [ByteMem.wf_ite, ByteMem.wf_foldl, ByteMem.wf_write, ByteMem.wf_writeRow, ByteMem.wf_writeStream, ByteMem.wf_setPoison, ByteMem.wf_taint, ByteMem.wf_empty, h.hub, h.lpddr, implies_true])

@[simp] theorem State.noteHdPoison_kept (s : State) (o' : HdOrigin) (poison : Bool) (h : Kept q o s) :
    Kept q o (State.noteHdPoison s o' poison) := by
  unfold State.noteHdPoison
  (repeat' split) <;> simp (maxDischargeDepth := 30) (contextual := true) only [kept_mk, kept_ite, kept_ite_fst, kept_foldl, kept_foldl_fst,
    kept_forAll, kept_after, implies_true, *]

@[simp] theorem execStorev_kept (o' : HdOrigin) (w : HdWidth) (a : Fin 32) (hbo : W32) (s : State) (h : Kept q o s) :
    KeptO q o (execStorev o' w a hbo s) := by
  unfold execStorev
  refine keptO_next ?_
  (repeat' split) <;> simp (maxDischargeDepth := 30) (contextual := true) only [kept_mk, kept_ite, kept_ite_fst, kept_foldl, kept_foldl_fst,
    kept_forAll, kept_after, implies_true, State.hdIssue_kept, State.hubWrite_kept, State.noteHdPoison_kept, *]

@[simp] theorem execSign_kept (o' : HdOrigin) (w : HdWidth) (d : Fin 32) (fmt : SignFmt) (hbo : W32) (s : State) (h : Kept q o s) :
    KeptO q o (execSign o' w d fmt hbo s) := by
  unfold execSign
  refine keptO_next ?_
  simp (maxDischargeDepth := 30) (contextual := true) only [implies_true, State.hdIssue_kept, State.setHreg_kept, *]

@[simp] theorem execLevel_kept (o' : HdOrigin) (w : HdWidth) (d : Fin 32) (slot : Fin 16) (hbo : W32) (s : State) (h : Kept q o s) :
    KeptO q o (execLevel o' w d slot hbo s) := by
  unfold execLevel
  refine keptO_next ?_
  simp (maxDischargeDepth := 30) (contextual := true) only [kept_ite, implies_true, State.takeFree_kept,
    State.deviceEvent_kept, State.hdIssue_kept, State.setHreg_kept, *]

@[simp] theorem State.addField_kept (st : HdSettings) (o' : HdOrigin) (acc : Fin 4) (n : Nat) (seed : Nat) (p : State × Bool × Bool) (f : RecordField) (h : Kept q o p.1)  :
    Kept q o (State.addField st o' acc n seed p f).1 := by
  unfold State.addField
  simp (maxDischargeDepth := 30) (contextual := true) only [kept_ite_fst, implies_true, State.bundleInto_kept, *]

@[simp] theorem execRecord_kept (o' : HdOrigin) (w : HdWidth) (d : Fin 32) (acc : Fin 4) (hbo : W32) (s : State) (h : Kept q o s) :
    KeptO q o (execRecord o' w d acc hbo s) := by
  unfold execRecord
  refine keptO_next ?_
  refine State.hdIssue_kept _ _ _ _ _ h ?_; intro st x hx; simp (maxDischargeDepth := 30) (contextual := true) only [kept_ite,
    kept_foldl_fst, implies_true, State.takeFree_kept, State.deviceEvent_kept, State.setHreg_kept, State.setHacc_kept,
      State.addField_kept, *]

@[simp] theorem execSeq_kept (o' : HdOrigin) (w : HdWidth) (d : Fin 32) (a : Fin 32) (acc : Fin 4) (mM1 : Fin 16) (r : BitVec 13) (bundle : Bool) (s : State) (h : Kept q o s) :
    KeptO q o (execSeq o' w d a acc mM1 r bundle s) := by
  unfold execSeq
  refine keptO_next ?_
  simp (maxDischargeDepth := 30) (contextual := true) only [kept_ite, kept_foldl, implies_true, State.hdIssue_kept,
    State.setHreg_kept, State.setHacc_kept, State.bundleInto_kept, *]

@[simp] theorem execOutv_kept (o' : HdOrigin) (w : HdWidth) (a : Fin 32) (tile : Handle) (row : BitVec 13) (ts : Byte) (value : BitVec 14) (s : State) (h : Kept q o s) :
    KeptO q o (execOutv o' w a tile row ts value s) := by
  unfold execOutv
  refine keptO_next ?_
  (repeat' split) <;> simp (maxDischargeDepth := 30) (contextual := true) only [kept_mk, kept_ite, kept_ite_fst, kept_foldl, kept_foldl_fst,
    kept_forAll, kept_after, implies_true, State.hdIssue_kept, State.agentRequest_kept, State.noteHdPoison_kept, *]

@[simp] theorem State.writeOutv_kept (s : State) (h : Kept q o s) :
    Kept q o (State.writeOutv s) := by
  unfold State.writeOutv
  (repeat' split) <;> simp (maxDischargeDepth := 30) (contextual := true) only [kept_mk, State.agentWrite_kept, *]

@[simp] theorem execAddg_kept (o' : HdOrigin) (ts : Byte) (value : BitVec 14) (s : State) (h : Kept q o s) :
    KeptO q o (execAddg o' ts value s) := by
  unfold execAddg
  refine keptO_next ?_
  simp (maxDischargeDepth := 30) (contextual := true) only [kept_ite, implies_true, State.globalUpdate_kept,
    State.hdIssue_kept, *]

@[simp] theorem execWaitg_kept (o' : HdOrigin) (ts : Byte) (s : State) (h : Kept q o s) :
    KeptO q o (execWaitg o' ts s) := by
  unfold execWaitg
  refine keptO_next ?_
  refine State.hdIssue_kept _ _ _ _ _ h ?_; intro st x hx; simp (maxDischargeDepth := 30) (contextual := true) only [kept_mk,
    kept_ite, implies_true, *]

@[simp] theorem State.startList_kept (s : State) (n : Fin 16) (st : HdSettings) (h : Kept q o s) :
    Kept q o (State.startList s n st) := by
  unfold State.startList
  simp (maxDischargeDepth := 30) (contextual := true) only [kept_mk, *]

@[simp] theorem State.nextList_kept (s : State) (h : Kept q o s) :
    Kept q o (State.nextList s) := by
  unfold State.nextList
  (repeat' split) <;> simp (maxDischargeDepth := 30) (contextual := true) only [kept_mk, State.startList_kept, *]

@[simp] theorem execListTrigger_kept (n : Fin 16) (s : State) (h : Kept q o s) :
    KeptO q o (execListTrigger n s) := by
  unfold execListTrigger
  refine keptO_next ?_
  split
  · exact kept_ite (fun _ => State.nextList_kept _ h) (fun _ => h)
  · dsimp only
    refine kept_ite (fun _ => h) (fun _ => ?_)
    refine kept_ite (fun _ => State.deviceEvent_kept _ _ _ ?_) (fun _ => kept_ite (fun _ => State.deviceEvent_kept _ _ _ ?_) (fun _ => kept_ite (fun _ => ?_) (fun _ => ?_)))
    all_goals simp (maxDischargeDepth := 30) (contextual := true) only [kept_mk, kept_ite, implies_true, State.startList_kept, *]

@[simp] theorem State.endList_kept (s : State) (n : Fin 16) (h : Kept q o s) :
    Kept q o (State.endList s n) := by
  unfold State.endList
  simp (maxDischargeDepth := 30) (contextual := true) only [kept_ite, implies_true, State.globalUpdate_kept,
    State.nextList_kept, *]

@[simp] theorem execCarouselRebuildComplete_kept (item : Fin 24) (s : State) (h : Kept q o s) :
    KeptO q o (execCarouselRebuildComplete item s) := by
  unfold execCarouselRebuildComplete
  refine keptO_next ?_
  simp (maxDischargeDepth := 30) (contextual := true) only [kept_mk, kept_ite, implies_true, *]

/-! ### Recall -/

@[simp] theorem State.setRbank_kept (s : State) (b : Nat) (x : RBank) (h : Kept q o s) :
    Kept q o (State.setRbank s b x) := by
  unfold State.setRbank
  simp (maxDischargeDepth := 30) (contextual := true) only [kept_mk, *]

@[simp] theorem State.modRbank_kept (s : State) (b : Nat) (f : RBank → RBank) (h : Kept q o s) :
    Kept q o (State.modRbank s b f) := by
  unfold State.modRbank
  simp (maxDischargeDepth := 30) (contextual := true) only [State.setRbank_kept, *]

@[simp] theorem State.setCursor_kept (s : State) (c : Nat) (x : Cursor) (h : Kept q o s) :
    Kept q o (State.setCursor s c x) := by
  unfold State.setCursor
  simp (maxDischargeDepth := 30) (contextual := true) only [kept_mk, *]

@[simp] theorem State.mapCursors_kept (s : State) (f : Cursor → Cursor) (h : Kept q o s) :
    Kept q o (State.mapCursors s f) := by
  unfold State.mapCursors
  simp (maxDischargeDepth := 30) (contextual := true) only [kept_mk, *]

@[simp] theorem State.moveEntry_kept (s : State) (b : Nat) (p : Nat) (q' : Nat) (h : Kept q o s) :
    Kept q o (State.moveEntry s b p q') := by
  unfold State.moveEntry
  simp (maxDischargeDepth := 30) (contextual := true) only [State.setRbank_kept, State.mapCursors_kept, *]

@[simp] theorem State.dropEntry_kept (s : State) (b : Nat) (p : Nat) (h : Kept q o s) :
    Kept q o (State.dropEntry s b p) := by
  unfold State.dropEntry
  simp (maxDischargeDepth := 30) (contextual := true) only [State.modRbank_kept, State.mapCursors_kept, *]

@[simp] theorem State.damageEntry_kept (s : State) (b : Nat) (p : Nat) (h : Kept q o s) :
    Kept q o (State.damageEntry s b p) := by
  unfold State.damageEntry
  simp (maxDischargeDepth := 30) (contextual := true) only [State.raise_kept, State.setRbank_kept, State.mapCursors_kept, *]

@[simp] theorem execSrch_kept (o' : HdOrigin) (w : HdWidth) (a : Fin 32) (d : Fin 32) (mask : W16) (cursor : Fin 16) (fill : Bool) (enables : BitVec 4) (bestKey : Bool) (dmin : BitVec 14) (dmax : BitVec 14) (hbo : W32) (s : State) (h : Kept q o s) :
    KeptO q o (execSrch o' w a d mask cursor fill enables bestKey dmin dmax hbo s) := by
  unfold execSrch
  refine keptO_next ?_
  simp (maxDischargeDepth := 30) (contextual := true) only [kept_mk, kept_ite, implies_true, State.hdIssue_kept,
    State.setCursor_kept, *]

@[simp] theorem execRde_kept (o' : HdOrigin) (w : HdWidth) (bank : Fin 16) (pos : BitVec 14) (hbo : W32) (s : State) (h : Kept q o s) :
    KeptO q o (execRde o' w bank pos hbo s) := by
  unfold execRde
  refine keptO_next ?_
  simp (maxDischargeDepth := 30) (contextual := true) only [kept_mk, kept_ite, implies_true, State.hdIssue_kept, *]

@[simp] theorem State.refuseUpdate_kept (s : State) (bank : Nat) (reason : Nat) (h : Kept q o s) :
    Kept q o (State.refuseUpdate s bank reason) := by
  unfold State.refuseUpdate
  simp (maxDischargeDepth := 30) (contextual := true) only [State.raise_kept, *]

@[simp] theorem State.acceptUpdate_kept (s : State) (u : Update) (h : Kept q o s) :
    Kept q o (State.acceptUpdate s u) := by
  unfold State.acceptUpdate
  simp (maxDischargeDepth := 30) (contextual := true) only [kept_mk, *]

@[simp] theorem execIns_kept (o' : HdOrigin) (w : HdWidth) (a : Fin 32) (bank : Fin 16) (hbo : W32) (s : State) (h : Kept q o s) :
    KeptO q o (execIns o' w a bank hbo s) := by
  unfold execIns
  refine keptO_next ?_
  simp (maxDischargeDepth := 30) (contextual := true) only [kept_ite, implies_true, State.hdIssue_kept,
    State.refuseUpdate_kept, State.acceptUpdate_kept, *]

@[simp] theorem execDel_kept (o' : HdOrigin) (bank : Fin 16) (first : BitVec 14) (countM1 : BitVec 14) (s : State) (h : Kept q o s) :
    KeptO q o (execDel o' bank first countM1 s) := by
  unfold execDel
  refine keptO_next ?_
  simp (maxDischargeDepth := 30) (contextual := true) only [kept_ite, implies_true, State.hdIssue_kept,
    State.acceptUpdate_kept, *]

@[simp] theorem execUpd_kept (o' : HdOrigin) (w : HdWidth) (a : Fin 32) (bank : Fin 16) (withKey : Bool) (pos : BitVec 14) (hbo : W32) (s : State) (h : Kept q o s) :
    KeptO q o (execUpd o' w a bank withKey pos hbo s) := by
  unfold execUpd
  refine keptO_next ?_
  simp (maxDischargeDepth := 30) (contextual := true) only [kept_ite, implies_true, State.hdIssue_kept,
    State.refuseUpdate_kept, State.acceptUpdate_kept, *]

@[simp] theorem execCfree_kept (o' : HdOrigin) (cursor : Fin 16) (s : State) (h : Kept q o s) :
    KeptO q o (execCfree o' cursor s) := by
  unfold execCfree
  refine keptO_next ?_
  simp (maxDischargeDepth := 30) (contextual := true) only [kept_ite, implies_true, State.hdIssue_kept, State.setCursor_kept, *]

@[simp] theorem execCstep_kept (o' : HdOrigin) (cursor : Fin 16) (append : Bool) (kM1 : Byte) (hbo : W32) (s : State) (h : Kept q o s) :
    KeptO q o (execCstep o' cursor append kM1 hbo s) := by
  unfold execCstep
  refine keptO_next ?_
  (repeat' split) <;> simp (maxDischargeDepth := 30) (contextual := true) only [kept_mk, kept_ite, kept_ite_fst, kept_foldl, kept_foldl_fst,
    kept_forAll, kept_after, implies_true, State.hdIssue_kept, State.setCursor_kept, State.hubWrite_kept,
    State.noteHdPoison_kept, State.deviceEvent_kept, *]

@[simp] theorem execGlist_kept (o' : HdOrigin) (s : State) (h : Kept q o s) :
    KeptO q o (execGlist o' s) := by
  unfold execGlist
  refine keptO_next ?_
  refine State.hdIssue_kept _ _ _ _ _ h ?_; intro st x hx; simp (maxDischargeDepth := 30) (contextual := true) only [kept_mk,
    kept_ite, implies_true, State.deviceEvent_kept, *]

@[simp] theorem execDcoll_kept (o' : HdOrigin) (cursor : Fin 16) (fill : Bool) (enables : BitVec 4) (dmin : BitVec 14) (dmax : BitVec 14) (hbo : W32) (s : State) (h : Kept q o s) :
    KeptO q o (execDcoll o' cursor fill enables dmin dmax hbo s) := by
  unfold execDcoll
  refine keptO_next (kept_ite (fun _ => h) fun _ => State.hdIssue_kept _ _ _ _ _ h fun st x hx => ?_)
  have hw (a : Nat) (bs : List Byte) := State.hubWrite_kept x a bs false hx
  exact kept_ite
    (fun _ => State.deviceEvent_kept _ _ _ (State.noteHdPoison_kept _ _ _
      (kept_ite (fun _ => State.setCursor_kept _ _ _ (hw _ _)) fun _ => hw _ _)))
    fun _ => State.noteHdPoison_kept _ _ _ (kept_ite (fun _ => State.setCursor_kept _ _ _ (hw _ _)) fun _ => hw _ _)

@[simp] theorem State.startRespread_kept (s : State) (b : Nat) (h : Kept q o s) :
    Kept q o (State.startRespread s b) := by
  unfold State.startRespread
  simp (maxDischargeDepth := 30) (contextual := true) only [kept_foldl, implies_true, State.setRbank_kept,
    State.dropEntry_kept, *]

@[simp] theorem State.insertStep_kept (s : State) (bank : Fin 16) (p : InsertPlan) (h : Kept q o s) :
    Kept q o (State.insertStep s bank p) := by
  unfold State.insertStep
  split
  · exact kept_mk (State.moveEntry_kept _ _ _ _ h) _ _ _ _ _ _ _ _ _ _ _ _ _ _ _ _ _ _ _ _ _ _ _ _ _ rfl
  · have h2 := State.modRbank_kept s bank.val (fun k => k.put p.pos p.entry) h
    exact kept_ite (fun _ => State.startRespread_kept _ _ (kept_mk h2 _ _ _ _ _ _ _ _ _ _ _ _ _ _ _ _ _ _ _ _ _ _ _ _ _ rfl)) fun _ =>
      kept_mk h2 _ _ _ _ _ _ _ _ _ _ _ _ _ _ _ _ _ _ _ _ _ _ _ _ _ rfl

@[simp] theorem State.queueRespread_kept (s : State) (u : Update) (h : Kept q o s) :
    Kept q o (State.queueRespread s u) := by
  unfold State.queueRespread
  simp (maxDischargeDepth := 30) (contextual := true) only [kept_ite, implies_true, State.modRbank_kept,
    State.refuseUpdate_kept, *]

@[simp] theorem State.serveUpdate_kept (s : State) (u : Update) (h : Kept q o s) :
    Kept q o (State.serveUpdate s u).1 := by
  unfold State.serveUpdate
  dsimp only; (repeat' split) <;> simp (maxDischargeDepth := 30) (contextual := true) only [kept_foldl, implies_true,
    State.deviceEvent_kept, State.setRbank_kept, State.dropEntry_kept, State.refuseUpdate_kept, State.startRespread_kept,
      State.insertStep_kept, State.queueRespread_kept, *]

@[simp] theorem State.serveUpdates_kept (s : State) (a0 : Nat) (h : Kept q o s) :
    Kept q o (State.serveUpdates s a0).1 := by
  induction a0 generalizing s with
  | zero => exact h
  | succ n ih =>
    unfold State.serveUpdates
    split
    · exact h
    · rename_i u rest _
      have h1 : Kept q o ({ s with rcl := { s.rcl with updates := rest } }.serveUpdate u).1 :=
        State.serveUpdate_kept _ u (kept_mk h _ _ _ _ _ _ _ _ _ _ _ _ _ _ _ _ _ _ _ _ _ _ _ _ _ rfl)
      dsimp only
      split
      · exact h1
      · exact ih _ h1

@[simp] theorem State.endRespread_kept (s : State) (b : Nat) (h : Kept q o s) :
    Kept q o (State.endRespread s b) := by
  unfold State.endRespread
  dsimp only; (repeat' split) <;> simp (maxDischargeDepth := 30) (contextual := true) only [kept_mk, State.setRbank_kept, *]

@[simp] theorem State.respreadSlot_kept (s : State) (h : Kept q o s) :
    Kept q o (State.respreadSlot s) := by
  unfold State.respreadSlot
  dsimp only; (repeat' split) <;> simp (maxDischargeDepth := 30) (contextual := true) only [State.modRbank_kept,
    State.moveEntry_kept, State.endRespread_kept, *]

@[simp] theorem State.serveQuery_kept (s : State) (bad : List Nat) (a0 : Query) (h : Kept q o s) :
    Kept q o (State.serveQuery s bad a0) := by
  unfold State.serveQuery
  (repeat' split) <;> simp (maxDischargeDepth := 30) (contextual := true) only [kept_mk, kept_ite, kept_foldl, implies_true,
    State.takeFree_kept, State.deviceEvent_kept, State.setCursor_kept, State.damageEntry_kept, State.refuseUpdate_kept, *]

@[simp] theorem execRecallSlot_kept (badWords : List (Fin 16 × Nat)) (s : State) (h : Kept q o s) :
    KeptO q o (execRecallSlot badWords s) := by
  unfold execRecallSlot
  refine keptO_next ?_
  dsimp only; (repeat' split) <;> simp (maxDischargeDepth := 30) (contextual := true) only [kept_mk, State.insertStep_kept,
    State.serveUpdates_kept, State.respreadSlot_kept, State.serveQuery_kept, *]

@[simp] theorem State.completeSearch_kept (s : State) (h : Kept q o s) :
    Kept q o (State.completeSearch s) := by
  unfold State.completeSearch
  (repeat' split) <;> simp (maxDischargeDepth := 30) (contextual := true) only [kept_mk, State.hubWrite_kept,
    State.setCursor_kept, *]

@[simp] theorem execParityScanWord_kept (bank : Fin 16) (bad : Bool) (s : State) (h : Kept q o s) :
    KeptO q o (execParityScanWord bank bad s) := by
  unfold execParityScanWord
  refine keptO_next ?_
  simp (maxDischargeDepth := 30) (contextual := true) only [kept_ite, implies_true, State.setRbank_kept, State.modRbank_kept,
    State.damageEntry_kept, *]

/-! ### Flips -/

@[simp] theorem State.setFlip_kept (s : State) (j : Nat) (f : FlipSet) (h : Kept q o s) :
    Kept q o (State.setFlip s j f) := by
  unfold State.setFlip
  simp (maxDischargeDepth := 30) (contextual := true) only [kept_mk, *]

@[simp] theorem State.setEntry_kept (s : State) (e : EngineId) (block : Nat) (x : XEntry) (h : Kept q o s) :
    Kept q o (State.setEntry s e block x) := by
  unfold State.setEntry
  simp (maxDischargeDepth := 30) (contextual := true) only [State.modEngine_kept, *]

@[simp] theorem State.pendBlock_kept (s : State) (j : Nat) (b : Binding) (h : Kept q o s) :
    Kept q o (State.pendBlock s j b) := by
  unfold State.pendBlock
  simp (maxDischargeDepth := 30) (contextual := true) only [State.modBank_kept, State.setEntry_kept, *]

@[simp] theorem State.armSet_kept (s : State) (j : Nat) (h : Kept q o s) :
    Kept q o (State.armSet s j) := by
  unfold State.armSet
  simp (maxDischargeDepth := 30) (contextual := true) only [kept_forAll, implies_true, State.setFlip_kept,
    State.pendBlock_kept, *]

@[simp] theorem State.unbindOld_kept (s : State) (refresh : Bool) (b : Binding) (h : Kept q o s) :
    Kept q o (State.unbindOld s refresh b) := by
  unfold State.unbindOld
  (repeat' split) <;> simp (maxDischargeDepth := 30) (contextual := true) only [kept_mk, kept_ite, kept_ite_fst, kept_foldl, kept_foldl_fst,
    kept_forAll, kept_after, implies_true, State.modBank_kept, State.modEngine_kept, *]

@[simp] theorem State.bindNew_kept (s : State) (b : Binding) (h : Kept q o s) :
    Kept q o (State.bindNew s b) := by
  unfold State.bindNew
  simp (maxDischargeDepth := 30) (contextual := true) only [kept_ite, implies_true, State.modBank_kept, State.setEntry_kept, *]

@[simp] theorem State.deleteConsolidated_kept (s : State) (h : Kept q o s) :
    Kept q o (State.deleteConsolidated s) := by
  unfold State.deleteConsolidated
  simp (maxDischargeDepth := 30) (contextual := true) only [kept_mk, *]

@[simp] theorem State.finishRemap_kept (s : State) (d : DieId) (h : Kept q o s) :
    Kept q o (State.finishRemap s d) := by
  unfold State.finishRemap
  simp (maxDischargeDepth := 30) (contextual := true) only [kept_mk, State.modDie_kept, State.event_kept, *]

@[simp] theorem State.takeSet_kept (s : State) (j : Nat) (h : Kept q o s) :
    Kept q o (State.takeSet s j) := by
  unfold State.takeSet
  dsimp only; (repeat' split) <;> simp (maxDischargeDepth := 30) (contextual := true) only [kept_mk, kept_forAll, implies_true,
    State.raise_kept, State.setFlip_kept, State.unbindOld_kept, State.bindNew_kept, State.deleteConsolidated_kept,
      State.finishRemap_kept, *]

@[simp] theorem State.applyDeepTable_kept (s : State) (h : Kept q o s) :
    Kept q o (State.applyDeepTable s) := by
  unfold State.applyDeepTable
  simp (maxDischargeDepth := 30) (contextual := true) only [kept_mk, kept_ite, implies_true, *]

@[simp] theorem State.cancelSet_kept (s : State) (j : Nat) (h : Kept q o s) :
    Kept q o (State.cancelSet s j) := by
  unfold State.cancelSet
  (repeat' split) <;> simp (maxDischargeDepth := 30) (contextual := true) only [kept_mk, kept_ite, kept_ite_fst, kept_foldl, kept_foldl_fst,
    kept_forAll, kept_after, implies_true, State.setEntry_kept, State.modBank_kept, State.modEngine_kept, State.setFlip_kept,
    State.raise_kept, State.event_kept, *]

@[simp] theorem execCommitRecordsComplete_kept (set : Fin 4) (s : State) (h : Kept q o s) :
    KeptO q o (execCommitRecordsComplete set s) := by
  unfold execCommitRecordsComplete
  refine keptO_next ?_
  simp (maxDischargeDepth := 30) (contextual := true) only [kept_mk, kept_ite, implies_true, State.event_kept,
    State.history_kept, State.writeBoot_kept, State.setFlip_kept, *]

/-! ### Start -/

@[simp] theorem State.evalClass_kept (s : State) (x : Nat) (h : Kept q o s) :
    Kept q o (State.evalClass s x) := by
  unfold State.evalClass
  simp (maxDischargeDepth := 30) (contextual := true) only [kept_ite, implies_true, State.modEngine_kept, State.modBank_kept,
    State.event_kept, *]

@[simp] theorem State.evalClasses_kept (s : State) (h : Kept q o s) :
    Kept q o (State.evalClasses s) := by
  unfold State.evalClasses
  simp (maxDischargeDepth := 30) (contextual := true) only [kept_forAll, implies_true, State.evalClass_kept, *]

@[simp] theorem State.beginTile_kept (s : State) (c : Container) (t : TileId) (h : Kept q o s) :
    Kept q o (State.beginTile s c t) := by
  unfold State.beginTile
  simp (maxDischargeDepth := 30) (contextual := true) only [State.modTile_kept, *]

@[simp] theorem State.rearm_kept (s : State) (n : Byte) (target : Nat) (h : Kept q o s) :
    Kept q o (State.rearm s n target) := by
  unfold State.rearm
  simp (maxDischargeDepth := 30) (contextual := true) only [kept_mk, kept_forAll, implies_true, State.modDie_kept, *]

@[simp] theorem State.openImages_kept (s : State) (h : Kept q o s) :
    Kept q o (State.openImages s) := by
  unfold State.openImages
  simp (maxDischargeDepth := 30) (contextual := true) only [kept_forAll, implies_true, State.modSegment_kept, *]

@[simp] theorem State.restartGrid_kept (s : State) (ds : List DieId) (h : Kept q o s) :
    Kept q o (State.restartGrid s ds) := by
  unfold State.restartGrid
  (repeat' split) <;> simp (maxDischargeDepth := 30) (contextual := true) only [kept_mk, kept_ite, kept_ite_fst, kept_foldl, kept_foldl_fst,
    kept_forAll, kept_after, implies_true, State.openSlot_kept, State.modDie_kept, State.markSlot_kept, *]

@[simp] theorem State.restartGrids_kept (s : State) (gs : List (List DieId)) (h : Kept q o s) :
    Kept q o (State.restartGrids s gs) := by
  unfold State.restartGrids
  (repeat' split) <;> simp (maxDischargeDepth := 30) (contextual := true) only [kept_mk, kept_ite, kept_ite_fst, kept_foldl, kept_foldl_fst,
    kept_forAll, kept_after, implies_true, State.restartGrid_kept, State.modDie_kept, *]

@[simp] theorem State.startProgramme_kept (s : State) (c : Container) (h : Kept q o s) :
    Kept q o (State.startProgramme s c) := by
  unfold State.startProgramme
  simp (maxDischargeDepth := 30) (contextual := true) only [kept_mk, kept_forAll, implies_true, State.beginTile_kept,
    State.rearm_kept, State.openImages_kept, *]

@[simp] theorem State.dropRequests_kept (s : State) (h : Kept q o s) :
    Kept q o (State.dropRequests s) := by
  unfold State.dropRequests
  simp (maxDischargeDepth := 30) (contextual := true) only [kept_foldl, kept_forAll, implies_true, State.modTile_kept,
    State.endTicket_kept, *]

@[simp] theorem State.setupStats_kept (s : State) (c : Container) (h : Kept q o s) :
    Kept q o (State.setupStats s c) := by
  unfold State.setupStats
  simp (maxDischargeDepth := 30) (contextual := true) only [kept_forAll, implies_true, State.modTile_kept, *]

@[simp] theorem State.renewTiles_kept (s : State) (c : Container) (h : Kept q o s) : Kept q o (State.renewTiles s c) := by
  unfold State.renewTiles
  simp (maxDischargeDepth := 30) (contextual := true) only [kept_mk, kept_forAll, implies_true, State.modTile_kept,
    State.modDie_kept, State.takeFree_kept, *]

@[simp] theorem State.switchEffects_kept (s : State) (c : Container) (h : Kept q o s) :
    Kept q o (State.switchEffects s c) := by
  unfold State.switchEffects
  simp (maxDischargeDepth := 30) (contextual := true) only [kept_mk, kept_forAll, implies_true, State.modDie_kept,
    State.renewTiles_kept, State.dropRequests_kept, State.setupStats_kept, *]

@[simp] theorem State.switchTo_kept (s : State) (c : Container) (old : Option Container) (h : Kept q o s) :
    Kept q o (State.switchTo s c old) := by
  unfold State.switchTo
  simp (maxDischargeDepth := 30) (contextual := true) only [kept_mk, State.event_kept, State.history_kept,
    State.writeBoot_kept, State.switchEffects_kept, *]

end Sys2Proof.Machine
end

