-- ==== Sys2Proof/Laws/KeptFrame.lean ====
section
/-!
SUPPORT. What is kept by frames, weight rewrites, losses and the agents of GOINE: the queue of waiting commands, whether the device is in Off, and State.Sound.
-/
set_option linter.unusedSimpArgs false
set_option linter.unusedVariables false
namespace Sys2Proof.Machine

variable {q : List Instr × Bool} {o : Bool} {s : State}

/-! ### FrameOps -/

@[simp] theorem State.openFrame_kept (s : State) (e : EdgeInput) (h : Kept q o s) :
    Kept q o (State.openFrame s e) := by
  unfold State.openFrame
  simp (maxDischargeDepth := 30) (contextual := true) only [kept_mk, kept_ite, implies_true, State.event_kept, *]

@[simp] theorem State.restartNetwork_kept (s : State) (period : Nat) (h : Kept q o s) :
    Kept q o (State.restartNetwork s period) := by
  unfold State.restartNetwork
  refine kept_forAll _ (fun s k hs => ?_) _ _ h
  split
  · exact hs
  · simp (maxDischargeDepth := 30) (contextual := true) only [hs, kept_ite, State.raise_kept, State.deviceEvent_kept,
    State.modSegment_kept, implies_true]

@[simp] theorem State.takePeriod_kept (s : State) (h : Kept q o s) :
    Kept q o (State.takePeriod s) := by
  unfold State.takePeriod
  dsimp only; (repeat' split) <;> simp (maxDischargeDepth := 30) (contextual := true) only [kept_mk, State.restartNetwork_kept, *]

@[simp] theorem State.reportMisses_kept (s : State) (t : TileId) (h : Kept q o s) :
    Kept q o (State.reportMisses s t) := by
  unfold State.reportMisses
  simp (maxDischargeDepth := 30) (contextual := true) only [kept_ite, kept_forAll, implies_true, State.raise_kept, *]

@[simp] theorem State.closeTile_kept (s : State) (t : TileId) (h : Kept q o s) :
    Kept q o (State.closeTile s t) := by
  unfold State.closeTile
  simp (maxDischargeDepth := 30) (contextual := true) only [State.modTile_kept, State.reportMisses_kept, *]

@[simp] theorem State.closeTiles_kept (s : State) (h : Kept q o s) :
    Kept q o (State.closeTiles s) := by
  unfold State.closeTiles
  simp (maxDischargeDepth := 30) (contextual := true) only [kept_mk, kept_forAll, implies_true, State.closeTile_kept, *]

@[simp] theorem State.publishLog_kept (s : State) (h : Kept q o s) :
    Kept q o (State.publishLog s) := by
  unfold State.publishLog
  simp (maxDischargeDepth := 30) (contextual := true) only [kept_mk, kept_ite, implies_true, *]

@[simp] theorem State.changeWidth_kept (s : State) (b width : Nat) (h : Kept q o s) :
    Kept q o (State.changeWidth s b width) := by
  unfold State.changeWidth
  simp (maxDischargeDepth := 30) (contextual := true) only [kept_mk, kept_ite, kept_forAll, implies_true, State.setRbank_kept,
    State.refuseUpdate_kept, State.mapCursors_kept, *]

@[simp] theorem State.bankSettings_kept (s : State) (b : Nat) (h : Kept q o s) :
    Kept q o (State.bankSettings s b) := by
  unfold State.bankSettings
  simp (maxDischargeDepth := 30) (contextual := true) only [kept_ite, implies_true, State.modRbank_kept,
    State.changeWidth_kept, State.startRespread_kept, *]

@[simp] theorem State.searchThrottle_kept (s : State) (h : Kept q o s) :
    Kept q o (State.searchThrottle s) := by
  unfold State.searchThrottle
  simp (maxDischargeDepth := 30) (contextual := true) only [kept_mk, kept_ite, implies_true, State.deviceEvent_kept, *]

@[simp] theorem State.takeSettings_kept (s : State) (h : Kept q o s) :
    Kept q o (State.takeSettings s) := by
  unfold State.takeSettings
  simp (maxDischargeDepth := 30) (contextual := true) only [kept_mk, kept_forAll, implies_true, State.bankSettings_kept,
    State.searchThrottle_kept, *]

@[simp] theorem State.openRecall_kept (s : State) (h : Kept q o s) :
    Kept q o (State.openRecall s) := by
  unfold State.openRecall
  simp (maxDischargeDepth := 30) (contextual := true) only [kept_mk, *]

@[simp] theorem State.rejoinModules_kept (s : State) (h : Kept q o s) :
    Kept q o (State.rejoinModules s) := by
  unfold State.rejoinModules
  refine kept_forAll _ (fun s d hs => ?_) _ _ h
  refine kept_foldl _ (fun s m hs => ?_) _ _ (State.modDie_kept _ _ _ hs)
  refine State.raise_kept _ _ _ _ _ ?_
  split <;> simp (maxDischargeDepth := 30) only [hs, State.modDie_kept]

@[simp] theorem State.dropBlocks_kept (s : State) (h : Kept q o s) :
    Kept q o (State.dropBlocks s) := by
  unfold State.dropBlocks
  simp (maxDischargeDepth := 30) (contextual := true) only [kept_mk, kept_foldl, implies_true, State.modTile_kept,
    State.event_kept, State.applyHubDone_kept, *]

@[simp] theorem State.openStreams_kept (s : State) (h : Kept q o s) :
    Kept q o (State.openStreams s) := by
  unfold State.openStreams
  simp (maxDischargeDepth := 30) (contextual := true) only [kept_mk, *]

@[simp] theorem State.ageSteps_kept (s : State) (h : Kept q o s) :
    Kept q o (State.ageSteps s) := by
  unfold State.ageSteps
  simp (maxDischargeDepth := 30) (contextual := true) only [kept_mk, kept_ite, kept_forAll, implies_true, State.modDie_kept,
    State.event_kept, *]

@[simp] theorem State.closeFrame_kept (s : State) (h : Kept q o s) :
    Kept q o (State.closeFrame s) := by
  unfold State.closeFrame
  simp (maxDischargeDepth := 30) (contextual := true) only [kept_mk, State.loopBoundary_kept, State.closeTiles_kept,
    State.publishLog_kept, State.takeSettings_kept, State.openRecall_kept, State.rejoinModules_kept, State.dropBlocks_kept,
      State.openStreams_kept, State.ageSteps_kept, *]

@[simp] theorem State.activateRecords_kept (s : State) (h : Kept q o s) :
    Kept q o (State.activateRecords s) := by
  unfold State.activateRecords
  simp (maxDischargeDepth := 30) (contextual := true) only [kept_mk, *]

@[simp] theorem State.firmwareBoundary_kept (s : State) (quiet : Bool) (h : Kept q o s) :
    Kept q o (State.firmwareBoundary s quiet) := by
  unfold State.firmwareBoundary
  (repeat' split) <;> simp (maxDischargeDepth := 30) (contextual := true) only [kept_mk, State.raise_kept, State.event_kept,
    State.history_kept, *]

@[simp] theorem State.takeTransition_kept (s : State) (h : Kept q o s) :
    Kept q o (State.takeTransition s) := by
  have aw : s.power = .idle ∨ s.power = .run → o = false := by
    intro e; have h2 := h.2.1; rcases e with e | e <;> simp_all
  unfold State.takeTransition
  dsimp only
  refine kept_ite (fun _ => h) (fun _ => ?_)
  split
  · refine kept_ite (fun hc => ?_) (fun _ => kept_mk h _ _ _ _ _ _ _ _ _ _ _ _ _ _ _ _ _ _ _ _ _ _ _ _ _ rfl)
    simp only [Bool.and_eq_true, decide_eq_true_eq] at hc
    obtain rfl := aw (.inl hc.1.1.2)
    exact State.enter_kept _ _ (kept_mk h _ _ _ _ _ _ _ _ _ _ _ _ _ _ _ _ _ _ _ _ _ _ _ _ _ rfl) (by decide)
  · split
    · refine kept_ite (fun hc => ?_) (fun _ => h)
      obtain rfl := aw (.inl hc)
      exact State.enter_kept _ _ (kept_mk h _ _ _ _ _ _ _ _ _ _ _ _ _ _ _ _ _ _ _ _ _ _ _ _ _ rfl) (by decide)
    · refine kept_ite (fun hc => ?_) (fun _ => h)
      obtain rfl := aw (.inr hc); exact State.goIdle_kept _ h
    · refine kept_ite (fun hc => ?_) (fun _ => h)
      obtain rfl := aw (.inr hc); exact State.enterDoze_kept _ (State.goIdle_kept _ h)
    · exact h

@[simp] theorem State.coverLoss_kept (s : State) (h : Kept q o s) :
    Kept q o (State.coverLoss s) := by
  have aw : s.power = .run → o = false := by
    intro e; have h2 := h.2.1; simp_all
  unfold State.coverLoss
  refine kept_ite (fun hc => ?_) (fun _ => h)
  obtain rfl := aw hc.2.1
  exact State.event_kept _ _ _ (State.goIdle_kept _ (kept_mk h _ _ _ _ _ _ _ _ _ _ _ _ _ _ _ _ _ _ _ _ _ _ _ _ _ rfl))

@[simp] theorem State.switchAt_kept (s : State) (tied : Option Container) (h : Kept q o s) :
    Kept q o (State.switchAt s tied) := by
  unfold State.switchAt
  (repeat' split) <;> simp (maxDischargeDepth := 30) (contextual := true) only [kept_mk, kept_ite, implies_true,
    State.switchTo_kept, *]

@[simp] theorem State.prepareProgramme_kept (s : State) (h : Kept q o s) :
    Kept q o (State.prepareProgramme s) := by
  unfold State.prepareProgramme
  (repeat' split) <;> simp (maxDischargeDepth := 30) (contextual := true) only [kept_mk, kept_ite, kept_ite_fst, kept_foldl, kept_foldl_fst,
    kept_forAll, kept_after, implies_true, State.switchEffects_kept, State.renewTiles_kept, *]

@[simp] theorem State.runProgramme_kept (s : State) (h : Kept q o s) :
    Kept q o (State.runProgramme s) := by
  unfold State.runProgramme
  (repeat' split) <;> simp (maxDischargeDepth := 30) (contextual := true) only [State.startProgramme_kept,
    State.switchEffects_kept, State.renewTiles_kept, *]

@[simp] theorem State.slipFrame_kept (s : State) (h : Kept q o s) :
    Kept q o (State.slipFrame s) := by
  unfold State.slipFrame
  simp (maxDischargeDepth := 30) (contextual := true) only [kept_mk, kept_ite, implies_true, State.event_kept, *]

@[simp] theorem State.transmit_kept (s : State) (k : Nat) (h : Kept q o s) :
    Kept q o (State.transmit s k) := by
  unfold State.transmit
  simp (maxDischargeDepth := 30) (contextual := true) only [kept_ite, implies_true, State.setSegment_kept, *]

@[simp] theorem State.openRequests_kept (s : State) (h : Kept q o s) :
    Kept q o (State.openRequests s) := by
  unfold State.openRequests
  simp (maxDischargeDepth := 30) (contextual := true) only [kept_mk, *]

@[simp] theorem State.dissolveLeft_kept (s : State) (h : Kept q o s) :
    Kept q o (State.dissolveLeft s) := by
  unfold State.dissolveLeft
  (repeat' split) <;> simp (maxDischargeDepth := 30) (contextual := true) only [kept_mk, kept_ite, kept_ite_fst, kept_foldl, kept_foldl_fst,
    kept_forAll, kept_after, implies_true, *]

@[simp] theorem State.openSlots_kept (s : State) (gs : List (List DieId)) (edge : EdgeInput) (h : Kept q o s) :
    Kept q o (State.openSlots s gs edge) := by
  unfold State.openSlots
  (repeat' split) <;> simp (maxDischargeDepth := 30) (contextual := true) only [kept_mk, kept_ite, kept_ite_fst, kept_foldl, kept_foldl_fst,
    kept_forAll, kept_after, implies_true, State.enterSlot_kept, State.spoilWords_kept, *]

@[simp] theorem State.boundary_kept (s : State) (edge : EdgeInput) (h : Kept q o s) :
    Kept q o (State.boundary s edge) := by
  unfold State.boundary
  have h1 := State.dissolveLeft_kept _ (State.coverLoss_kept _ (State.takeTransition_kept _ h))
  generalize s.takeTransition.coverLoss.dissolveLeft = s1 at h1 ⊢
  extract_lets s1a runs starts js tied s2 s3 switched s4 s5 s5a gs fr s6
  have h2 : Kept q o s2 := State.activateRecords_kept _ (State.applyDeepTable_kept _ (kept_foldl _ (fun _ _ hx => State.takeSet_kept _ _ hx) _ _ h1))
  have h3 : Kept q o s3 := kept_ite (fun _ => State.switchAt_kept _ _ h2) (fun _ => h2)
  have h5 : Kept q o s5 := State.firmwareBoundary_kept _ _ (State.evalClasses_kept _ h3)
  have h5a : Kept q o s5a := kept_ite (fun _ => State.prepareProgramme_kept _ h5) (fun _ => h5)
  have h6 : Kept q o s6 := State.restartGrids_kept _ _ (kept_mk h5a _ _ _ _ _ _ _ _ _ _ _ _ _ _ _ _ _ _ _ _ _ _ _ _ _ rfl)
  exact State.openSlots_kept _ _ _ (kept_ite (fun _ => State.runProgramme_kept _ h6) (fun _ => kept_ite (fun _ => State.slipFrame_kept _ h6) (fun _ => h6)))

@[simp] theorem State.frameStart_kept (s : State) (edge : EdgeInput) (h : Kept q o s) :
    Kept q o (State.frameStart s edge) := by
  unfold State.frameStart
  simp (maxDischargeDepth := 30) (contextual := true) only [kept_mk, kept_ite, kept_forAll, implies_true,
    State.takeSnapshot_kept, State.openFrame_kept, State.takePeriod_kept, State.publishLog_kept, State.closeFrame_kept,
      State.transmit_kept, State.openRequests_kept, State.boundary_kept, *]

@[simp] theorem State.commitSegment_kept (s : State) (missed : Bool) (p : State × Bool × Bool × Bool) (seg : Nat) (h : Kept q o p.1) :
    Kept q o (State.commitSegment s missed p seg).1 := by
  unfold State.commitSegment
  exact State.modSegment_kept _ _ _ h

@[simp] theorem State.commitImages_kept (s : State) (missed : Bool) (h : Kept q o s) :
    Kept q o (State.commitImages s missed) := by
  unfold State.commitImages
  have h1 := kept_foldl_fst (s.commitSegment missed) (fun p x hp => State.commitSegment_kept s missed p x hp) (List.range 3)
    (s, false, false, false) h
  exact kept_ite (fun _ => State.event_kept _ _ _ (kept_mk h1 _ _ _ _ _ _ _ _ _ _ _ _ _ _ _ _ _ _ _ _ _ _ _ _ _ rfl))
    (fun _ => kept_mk h1 _ _ _ _ _ _ _ _ _ _ _ _ _ _ _ _ _ _ _ _ _ _ _ _ _ rfl)

@[simp] theorem execCommitDeadline_kept (s : State) (h : Kept q o s) :
    KeptO q o (execCommitDeadline s) := by
  unfold execCommitDeadline
  refine keptO_next ?_
  simp (maxDischargeDepth := 30) (contextual := true) only [kept_mk, kept_ite, implies_true, State.event_kept,
    State.commitImages_kept, *]

/-! ### Rewrite -/

@[simp] theorem State.recordStuck_kept (s : State) (b : Nat) (c : FailedCell) (found : Nat) (h : Kept q o s) :
    Kept q o (State.recordStuck s b c found) := by
  unfold State.recordStuck
  (repeat' split) <;> simp (maxDischargeDepth := 30) (contextual := true) only [kept_mk, kept_ite, kept_ite_fst, kept_foldl, kept_foldl_fst,
    kept_forAll, kept_after, implies_true, State.event_kept, State.modDie_kept, *]

@[simp] theorem State.setStuckState_kept (s : State) (e : StuckEntry) (st : Nat) (h : Kept q o s) :
    Kept q o (State.setStuckState s e st) := by
  unfold State.setStuckState
  simp (maxDischargeDepth := 30) (contextual := true) only [State.modDie_kept, *]

@[simp] theorem State.fillBank_kept (s : State) (b : Nat) (r : BlockRecord) (failed : List FailedCell) (h : Kept q o s) :
    Kept q o (State.fillBank s b r failed) := by
  unfold State.fillBank
  (repeat' split) <;> simp (maxDischargeDepth := 30) (contextual := true) only [kept_mk, kept_ite, kept_ite_fst, kept_foldl, kept_foldl_fst,
    kept_forAll, kept_after, implies_true, State.modBank_kept, State.modTile_kept, State.setStuckState_kept,
    State.takeFree_kept, State.event_kept, *]

@[simp] theorem State.startLane_kept (s : State) (b : Nat) (h : Kept q o s) :
    Kept q o (State.startLane s b) := by
  unfold State.startLane
  simp (maxDischargeDepth := 30) (contextual := true) only [kept_ite, implies_true, State.modBank_kept, *]

@[simp] theorem State.startLanes_kept (s : State) (h : Kept q o s) :
    Kept q o (State.startLanes s) := by
  unfold State.startLanes
  simp (maxDischargeDepth := 30) (contextual := true) only [kept_ite, kept_forAll, implies_true, State.startLane_kept, *]

@[simp] theorem State.queueWrites_kept (s : State) (j : Nat) (ws : List (Nat × BlockRecord)) (h : Kept q o s) :
    Kept q o (State.queueWrites s j ws) := by
  unfold State.queueWrites
  simp (maxDischargeDepth := 30) (contextual := true) only [kept_mk, kept_forAll, implies_true, State.modBank_kept,
    State.startLanes_kept, *]

@[simp] theorem State.keepRecord_kept (s : State) (b : Nat) (r : BlockRecord) (h : Kept q o s) :
    Kept q o (State.keepRecord s b r) := by
  unfold State.keepRecord
  dsimp only
  (repeat' split) <;> simp (maxDischargeDepth := 30) (contextual := true) only [kept_mk, kept_ite, kept_ite_fst, kept_foldl, kept_foldl_fst,
    kept_forAll, kept_after, implies_true, State.modBank_kept, *]

@[simp] theorem State.moveDeviceBase_kept (s : State) (h : Kept q o s) :
    Kept q o (State.moveDeviceBase s) := by
  unfold State.moveDeviceBase
  simp (maxDischargeDepth := 30) (contextual := true) only [kept_mk, *]

@[simp] theorem State.writtenBank_kept (s : State) (b : Nat) (r : BlockRecord) (image : BitVec 384) (h : Kept q o s) :
    Kept q o (State.writtenBank s b r image) := by
  unfold State.writtenBank
  (repeat' split) <;> simp (maxDischargeDepth := 30) (contextual := true) only [kept_mk, kept_ite, kept_ite_fst, kept_foldl, kept_foldl_fst,
    kept_forAll, kept_after, implies_true, State.setBank_kept, State.event_kept, *]

@[simp] theorem State.finishSet_kept (s : State) (j : Nat) (h : Kept q o s) :
    Kept q o (State.finishSet s j) := by
  unfold State.finishSet
  simp (maxDischargeDepth := 30) (contextual := true) only [kept_mk, kept_ite, implies_true, State.event_kept,
    State.setFlip_kept, State.armSet_kept, State.moveDeviceBase_kept, *]

@[simp] theorem execBankWriteComplete_kept (bank : Fin 8388608) (failed : List FailedCell) (s : State) (h : Kept q o s) :
    KeptO q o (execBankWriteComplete bank failed s) := by
  unfold execBankWriteComplete
  refine keptO_next ?_
  dsimp only
  (repeat' split) <;> simp (maxDischargeDepth := 30) (contextual := true) only [kept_mk, kept_ite, kept_ite_fst, kept_foldl, kept_foldl_fst,
    kept_forAll, kept_after, implies_true, State.recordStuck_kept, State.fillBank_kept, State.writtenBank_kept,
    State.keepRecord_kept, State.modEngine_kept, State.startLanes_kept, *]

/-! ### Loss -/

@[simp] theorem State.lowerTarget_kept (s : State) (d : DieId) (n : Byte) (h : Kept q o s) :
    Kept q o (State.lowerTarget s d n) := by
  unfold State.lowerTarget
  simp (maxDischargeDepth := 30) (contextual := true) only [kept_mk, kept_ite, implies_true, State.globalEdge_kept,
    State.broadcast_kept, *]

@[simp] theorem State.loseInFrame_kept (s : State) (d : DieId) (h : Kept q o s) :
    Kept q o (State.loseInFrame s d) := by
  unfold State.loseInFrame
  simp (maxDischargeDepth := 30) (contextual := true) only [kept_mk, kept_ite, kept_forAll, implies_true, State.modTile_kept,
    State.lowerTarget_kept, *]

@[simp] theorem State.startRemap_kept (s : State) (d : DieId) (p : Plan) (h : Kept q o s) :
    Kept q o (State.startRemap s d p) := by
  unfold State.startRemap
  (repeat' split) <;> simp (maxDischargeDepth := 30) (contextual := true) only [kept_mk, State.event_kept, State.setFlip_kept,
    State.queueWrites_kept, State.finishSet_kept, *]

@[simp] theorem State.selectAfterLoss_kept (s : State) (d : DieId) (h : Kept q o s) :
    Kept q o (State.selectAfterLoss s d) := by
  unfold State.selectAfterLoss
  (repeat' split) <;> simp (maxDischargeDepth := 30) (contextual := true) only [State.event_kept, State.startRemap_kept, *]

@[simp] theorem State.discardReaching_kept (s : State) (d : DieId) (h : Kept q o s) :
    Kept q o (State.discardReaching s d) := by
  unfold State.discardReaching
  simp (maxDischargeDepth := 30) (contextual := true) only [kept_mk, kept_ite, implies_true, State.raise_kept, *]

@[simp] theorem State.cancelTouching_kept (s : State) (d : DieId) (h : Kept q o s) :
    Kept q o (State.cancelTouching s d) := by
  unfold State.cancelTouching
  simp (maxDischargeDepth := 30) (contextual := true) only [kept_ite, kept_forAll, implies_true, State.cancelSet_kept,
    State.startLanes_kept, *]

@[simp] theorem State.markOut_kept (s : State) (d : DieId) (cause : Nat) (h : Kept q o s) :
    Kept q o (State.markOut s d cause) := by
  unfold State.markOut
  simp (maxDischargeDepth := 30) (contextual := true) only [kept_mk, kept_ite, implies_true, State.modDie_kept,
    State.raise_kept, State.loseInFrame_kept, State.selectAfterLoss_kept, State.discardReaching_kept,
      State.cancelTouching_kept, *]

@[simp] theorem execDieMarkOut_kept (d : DieId) (cause : Nat) (s : State) (h : Kept q o s) :
    KeptO q o (execDieMarkOut d cause s) := by
  unfold execDieMarkOut
  refine keptO_next ?_
  simp (maxDischargeDepth := 30) (contextual := true) only [kept_ite, implies_true, State.markOut_kept, *]

/-! ### Goine -/

@[simp] theorem State.taintChange_kept (s : State) (d : DieId) (toHub : Bool) (n : Nat) (h : Kept q o s) :
    Kept q o (State.taintChange s d toHub n) := by
  unfold State.taintChange
  simp (maxDischargeDepth := 30) (contextual := true) only [kept_mk, kept_ite, implies_true, State.modDie_kept, *]

@[simp] theorem State.taintMove_kept (s : State) (t : TileId) (row : Nat) (beat : Nat) (words : Nat) (h : Kept q o s) :
    Kept q o (State.taintMove s t row beat words) := by
  unfold State.taintMove
  simp (maxDischargeDepth := 30) (contextual := true) only [kept_mk, *]

@[simp] theorem State.taintBlock_kept (s : State) (t : TileId) (row : Nat) (beat : Nat) (words : Nat) (h : Kept q o s) :
    Kept q o (State.taintBlock s t row beat words) := by
  unfold State.taintBlock
  simp (maxDischargeDepth := 30) (contextual := true) only [kept_mk, *]

@[simp] theorem State.taintTransfer_kept (s : State) (d : DieId) (tag : Nat) (beat : Nat) (h : Kept q o s) :
    Kept q o (State.taintTransfer s d tag beat) := by
  unfold State.taintTransfer
  simp (maxDischargeDepth := 30) (contextual := true) only [kept_mk, kept_forAll, implies_true, State.modTile_kept,
    State.takeFree_kept, *]

@[simp] theorem State.deliverPoison_kept (s : State) (d : DieId) (toHub : Bool) (f : Flit) (words : Nat) (h : Kept q o s) :
    Kept q o (State.deliverPoison s d toHub f words) := by
  unfold State.deliverPoison
  (repeat' split) <;> simp (maxDischargeDepth := 30) (contextual := true) only [kept_mk, kept_foldl, implies_true,
    State.taintChange_kept, State.taintMove_kept, State.taintBlock_kept, State.taintTransfer_kept, *]

@[simp] theorem execGoineFlitDelivery_kept (d : DieId) (m : Fin 4) (toHub : Bool) (late : Bool) (flit : BitVec 320) (s : State) (h : Kept q o s) :
    KeptO q o (execGoineFlitDelivery d m toHub late flit s) := by
  unfold execGoineFlitDelivery
  refine keptO_next ?_
  (repeat' split) <;> simp (maxDischargeDepth := 30) (contextual := true) only [kept_ite, implies_true, State.modDie_kept,
    State.raise_kept, State.deliverPoison_kept, *]

@[simp] theorem State.dropModule_kept (s : State) (d : DieId) (m : Nat) (h : Kept q o s) :
    Kept q o (State.dropModule s d m) := by
  unfold State.dropModule
  simp (maxDischargeDepth := 30) (contextual := true) only [State.modDie_kept, *]

@[simp] theorem State.dropLink_kept (s : State) (d : DieId) (m : Nat) (h : Kept q o s) :
    Kept q o (State.dropLink s d m) := by
  unfold State.dropLink
  (repeat' split) <;> simp (maxDischargeDepth := 30) (contextual := true) only [State.dropModule_kept, *]

@[simp] theorem State.checkHubModules_kept (s : State) (d : DieId) (h : Kept q o s) :
    Kept q o (State.checkHubModules s d) := by
  unfold State.checkHubModules
  simp (maxDischargeDepth := 30) (contextual := true) only [kept_ite, implies_true, State.markOut_kept, *]

@[simp] theorem State.loseModule_kept (s : State) (d : DieId) (m : Nat) (h : Kept q o s) :
    Kept q o (State.loseModule s d m) := by
  unfold State.loseModule
  simp (maxDischargeDepth := 30) (contextual := true) only [State.raise_kept, State.dropLink_kept, State.checkHubModules_kept, *]

@[simp] theorem State.endHubLoop_kept (s : State) (d : DieId) (m : Nat) (h : Kept q o s) :
    Kept q o (State.endHubLoop s d m) := by
  unfold State.endHubLoop
  simp (maxDischargeDepth := 30) (contextual := true) only [kept_ite, implies_true, State.endLoop_kept, *]

@[simp] theorem execGoineModuleLoss_kept (d : DieId) (m : Fin 4) (s : State) (h : Kept q o s) :
    KeptO q o (execGoineModuleLoss d m s) := by
  unfold execGoineModuleLoss
  refine keptO_next ?_
  simp (maxDischargeDepth := 30) (contextual := true) only [kept_ite, implies_true, State.loseModule_kept,
    State.endHubLoop_kept, *]

@[simp] theorem execGoineRetrain_kept (d : DieId) (m : Fin 4) (ok : Bool) (s : State) (h : Kept q o s) :
    KeptO q o (execGoineRetrain d m ok s) := by
  unfold execGoineRetrain
  refine keptO_next ?_
  simp (maxDischargeDepth := 30) (contextual := true) only [kept_ite, implies_true, State.modDie_kept, State.dropLink_kept,
    State.loseModule_kept, *]

end Sys2Proof.Machine
end

