-- ==== Sys2Proof/Laws/KeptIngress.lean ====
section
/-!
SUPPORT. What is kept by ingress, maintenance, the power unit, images and programmes: the queue of waiting commands, whether the device is in Off, and State.Sound.
-/
set_option linter.unusedSimpArgs false
set_option linter.unusedVariables false
namespace Sys2Proof.Machine

variable {q : List Instr × Bool} {o : Bool} {s : State}

/-! ### HdCode -/

@[simp] theorem State.refuseHd_kept (s : State) (c : Channel) (aux : Nat) (h : Kept q o s) :
    Kept q o (State.refuseHd s c aux) := by
  unfold State.refuseHd
  simp (maxDischargeDepth := 30) (contextual := true) only [State.deviceEvent_kept, State.answer_kept, *]

@[simp] theorem State.hdWrite_kept (s : State) (c : Channel) (lengthOk : Bool) (ok : Bool) (aux : Nat) (f : State → State) (h : Kept q o s) (hf : ∀ (x0 : State), Kept q o x0 → Kept q o (f x0)) :
    Kept q o (State.hdWrite s c lengthOk ok aux f) := by
  unfold State.hdWrite
  simp (maxDischargeDepth := 30) (contextual := true) only [kept_ite, implies_true, State.request_kept, State.refuseHd_kept, *]

@[simp] theorem execListTableWrite_kept (c : Channel) (n : Fin 16) (entry : List Byte) (s : State) (h : Kept q o s) :
    KeptO q o (execListTableWrite c n entry s) := by
  unfold execListTableWrite
  refine keptO_next ?_
  refine State.hdWrite_kept _ _ _ _ _ _ h ?_; intro x hx; simp (maxDischargeDepth := 30) (contextual := true) only [kept_mk,
    State.acceptOctets_kept, *]

@[simp] theorem execListWrite_kept (c : Channel) (data : List Byte) (s : State) (h : Kept q o s) :
    KeptO q o (execListWrite c data s) := by
  unfold execListWrite
  refine keptO_next ?_
  simp (maxDischargeDepth := 30) (contextual := true) only [implies_true, State.acceptOctets_kept, State.hubWrite_kept,
    State.hdWrite_kept, *]

@[simp] theorem execDeepGroupWrite_kept (c : Channel) (entry : List Byte) (s : State) (h : Kept q o s) :
    KeptO q o (execDeepGroupWrite c entry s) := by
  unfold execDeepGroupWrite
  refine keptO_next ?_
  refine State.request_kept _ _ _ _ h ?_; intro x hx; simp (maxDischargeDepth := 30) (contextual := true) only [kept_mk, *]

@[simp] theorem State.refuseConsolidation_kept (s : State) (cause : Nat) (bank : Nat) (h : Kept q o s) :
    Kept q o (State.refuseConsolidation s cause bank) := by
  unfold State.refuseConsolidation
  simp (maxDischargeDepth := 30) (contextual := true) only [kept_mk, State.raise_kept, *]

@[simp] theorem State.writeIndex_kept (s : State) (g : Nat) (es : List Entry) (h : Kept q o s) :
    Kept q o (State.writeIndex s g es) := by
  unfold State.writeIndex
  (refine kept_mem h _ rfl rfl rfl rfl (.inl rfl) ?_ ?_ <;> simp (maxDischargeDepth := 30) (contextual := true) only [ByteMem.wf_ite, ByteMem.wf_foldl, ByteMem.wf_write, ByteMem.wf_writeRow, ByteMem.wf_writeStream, ByteMem.wf_setPoison, ByteMem.wf_taint, ByteMem.wf_empty, h.hub, h.lpddr, implies_true])

@[simp] theorem State.consolidate_kept (s : State) (bank : Nat) (first : Nat) (count : Nat) (group : Nat) (h : Kept q o s) :
    Kept q o (State.consolidate s bank first count group) := by
  unfold State.consolidate
  dsimp only; (repeat' split) <;> simp (maxDischargeDepth := 30) (contextual := true) only [kept_mk, State.setCursor_kept,
    State.setFlip_kept, State.queueWrites_kept, State.finishSet_kept, State.refuseConsolidation_kept, State.writeIndex_kept, *]

@[simp] theorem execStartConsolidation_kept (c : Channel) (bank : Byte) (first : W16) (count : W16) (group : W16) (s : State) (h : Kept q o s) :
    KeptO q o (execStartConsolidation c bank first count group s) := by
  unfold execStartConsolidation
  refine keptO_next ?_
  simp (maxDischargeDepth := 30) (contextual := true) only [kept_ite, implies_true, State.request_kept,
    State.refuseConsolidation_kept, State.consolidate_kept, *]

@[simp] theorem execRequestRespread_kept (c : Channel) (bank : Byte) (s : State) (h : Kept q o s) :
    KeptO q o (execRequestRespread c bank s) := by
  unfold execRequestRespread
  refine keptO_next ?_
  simp (maxDischargeDepth := 30) (contextual := true) only [implies_true, State.request_kept, State.startRespread_kept, *]

/-! ### IngressOps -/

@[simp] theorem State.setContext_kept (s : State) (k : Nat) (c : ImgContext) (h : Kept q o s) :
    Kept q o (State.setContext s k c) := by
  unfold State.setContext
  simp (maxDischargeDepth := 30) (contextual := true) only [kept_mk, *]

@[simp] theorem State.modContext_kept (s : State) (k : Nat) (f : ImgContext → ImgContext) (h : Kept q o s) :
    Kept q o (State.modContext s k f) := by
  unfold State.modContext
  simp (maxDischargeDepth := 30) (contextual := true) only [State.setContext_kept, *]

@[simp] theorem State.finishFrame_kept (s : State) (k : Nat) (h : Kept q o s) :
    Kept q o (State.finishFrame s k) := by
  unfold State.finishFrame
  dsimp only
  refine kept_ite (fun _ => ?_) (fun _ => State.deviceEvent_kept _ _ _ (State.setContext_kept _ _ _ h))
  refine State.setContext_kept _ _ _ ?_
  (refine kept_mem h _ rfl rfl rfl rfl (.inl rfl) ?_ ?_ <;> simp (maxDischargeDepth := 30) (contextual := true) only [ByteMem.wf_ite, ByteMem.wf_foldl, ByteMem.wf_write, ByteMem.wf_writeRow, ByteMem.wf_writeStream, ByteMem.wf_setPoison, ByteMem.wf_taint, ByteMem.wf_empty, h.hub, h.lpddr, implies_true])

@[simp] theorem execCameraFrameEnd_kept (context : Fin 16) (s : State) (h : Kept q o s) :
    KeptO q o (execCameraFrameEnd context s) := by
  unfold execCameraFrameEnd
  refine keptO_next ?_
  simp (maxDischargeDepth := 30) (contextual := true) only [kept_ite, implies_true, State.finishFrame_kept, *]

@[simp] theorem State.countDropped_kept (s : State) (port : Nat) (h : Kept q o s) :
    Kept q o (State.countDropped s port) := by
  unfold State.countDropped
  simp (maxDischargeDepth := 30) (contextual := true) only [kept_mk, *]

@[simp] theorem State.startCameraFrame_kept (s : State) (k : Nat) (h : Kept q o s) :
    Kept q o (State.startCameraFrame s k) := by
  unfold State.startCameraFrame
  simp (maxDischargeDepth := 30) (contextual := true) only [kept_ite, implies_true, State.setContext_kept,
    State.finishFrame_kept, *]

@[simp] theorem State.takePacket_kept (s : State) (port : Nat) (p : CsiPacket) (h : Kept q o s) :
    Kept q o (State.takePacket s port p) := by
  unfold State.takePacket
  (repeat' split) <;> simp (maxDischargeDepth := 30) (contextual := true) only [kept_ite, implies_true, State.setContext_kept,
    State.countDropped_kept, State.startCameraFrame_kept, *]

@[simp] theorem State.spoilPort_kept (s : State) (port : Nat) (h : Kept q o s) :
    Kept q o (State.spoilPort s port) := by
  unfold State.spoilPort
  simp (maxDischargeDepth := 30) (contextual := true) only [kept_ite, kept_forAll, implies_true, State.setContext_kept, *]

@[simp] theorem execCsi2Packet_kept (port : Fin 8) (p : CsiPacket) (overflow : Bool) (s : State) (h : Kept q o s) :
    KeptO q o (execCsi2Packet port p overflow s) := by
  unfold execCsi2Packet
  refine keptO_next ?_
  (repeat' split) <;> simp (maxDischargeDepth := 30) (contextual := true) only [State.deviceEvent_kept, State.modContext_kept,
    State.takePacket_kept, State.spoilPort_kept, *]

@[simp] theorem State.endDelivery_kept (s : State) (k : Nat) (h : Kept q o s) :
    Kept q o (State.endDelivery s k) := by
  unfold State.endDelivery
  simp (maxDischargeDepth := 30) (contextual := true) only [kept_ite, implies_true, State.setContext_kept, *]

@[simp] theorem State.requestStripe_kept (s : State) (k : Nat) (a0 : Nat) (h : Kept q o s) :
    Kept q o (State.requestStripe s k a0) := by
  induction a0 generalizing s with
  | zero => exact h
  | succ n ih =>
    unfold State.requestStripe
    dsimp only
    split
    · exact State.endDelivery_kept _ _ h
    · have h1 := fun c => State.setContext_kept s k c h
      split
      · exact ih _ (h1 _)
      · split
        · split
          · exact State.takeFree_kept _ (State.agentRequest_kept _ _ _ _ _ _ _ (h1 _))
          · exact h1 _
        · exact ih _ (State.deviceEvent_kept _ _ _ (State.applyHubDone_kept _ _ _ (h1 _)))

@[simp] theorem State.requestStripes_kept (s : State) (h : Kept q o s) :
    Kept q o (State.requestStripes s) := by
  unfold State.requestStripes
  simp (maxDischargeDepth := 30) (contextual := true) only [kept_ite, kept_forAll, implies_true, State.requestStripe_kept, *]

@[simp] theorem execIngressDelivery_kept (s : State) (h : Kept q o s) :
    KeptO q o (execIngressDelivery s) := by
  unfold execIngressDelivery
  refine keptO_next ?_
  (repeat' split) <;> simp (maxDischargeDepth := 30) (contextual := true) only [State.agentWrite_kept,
    State.requestStripes_kept, *]

/-! ### Maintenance -/

@[simp] theorem State.absorbLive_kept (s : State) (b : Nat) (c : FailedCell) (h : Kept q o s) :
    Kept q o (State.absorbLive s b c) := by
  unfold State.absorbLive
  dsimp only
  (repeat' split) <;> simp (maxDischargeDepth := 30) (contextual := true) only [kept_mk, kept_ite, kept_ite_fst, kept_foldl, kept_foldl_fst,
    kept_forAll, kept_after, implies_true, State.setBank_kept, State.modTile_kept, State.modBank_kept,
    State.setStuckState_kept, State.modEngine_kept, State.event_kept, *]

@[simp] theorem State.queueRefresh_kept (s : State) (b : Nat) (h : Kept q o s) :
    Kept q o (State.queueRefresh s b) := by
  unfold State.queueRefresh
  simp (maxDischargeDepth := 30) (contextual := true) only [kept_ite, implies_true, State.modEngine_kept, State.modBank_kept,
    State.event_kept, *]

@[simp] theorem State.scanWaiting_kept (s : State) (b : Nat) (cells : List FailedCell) (h : Kept q o s) :
    Kept q o (State.scanWaiting s b cells) := by
  unfold State.scanWaiting
  dsimp only
  (repeat' split) <;> simp (maxDischargeDepth := 30) (contextual := true) only [kept_mk, kept_ite, kept_ite_fst, kept_foldl, kept_foldl_fst,
    kept_forAll, kept_after, implies_true, State.recordStuck_kept, State.cancelSet_kept, State.startLanes_kept, *]

@[simp] theorem State.scanLive_kept (s : State) (b : Nat) (cells : List FailedCell) (drift : Rat) (h : Kept q o s) :
    Kept q o (State.scanLive s b cells drift) := by
  unfold State.scanLive
  (repeat' split) <;> simp (maxDischargeDepth := 30) (contextual := true) only [kept_mk, kept_ite, kept_ite_fst, kept_foldl, kept_foldl_fst,
    kept_forAll, kept_after, implies_true, State.recordStuck_kept, State.absorbLive_kept, State.modBank_kept,
    State.evalClass_kept, State.queueRefresh_kept, *]

@[simp] theorem State.finishScan_kept (s : State) (x : Scan) (h : Kept q o s) :
    Kept q o (State.finishScan s x) := by
  unfold State.finishScan
  (repeat' split) <;> simp (maxDischargeDepth := 30) (contextual := true) only [kept_mk, kept_ite, kept_ite_fst, kept_foldl, kept_foldl_fst,
    kept_forAll, kept_after, implies_true, State.scanLive_kept, State.scanWaiting_kept, *]

@[simp] theorem execDriftScan_kept (bank : Fin 8388608) (s : State) (h : Kept q o s) :
    KeptO q o (execDriftScan bank s) := by
  unfold execDriftScan
  refine keptO_next ?_
  dsimp only
  (repeat' split) <;> simp (maxDischargeDepth := 30) (contextual := true) only [kept_mk, kept_ite, kept_ite_fst, kept_foldl, kept_foldl_fst,
    kept_forAll, kept_after, implies_true, State.modEngine_kept, State.finishScan_kept, *]

@[simp] theorem execDriftRefresh_kept (bank : Fin 8388608) (s : State) (h : Kept q o s) :
    KeptO q o (execDriftRefresh bank s) := by
  unfold execDriftRefresh
  refine keptO_next ?_
  dsimp only; (repeat' split) <;> simp (maxDischargeDepth := 30) (contextual := true) only [State.modEngine_kept,
    State.modBank_kept, State.event_kept, State.setFlip_kept, State.queueWrites_kept, State.finishSet_kept, *]

@[simp] theorem execPeriodicRecalibration_kept (e : EngineId) (s : State) (h : Kept q o s) :
    KeptO q o (execPeriodicRecalibration e s) := by
  unfold execPeriodicRecalibration
  refine keptO_next ?_
  simp (maxDischargeDepth := 30) (contextual := true) only [kept_ite, implies_true, State.modEngine_kept, *]

@[simp] theorem State.endArray_kept (s : State) (e : EngineId) (b : Nat) (c : Calib) (h : Kept q o s) :
    Kept q o (State.endArray s e b c) := by
  unfold State.endArray
  (repeat' split) <;> simp (maxDischargeDepth := 30) (contextual := true) only [kept_mk, kept_ite, kept_ite_fst, kept_foldl, kept_foldl_fst,
    kept_forAll, kept_after, implies_true, State.modEngine_kept, State.modBank_kept, State.finishSet_kept, *]

@[simp] theorem execCalibrationComplete_kept (e : EngineId) (s : State) (h : Kept q o s) :
    KeptO q o (execCalibrationComplete e s) := by
  unfold execCalibrationComplete
  refine keptO_next ?_
  (repeat' split) <;> simp (maxDischargeDepth := 30) (contextual := true) only [kept_mk, kept_ite, kept_ite_fst, kept_foldl, kept_foldl_fst,
    kept_forAll, kept_after, implies_true, State.endArray_kept, State.modEngine_kept, State.takeFree_kept, *]

@[simp] theorem execStrongmanMissLimit_kept (e : EngineId) (s : State) (h : Kept q o s) :
    KeptO q o (execStrongmanMissLimit e s) := by
  unfold execStrongmanMissLimit
  refine keptO_next ?_
  simp (maxDischargeDepth := 30) (contextual := true) only [kept_ite, implies_true, State.setEngine_kept, State.modEngine_kept,
    State.event_kept, State.markOut_kept, *]

@[simp] theorem execQueueRecalibration_kept (c : Channel) (h' : Handle) (s : State) (h : Kept q o s) :
    KeptO q o (execQueueRecalibration c h' s) := by
  unfold execQueueRecalibration
  refine keptO_next ?_
  refine State.request_kept _ _ _ _ h ?_; intro x hx; (repeat' split) <;> simp (maxDischargeDepth := 30) (contextual := true) only [State.modEngine_kept, *]

@[simp] theorem execStuckMapRead_kept (c : Channel) (s : State) (h : Kept q o s) :
    KeptO q o (execStuckMapRead c s) := by
  unfold execStuckMapRead
  refine keptO_next ?_
  simp (maxDischargeDepth := 30) (contextual := true) only [implies_true, State.acceptSetting_kept, State.fetch_kept, *]

@[simp] theorem execStrongmanRun_kept (c : Channel) (h' : Handle) (s : State) (h : Kept q o s) :
    KeptO q o (execStrongmanRun c h' s) := by
  unfold execStrongmanRun
  refine keptO_next ?_
  (repeat' split) <;> simp (maxDischargeDepth := 30) (contextual := true) only [kept_mk, kept_ite, kept_ite_fst, kept_foldl, kept_foldl_fst,
    kept_forAll, kept_after, implies_true, State.request_kept, State.modEngine_kept, *]

/-! ### PowerOps -/

@[simp] theorem State.setChannel_kept (s : State) (ch : Nat) (c : Chan) (h : Kept q o s) :
    Kept q o (State.setChannel s ch c) := by
  unfold State.setChannel
  simp (maxDischargeDepth := 30) (contextual := true) only [kept_mk, *]

@[simp] theorem State.modChannel_kept (s : State) (ch : Nat) (f : Chan → Chan) (h : Kept q o s) :
    Kept q o (State.modChannel s ch f) := by
  unfold State.modChannel
  simp (maxDischargeDepth := 30) (contextual := true) only [State.setChannel_kept, *]

@[simp] theorem State.estimate_kept (s : State) (acts : List Activity) (ch : Nat) (h : Kept q o s) :
    Kept q o (State.estimate s acts ch) := by
  unfold State.estimate
  simp (maxDischargeDepth := 30) (contextual := true) only [State.modChannel_kept, *]

@[simp] theorem State.observeInterval_kept (s : State) (h : Kept q o s) :
    Kept q o (State.observeInterval s) := by
  unfold State.observeInterval
  simp (maxDischargeDepth := 30) (contextual := true) only [kept_mk, kept_ite, kept_forAll, implies_true, *]

@[simp] theorem State.lowerCurrent_kept (s : State) (n : Nat) (h : Kept q o s) :
    Kept q o (State.lowerCurrent s n) := by
  unfold State.lowerCurrent
  simp (maxDischargeDepth := 30) (contextual := true) only [kept_mk, kept_ite, implies_true, State.event_kept, *]

@[simp] theorem State.guardEstimate_kept (s : State) (h : Kept q o s) :
    Kept q o (State.guardEstimate s) := by
  unfold State.guardEstimate
  simp (maxDischargeDepth := 30) (contextual := true) only [kept_mk, kept_ite, implies_true, State.lowerCurrent_kept, *]

@[simp] theorem State.moveFloor_kept (s : State) (d : DieId) (h : Kept q o s) :
    Kept q o (State.moveFloor s d) := by
  unfold State.moveFloor
  simp (maxDischargeDepth := 30) (contextual := true) only [State.modDie_kept, *]

@[simp] theorem execEstimatorTick_kept (acts : List Activity) (s : State) (h : Kept q o s) :
    KeptO q o (execEstimatorTick acts s) := by
  unfold execEstimatorTick
  refine keptO_next ?_
  simp (maxDischargeDepth := 30) (contextual := true) only [kept_ite, kept_foldl, kept_forAll, implies_true,
    State.estimate_kept, State.observeInterval_kept, State.guardEstimate_kept, State.moveFloor_kept, *]

@[simp] theorem execCurrentLimitRise_kept (s : State) (h : Kept q o s) :
    KeptO q o (execCurrentLimitRise s) := by
  unfold execCurrentLimitRise
  refine keptO_next ?_
  simp (maxDischargeDepth := 30) (contextual := true) only [kept_mk, kept_ite, implies_true, *]

@[simp] theorem State.failChannel_kept (s : State) (ch : Nat) (h : Kept q o s) :
    Kept q o (State.failChannel s ch) := by
  unfold State.failChannel
  simp (maxDischargeDepth := 30) (contextual := true) only [kept_ite, implies_true, State.event_kept, State.modChannel_kept, *]

@[simp] theorem State.report_kept (s : State) (r : RegReport) (h : Kept q o s) :
    Kept q o (State.report s r) := by
  unfold State.report
  simp (maxDischargeDepth := 30) (contextual := true) only [kept_ite, implies_true, State.modChannel_kept,
    State.failChannel_kept, *]

@[simp] theorem State.guardMeasured_kept (s : State) (amps : Rat) (h : Kept q o s) :
    Kept q o (State.guardMeasured s amps) := by
  unfold State.guardMeasured
  simp (maxDischargeDepth := 30) (contextual := true) only [kept_ite, implies_true, State.lowerCurrent_kept, *]

@[simp] theorem execMeasurementSample_kept (reports : List RegReport) (s : State) (h : Kept q o s) :
    KeptO q o (execMeasurementSample reports s) := by
  unfold execMeasurementSample
  refine keptO_next ?_
  dsimp only; (repeat' split) <;> simp (maxDischargeDepth := 30) (contextual := true) only [kept_mk, kept_foldl, implies_true,
    State.report_kept, State.guardMeasured_kept, *]

@[simp] theorem execMeasurementFail_kept (channel : Fin 18) (s : State) (h : Kept q o s) :
    KeptO q o (execMeasurementFail channel s) := by
  unfold execMeasurementFail
  refine keptO_next ?_
  simp (maxDischargeDepth := 30) (contextual := true) only [kept_ite, implies_true, State.failChannel_kept, *]

@[simp] theorem execMeasurementRestore_kept (channel : Fin 18) (s : State) (h : Kept q o s) :
    KeptO q o (execMeasurementRestore channel s) := by
  unfold execMeasurementRestore
  refine keptO_next ?_
  simp (maxDischargeDepth := 30) (contextual := true) only [kept_ite, implies_true, State.event_kept, State.modChannel_kept, *]

@[simp] theorem execCoefficientSave_kept (s : State) (h : Kept q o s) :
    KeptO q o (execCoefficientSave s) := by
  unfold execCoefficientSave
  refine keptO_next ?_
  simp (maxDischargeDepth := 30) (contextual := true) only [kept_mk, kept_ite, implies_true, *]

@[simp] theorem State.closeChannel_kept (s : State) (ch : Nat) (h : Kept q o s) :
    Kept q o (State.closeChannel s ch) := by
  unfold State.closeChannel
  dsimp only; (repeat' split) <;> simp (maxDischargeDepth := 30) (contextual := true) only [State.event_kept,
    State.setChannel_kept, *]

@[simp] theorem State.minute_kept (s : State) (h : Kept q o s) :
    Kept q o (State.minute s) := by
  unfold State.minute
  simp (maxDischargeDepth := 30) (contextual := true) only [kept_mk, kept_ite, kept_forAll, implies_true, State.modDie_kept, *]

@[simp] theorem State.addBin_kept (s : State) (total : Rat) (part : Rat) (h : Kept q o s) :
    Kept q o (State.addBin s total part) := by
  unfold State.addBin
  simp (maxDischargeDepth := 30) (contextual := true) only [kept_mk, *]

@[simp] theorem execEnergyBin_kept (s : State) (h : Kept q o s) :
    KeptO q o (execEnergyBin s) := by
  unfold execEnergyBin
  refine keptO_next ?_
  simp (maxDischargeDepth := 30) (contextual := true) only [kept_ite, kept_foldl, implies_true, State.event_kept,
    State.closeChannel_kept, State.minute_kept, State.addBin_kept, *]

@[simp] theorem execPhaseLimitCompute_kept (d : DieId) (phase : Byte) (s : State) (h : Kept q o s) :
    KeptO q o (execPhaseLimitCompute d phase s) := by
  unfold execPhaseLimitCompute
  refine keptO_next ?_
  simp (maxDischargeDepth := 30) (contextual := true) only [kept_ite, implies_true, State.modDie_kept, State.event_kept,
    State.applyFt_kept, *]

@[simp] theorem State.heatDie_kept (s : State) (d : DieId) (h : Kept q o s) :
    Kept q o (State.heatDie s d) := by
  unfold State.heatDie
  dsimp only; (repeat' split) <;> simp (maxDischargeDepth := 30) (contextual := true) only [State.setDie_kept,
    State.event_kept, *]

@[simp] theorem State.heatFromHub_kept (s : State) (back : Bool) (tj : Int) (h : Kept q o s) :
    Kept q o (s.heatFromHub back tj) := by
  unfold State.heatFromHub
  simp (maxDischargeDepth := 30) (contextual := true) only [kept_mk, kept_ite, kept_forAll, implies_true, State.modDie_kept,
    State.heatDie_kept, *]

@[simp] theorem execSensorSample_kept (channel : Fin 17) (readings : List Int) (s : State) (h : Kept q o s) :
    KeptO q o (execSensorSample channel readings s) := by
  unfold execSensorSample
  refine keptO_next ?_
  simp (maxDischargeDepth := 30) (contextual := true) only [kept_mk, kept_ite, kept_forAll, implies_true, State.modDie_kept,
    State.event_kept, State.modChannel_kept, State.heatDie_kept, State.heatFromHub_kept, *]

/-! ### Images -/

@[simp] theorem State.refuseImage_kept (s : State) (im : Image) (cause : Nat) (index : Nat) (string : Nat) (h : Kept q o s) :
    Kept q o (State.refuseImage s im cause index string) := by
  unfold State.refuseImage
  simp (maxDischargeDepth := 30) (contextual := true) only [kept_mk, kept_ite, implies_true, State.raise_kept,
    State.event_kept, State.history_kept, *]

@[simp] theorem State.restoreCopy_kept (s : State) (im : Image) (h : Kept q o s) :
    Kept q o (State.restoreCopy s im) := by
  unfold State.restoreCopy
  refine State.event_kept _ _ _ (State.moveDeviceBase_kept _ ?_)
  refine kept_mk ?_ _ _ _ _ _ _ _ _ _ _ _ _ _ _ _ _ _ _ _ _ _ _ _ _ _ rfl
  refine kept_foldl _ (fun s r hs => ?_) _ _ h
  split
  · exact State.keepRecord_kept _ _ _ hs
  · exact hs

@[simp] theorem State.writeImage_kept (s : State) (im : Image) (hold : Bool) (j : Nat) (ws : List (Nat × BlockRecord)) (h : Kept q o s) :
    Kept q o (State.writeImage s im hold j ws) := by
  unfold State.writeImage
  simp (maxDischargeDepth := 30) (contextual := true) only [kept_mk, State.setFlip_kept, State.queueWrites_kept,
    State.finishSet_kept, *]

@[simp] theorem State.loadImage_kept (s0 : State) (im : Image) (t : Trailer) (hold : Bool) (h : Kept q o s0)  :
    Kept q o (State.loadImage s0 im t hold) := by
  unfold State.loadImage
  dsimp only; (repeat' split) <;> simp (maxDischargeDepth := 30) (contextual := true) only [State.breakLoop_kept,
    State.refuseImage_kept, State.restoreCopy_kept, State.writeImage_kept, *]

@[simp] theorem execLoadImage_kept (c : Channel) (image : Image) (trailer : Trailer) (s : State) (h : Kept q o s) :
    KeptO q o (execLoadImage c image trailer s) := by
  unfold execLoadImage
  refine keptO_next ?_
  refine State.request_kept _ _ _ _ h ?_; intro x hx; simp (maxDischargeDepth := 30) (contextual := true) only [State.loadImage_kept, *]

@[simp] theorem execLoadImageHold_kept (c : Channel) (image : Image) (trailer : Trailer) (s : State) (h : Kept q o s) :
    KeptO q o (execLoadImageHold c image trailer s) := by
  unfold execLoadImageHold
  refine keptO_next ?_
  refine State.request_kept _ _ _ _ h ?_; intro x hx; simp (maxDischargeDepth := 30) (contextual := true) only [State.loadImage_kept, *]

@[simp] theorem execArmHeldSet_kept (c : Channel) (container : Option (BitVec 384)) (s : State) (h : Kept q o s) :
    KeptO q o (execArmHeldSet c container s) := by
  unfold execArmHeldSet
  refine keptO_next ?_
  refine State.request_kept _ _ _ _ h ?_; intro x hx; (repeat' split) <;> simp (maxDischargeDepth := 30) (contextual := true) only [kept_mk, kept_ite, implies_true, State.setFlip_kept, State.armSet_kept, *]

@[simp] theorem execCancelFlipSet_kept (c : Channel) (set : Fin 4) (s : State) (h : Kept q o s) :
    KeptO q o (execCancelFlipSet c set s) := by
  unfold execCancelFlipSet
  refine keptO_next ?_
  refine State.request_kept _ _ _ _ h ?_; intro x hx; simp (maxDischargeDepth := 30) (contextual := true) only [State.cancelSet_kept, *]

@[simp] theorem State.reserveTargets_kept (s : State) (ps : List Plan) (h : Kept q o s) :
    Kept q o (State.reserveTargets s ps) := by
  unfold State.reserveTargets
  refine kept_forAll _ (fun s x hs => ?_) _ _ (kept_mk h _ _ _ _ _ _ _ _ _ _ _ _ _ _ _ _ _ _ _ _ _ _ _ _ _ rfl)
  split
  · exact State.modBank_kept _ _ _ (State.modBank_kept _ _ _ hs)
  · exact hs

@[simp] theorem execLoadPlanSet_kept (c : Channel) (plans : List Plan) (trailer : Trailer) (s : State) (h : Kept q o s) :
    KeptO q o (execLoadPlanSet c plans trailer s) := by
  unfold execLoadPlanSet
  refine keptO_next ?_
  refine State.request_kept _ _ _ _ h ?_; intro x hx; simp (maxDischargeDepth := 30) (contextual := true) only [kept_mk,
    kept_ite, implies_true, State.event_kept, State.reserveTargets_kept, *]

@[simp] theorem execSelectPlan_kept (c : Channel) (dieField : Byte) (s : State) (h : Kept q o s) :
    KeptO q o (execSelectPlan c dieField s) := by
  unfold execSelectPlan
  refine keptO_next (State.request_kept _ _ _ _ h ?_)
  intro x hx
  split
  · exact State.startRemap_kept _ _ _ hx
  · exact hx

/-! ### Programme -/

@[simp] theorem State.placeData_kept (s : State) (c : Container) (h : Kept q o s) :
    Kept q o (State.placeData s c) := by
  unfold State.placeData
  simp (maxDischargeDepth := 30) (contextual := true) only [kept_forAll, implies_true, State.modTile_kept, *]

@[simp] theorem State.stage_kept (s : State) (c : Container) (h : Kept q o s) :
    Kept q o (State.stage s c) := by
  unfold State.stage
  simp (maxDischargeDepth := 30) (contextual := true) only [kept_mk, kept_ite, implies_true, State.event_kept,
    State.placeData_kept, *]

@[simp] theorem execLoadContainer_kept (c : Channel) (k : Container) (trailer : Trailer) (s : State) (h : Kept q o s) :
    KeptO q o (execLoadContainer c k trailer s) := by
  unfold execLoadContainer
  refine keptO_next ?_
  refine State.request_kept _ _ _ _ h ?_; intro x hx; (repeat' split) <;> simp (maxDischargeDepth := 30) (contextual := true) only [kept_mk, State.raise_kept, State.event_kept, State.history_kept, State.stage_kept, *]

@[simp] theorem State.requestSwitch_kept (s : State) (c : Channel) (toStaged : Bool) (h : Kept q o s) :
    Kept q o (State.requestSwitch s c toStaged) := by
  unfold State.requestSwitch
  dsimp only; (repeat' split) <;> simp (maxDischargeDepth := 30) (contextual := true) only [kept_mk, State.raise_kept,
    State.answer_kept, *]

@[simp] theorem State.switchCommand_kept (s : State) (c : Channel) (toStaged : Bool) (h : Kept q o s) :
    Kept q o (State.switchCommand s c toStaged) := by
  unfold State.switchCommand
  simp (maxDischargeDepth := 30) (contextual := true) only [kept_ite, implies_true, State.request_kept,
    State.requestSwitch_kept, *]

@[simp] theorem execSwitchStaged_kept (c : Channel) (s : State) (h : Kept q o s) :
    KeptO q o (execSwitchStaged c s) := by
  unfold execSwitchStaged
  refine keptO_next ?_
  simp (maxDischargeDepth := 30) (contextual := true) only [State.switchCommand_kept, *]

@[simp] theorem execSwitchRetained_kept (c : Channel) (s : State) (h : Kept q o s) :
    KeptO q o (execSwitchRetained c s) := by
  unfold execSwitchRetained
  refine keptO_next ?_
  simp (maxDischargeDepth := 30) (contextual := true) only [State.switchCommand_kept, *]

@[simp] theorem execGroupDescriptorWrite_kept (c : Channel) (desc : Option GroupDesc) (s : State) (h : Kept q o s) :
    KeptO q o (execGroupDescriptorWrite c desc s) := by
  unfold execGroupDescriptorWrite
  refine keptO_next ?_
  (repeat' split) <;> simp (maxDischargeDepth := 30) (contextual := true) only [kept_mk, implies_true, State.request_kept, *]

end Sys2Proof.Machine
end

