-- ==== Sys2Proof/Laws/KeptService.lean ====
section
/-!
SUPPORT. What is kept by service, security, test and the requests of the units: the queue of waiting commands, whether the device is in Off, and State.Sound.
-/
set_option linter.unusedSimpArgs false
set_option linter.unusedVariables false
namespace Sys2Proof.Machine

variable {q : List Instr × Bool} {o : Bool} {s : State}

/-! ### ServiceOps -/

@[simp] theorem State.failHub_kept (s : State) (h : Kept q o s) :
    Kept q o (State.failHub s) := by
  unfold State.failHub
  have h1 := State.driveSafe_kept s h
  exact kept_mem h1 _ rfl rfl rfl rfl (.inr rfl) h1.hub h1.lpddr

@[simp] theorem execRingmasterRestart_kept (s : State) (h : Kept q o s) :
    KeptO q o (execRingmasterRestart s) := by
  unfold execRingmasterRestart
  refine keptO_next ?_
  simp (maxDischargeDepth := 30) (contextual := true) only [kept_mk, kept_ite, implies_true, State.endAuthentications_kept,
    State.failHub_kept, *]

@[simp] theorem execRingmasterRestartComplete_kept (s : State) (h : Kept q o s) :
    KeptO q o (execRingmasterRestartComplete s) := by
  unfold execRingmasterRestartComplete
  refine keptO_next ?_
  simp (maxDischargeDepth := 30) (contextual := true) only [kept_mk, kept_ite, kept_forAll, implies_true, State.event_kept,
    State.startLanes_kept, State.markOut_kept, *]

@[simp] theorem execHubFailure_kept (cause : Nat) (s : State) (h : Kept q o s) :
    KeptO q o (execHubFailure cause s) := by
  unfold execHubFailure
  refine keptO_next ?_
  simp (maxDischargeDepth := 30) (contextual := true) only [kept_ite, implies_true, State.failHub_kept, *]

@[simp] theorem execFirmwareImageWrite_kept (c : Channel) (image : Firmware) (s : State) (h : Kept q o s) :
    KeptO q o (execFirmwareImageWrite c image s) := by
  unfold execFirmwareImageWrite
  refine keptO_next ?_
  refine State.request_kept _ _ _ _ h ?_; intro x hx; simp (maxDischargeDepth := 30) (contextual := true) only [State.writeFirmware_kept, *]

@[simp] theorem execFirmwareSwitch_kept (c : Channel) (s : State) (h : Kept q o s) :
    KeptO q o (execFirmwareSwitch c s) := by
  unfold execFirmwareSwitch
  refine keptO_next ?_
  refine State.request_kept _ _ _ _ h ?_; intro x hx; simp (maxDischargeDepth := 30) (contextual := true) only [kept_mk, *]

@[simp] theorem execFirmwareRevert_kept (c : Channel) (s : State) (h : Kept q o s) :
    KeptO q o (execFirmwareRevert c s) := by
  unfold execFirmwareRevert
  refine keptO_next ?_
  refine State.request_kept _ _ _ _ h ?_; intro x hx; simp (maxDischargeDepth := 30) (contextual := true) only [kept_mk, *]

@[simp] theorem execFirmwareConfirm_kept (c : Channel) (value : Byte) (s : State) (h : Kept q o s) :
    KeptO q o (execFirmwareConfirm c value s) := by
  unfold execFirmwareConfirm
  refine keptO_next ?_
  refine State.request_kept _ _ _ _ h ?_; intro x hx; simp (maxDischargeDepth := 30) (contextual := true) only [kept_mk,
    kept_ite, implies_true, State.writeBoot_kept, *]

@[simp] theorem execFirmwareTrialTimeout_kept (s : State) (h : Kept q o s) :
    KeptO q o (execFirmwareTrialTimeout s) := by
  unfold execFirmwareTrialTimeout
  refine keptO_next ?_
  simp (maxDischargeDepth := 30) (contextual := true) only [kept_mk, kept_ite, implies_true, *]

@[simp] theorem execBootSetPeriodicWrite_kept (s : State) (h : Kept q o s) :
    KeptO q o (execBootSetPeriodicWrite s) := by
  unfold execBootSetPeriodicWrite
  refine keptO_next ?_
  simp (maxDischargeDepth := 30) (contextual := true) only [kept_ite, implies_true, State.writeBoot_kept, *]

@[simp] theorem execScrub_kept (word : Nat) (uncorrectable : Bool) (s : State) (h : Kept q o s) :
    KeptO q o (execScrub word uncorrectable s) := by
  unfold execScrub
  refine keptO_next (kept_ite (fun _ => h) (fun _ => State.raise_kept _ _ _ _ _ ?_))
  (refine kept_mem h _ rfl rfl rfl rfl (.inl rfl) ?_ ?_ <;> simp (maxDischargeDepth := 30) (contextual := true) only [ByteMem.wf_ite, ByteMem.wf_foldl, ByteMem.wf_write, ByteMem.wf_writeRow, ByteMem.wf_writeStream, ByteMem.wf_setPoison, ByteMem.wf_taint, ByteMem.wf_empty, h.hub, h.lpddr, implies_true])

@[simp] theorem execMarkOutDie_kept (c : Channel) (dieField : Byte) (s : State) (h : Kept q o s) :
    KeptO q o (execMarkOutDie c dieField s) := by
  unfold execMarkOutDie
  refine keptO_next ?_
  simp (maxDischargeDepth := 30) (contextual := true) only [implies_true, State.request_kept, State.markOut_kept, *]

@[simp] theorem execClearOutMark_kept (c : Channel) (dieField : Byte) (s : State) (h : Kept q o s) :
    KeptO q o (execClearOutMark c dieField s) := by
  unfold execClearOutMark
  refine keptO_next ?_
  simp (maxDischargeDepth := 30) (contextual := true) only [implies_true, State.modDie_kept, State.acceptSetting_kept,
    State.request_kept, *]

/-! ### SecurityOps -/

@[simp] theorem State.endSessions_kept (s : State) (h : Kept q o s) :
    Kept q o (State.endSessions s) := by
  unfold State.endSessions
  simp (maxDischargeDepth := 30) (contextual := true) only [kept_mk, *]

@[simp] theorem State.draw_kept (s : State) (h : Kept q o s) :
    Kept q o (State.draw s) := by
  unfold State.draw
  simp (maxDischargeDepth := 30) (contextual := true) only [kept_mk, *]

@[simp] theorem execAuthChallenge_kept (c : Channel) (s : State) (h : Kept q o s) :
    KeptO q o (execAuthChallenge c s) := by
  unfold execAuthChallenge
  refine keptO_next ?_
  simp (maxDischargeDepth := 30) (contextual := true) only [implies_true, State.fetch_kept, State.setAuth_kept,
    State.draw_kept, *]

@[simp] theorem execAuthenticate_kept (c : Channel) (role : Role) (ok : Bool) (s : State) (h : Kept q o s) :
    KeptO q o (execAuthenticate c role ok s) := by
  unfold execAuthenticate
  refine keptO_next ?_
  simp (maxDischargeDepth := 30) (contextual := true) only [kept_ite, implies_true, State.event_kept, State.answer_kept,
    State.request_kept, State.setAuth_kept, *]

@[simp] theorem execLogout_kept (c : Channel) (value : Byte) (s : State) (h : Kept q o s) :
    KeptO q o (execLogout c value s) := by
  unfold execLogout
  refine keptO_next ?_
  refine State.request_kept _ _ _ _ h ?_; intro x hx; simp (maxDischargeDepth := 30) (contextual := true) only [State.setAuth_kept, *]

@[simp] theorem execAuthTimeout_kept (c : Channel) (s : State) (h : Kept q o s) :
    KeptO q o (execAuthTimeout c s) := by
  unfold execAuthTimeout
  refine keptO_next ?_
  simp (maxDischargeDepth := 30) (contextual := true) only [State.setAuth_kept, *]

@[simp] theorem execAuthLockoutEnd_kept (c : Channel) (s : State) (h : Kept q o s) :
    KeptO q o (execAuthLockoutEnd c s) := by
  unfold execAuthLockoutEnd
  refine keptO_next ?_
  simp (maxDischargeDepth := 30) (contextual := true) only [kept_ite, implies_true, State.setAuth_kept, *]

@[simp] theorem execSessionOpen_kept (c : Channel) (s : State) (h : Kept q o s) :
    KeptO q o (execSessionOpen c s) := by
  unfold execSessionOpen
  refine keptO_next ?_
  simp (maxDischargeDepth := 30) (contextual := true) only [implies_true, State.fetch_kept, State.setAuth_kept,
    State.draw_kept, *]

@[simp] theorem execSessionCiphertext_kept (c : Channel) (ciphertext : List Byte) (s : State) (h : Kept q o s) :
    KeptO q o (execSessionCiphertext c ciphertext s) := by
  unfold execSessionCiphertext
  refine keptO_next ?_
  refine State.request_kept _ _ _ _ h ?_; intro x hx; simp (maxDischargeDepth := 30) (contextual := true) only [State.setAuth_kept, *]

@[simp] theorem execImageKeyImport_kept (c : Channel) (keyId : BitVec 128) (tagOk : Bool) (s : State) (h : Kept q o s) :
    KeptO q o (execImageKeyImport c keyId tagOk s) := by
  unfold execImageKeyImport
  refine keptO_next ?_
  refine State.request_kept _ _ _ _ h ?_; intro x hx; simp (maxDischargeDepth := 30) (contextual := true) only [kept_mk,
    State.event_kept, *]

@[simp] theorem execImageKeyDelete_kept (c : Channel) (keyId : BitVec 128) (s : State) (h : Kept q o s) :
    KeptO q o (execImageKeyDelete c keyId s) := by
  unfold execImageKeyDelete
  refine keptO_next ?_
  refine State.request_kept _ _ _ _ h ?_; intro x hx; simp (maxDischargeDepth := 30) (contextual := true) only [kept_mk, *]

@[simp] theorem State.logAlarm_kept (s : State) (level : Nat) (cause : Nat) (h : Kept q o s) :
    Kept q o (State.logAlarm s level cause) := by
  unfold State.logAlarm
  simp (maxDischargeDepth := 30) (contextual := true) only [kept_mk, *]

@[simp] theorem State.wakeToIdle_kept (s : State) (h : Kept q o s) :
    Kept q o (State.wakeToIdle s) := by
  unfold State.wakeToIdle
  exact kept_ite (fun _ => kept_mk h _ _ _ _ _ _ _ _ _ _ _ _ _ _ _ _ _ _ _ _ _ _ _ _ _ rfl) (fun _ => h)

@[simp] theorem State.moduleFrom_kept (s old : State) (h : Kept q o s) : Kept q o (State.moduleFrom s old) := by
  unfold State.moduleFrom
  exact kept_ite (fun _ => h) (fun _ => State.vector_kept _ _ h)

@[simp] theorem State.levelTwo_kept (s : State) (cause : Nat) (h : Kept q o s) :
    Kept q o (State.levelTwo s cause) := by
  unfold State.levelTwo
  simp (maxDischargeDepth := 30) (contextual := true) only [kept_mk, State.event_kept, State.endAuthentications_kept,
    State.endSessions_kept, State.logAlarm_kept, State.wakeToIdle_kept, State.moduleFrom_kept, *]

@[simp] theorem State.clearKeys_kept (s : State) (h : Kept q o s) :
    Kept q o (State.clearKeys s) := by
  unfold State.clearKeys
  simp (maxDischargeDepth := 30) (contextual := true) only [kept_mk, State.endAuthentications_kept, State.endSessions_kept, *]

@[simp] theorem State.eraseStore_kept (s : State) (h : Kept q o s) :
    Kept q o (State.eraseStore s) := by
  unfold State.eraseStore
  simp (maxDischargeDepth := 30) (contextual := true) only [kept_mk, *]

@[simp] theorem State.cancelAll_kept (s : State) (h : Kept q o s) :
    Kept q o (State.cancelAll s) := by
  unfold State.cancelAll
  simp (maxDischargeDepth := 30) (contextual := true) only [kept_mk, kept_forAll, implies_true, State.cancelSet_kept, *]

@[simp] theorem State.clearMemories_kept (s : State) (h : Kept q o s) :
    Kept q o (State.clearMemories s) := by
  unfold State.clearMemories
  (refine kept_mem h _ rfl rfl rfl rfl (.inl rfl) ?_ ?_ <;> simp (maxDischargeDepth := 30) (contextual := true) only [ByteMem.wf_ite, ByteMem.wf_foldl, ByteMem.wf_write, ByteMem.wf_writeRow, ByteMem.wf_writeStream, ByteMem.wf_setPoison, ByteMem.wf_taint, ByteMem.wf_empty, h.hub, h.lpddr, implies_true])

@[simp] theorem State.dropOutputs_kept (s : State) (h : Kept q o s) :
    Kept q o (State.dropOutputs s) := by
  unfold State.dropOutputs
  simp (maxDischargeDepth := 30) (contextual := true) only [kept_mk, State.openImages_kept, *]

@[simp] theorem State.headForIdle_kept (s : State) (h : Kept q o s) :
    Kept q o (State.headForIdle s) := by
  unfold State.headForIdle
  split <;> exact kept_mk h _ _ _ _ _ _ _ _ _ _ _ _ _ _ _ _ _ _ _ _ _ _ _ _ _ rfl

@[simp] theorem State.levelThreeSteps_kept (s : State) (h : Kept q o s) :
    Kept q o (State.levelThreeSteps s) := by
  unfold State.levelThreeSteps
  simp (maxDischargeDepth := 30) only [h, State.headForIdle_kept, State.eraseStore_kept, State.clearMemories_kept,
    State.cancelAll_kept,
    State.dropOutputs_kept, State.clearKeys_kept, State.breakLoop_kept]

@[simp] theorem State.levelThree_kept (s : State) (cause : Nat) (h : Kept q o s) :
    Kept q o (State.levelThree s cause) := by
  unfold State.levelThree
  refine State.moduleFrom_kept _ _ (State.raise_kept _ _ _ _ _ ?_)
  have h1 := State.logAlarm_kept s 3 cause h
  have h2 : Kept q o { s.logAlarm 3 cause with sec := { (s.logAlarm 3 cause).sec with alarmN := true, safeN := true } } :=
    kept_mem h1 _ rfl rfl rfl rfl (.inr rfl) h1.hub h1.lpddr
  exact kept_ite (fun _ => h2) (fun _ => State.levelThreeSteps_kept _ h2)

@[simp] theorem State.excursion_kept (s : State) (sensor : TamperSensor) (time : Nat) (h : Kept q o s) :
    Kept q o (State.excursion s sensor time) := by
  unfold State.excursion
  simp (maxDischargeDepth := 30) (contextual := true) only [kept_mk, kept_ite, implies_true, State.raise_kept,
    State.logAlarm_kept, State.levelTwo_kept, State.levelThree_kept, *]

@[simp] theorem execTamperExcursion_kept (sensor : TamperSensor) (time : Nat) (s : State) (h : Kept q o s) :
    KeptO q o (execTamperExcursion sensor time s) := by
  unfold execTamperExcursion
  refine keptO_next (kept_ite (fun _ => ?_) (fun _ => ?_))
  · split
    · exact h
    · exact kept_ite (fun _ => kept_mk h _ _ _ _ _ _ _ _ _ _ _ _ _ _ _ _ _ _ _ _ _ _ _ _ _ rfl) (fun _ => h)
  · split
    · exact State.levelThree_kept _ _ h
    · exact State.excursion_kept _ _ _ h

@[simp] theorem execExcursionLasting100Ms_kept (sensor : TamperSensor) (s : State) (h : Kept q o s) :
    KeptO q o (execExcursionLasting100Ms sensor s) := by
  unfold execExcursionLasting100Ms
  refine keptO_next ?_
  simp (maxDischargeDepth := 30) (contextual := true) only [kept_ite, implies_true, State.levelTwo_kept, *]

@[simp] theorem execZeroise_kept (c : Channel) (s : State) (h : Kept q o s) :
    KeptO q o (execZeroise c s) := by
  unfold execZeroise
  refine keptO_next ?_
  refine State.request_kept _ _ _ _ h ?_; intro x hx; simp (maxDischargeDepth := 30) (contextual := true) only [State.levelThree_kept, *]

@[simp] theorem execClearLock_kept (c : Channel) (s : State) (h : Kept q o s) :
    KeptO q o (execClearLock c s) := by
  unfold execClearLock
  refine keptO_next ?_
  simp (maxDischargeDepth := 30) (contextual := true) only [kept_mk, implies_true, State.event_kept, State.request_kept,
    State.moduleFrom_kept, *]

@[simp] theorem State.testFails_kept (s : State) (h : Kept q o s) :
    Kept q o (State.testFails s) := by
  unfold State.testFails
  simp (maxDischargeDepth := 30) (contextual := true) only [kept_mk, State.event_kept, State.moduleFrom_kept, *]

@[simp] theorem State.testPasses_kept (s : State) (h : Kept q o s) :
    Kept q o (State.testPasses s) := by
  unfold State.testPasses
  simp (maxDischargeDepth := 30) (contextual := true) only [kept_mk, kept_ite, implies_true, State.event_kept,
    State.startLanes_kept, State.moduleFrom_kept, *]

@[simp] theorem State.runTests_kept (s : State) (ok : Bool) (h : Kept q o s) :
    Kept q o (State.runTests s ok) := by
  unfold State.runTests
  simp (maxDischargeDepth := 30) (contextual := true) only [kept_ite, implies_true, State.testFails_kept,
    State.testPasses_kept, *]

@[simp] theorem execPeriodicSelfTest_kept (ok : Bool) (s : State) (h : Kept q o s) :
    KeptO q o (execPeriodicSelfTest ok s) := by
  unfold execPeriodicSelfTest
  refine keptO_next ?_
  simp (maxDischargeDepth := 30) (contextual := true) only [kept_ite, implies_true, State.runTests_kept, *]

@[simp] theorem execSelfTestRetry_kept (ok : Bool) (s : State) (h : Kept q o s) :
    KeptO q o (execSelfTestRetry ok s) := by
  unfold execSelfTestRetry
  refine keptO_next ?_
  simp (maxDischargeDepth := 30) (contextual := true) only [kept_ite, implies_true, State.runTests_kept, *]

@[simp] theorem execSelfTest_kept (c : Channel) (ok : Bool) (s : State) (h : Kept q o s) :
    KeptO q o (execSelfTest c ok s) := by
  unfold execSelfTest
  refine keptO_next ?_
  refine State.request_kept _ _ _ _ h ?_; intro x hx; simp (maxDischargeDepth := 30) (contextual := true) only [State.runTests_kept, *]

@[simp] theorem execRaiseVersionFloor_kept (c : Channel) (s : State) (h : Kept q o s) :
    KeptO q o (execRaiseVersionFloor c s) := by
  unfold execRaiseVersionFloor
  refine keptO_next ?_
  refine State.request_kept _ _ _ _ h ?_; intro x hx; simp (maxDischargeDepth := 30) (contextual := true) only [kept_mk, *]

@[simp] theorem execAnchorWrite_kept (c : Channel) (slot : AnchorSlot) (key : Option Nat) (s : State) (h : Kept q o s) :
    KeptO q o (execAnchorWrite c slot key s) := by
  unfold execAnchorWrite
  refine keptO_next ?_
  refine State.request_kept _ _ _ _ h ?_; intro x hx; (repeat' split) <;> simp (maxDischargeDepth := 30) (contextual := true) only [kept_mk, *]

@[simp] theorem execAttestation_kept (c : Channel) (nonce : BitVec 256) (s : State) (h : Kept q o s) :
    KeptO q o (execAttestation c nonce s) := by
  unfold execAttestation
  refine keptO_next ?_
  refine State.requestOpen_kept _ _ _ _ h ?_; intro x hx hp; simp (maxDischargeDepth := 30) (contextual := true) only [State.setAuth_kept, *]

@[simp] theorem State.forgetWeights_kept (s : State) (h : Kept q o s) :
    Kept q o (State.forgetWeights s) := by
  unfold State.forgetWeights
  simp (maxDischargeDepth := 30) (contextual := true) only [kept_mk, State.moveDeviceBase_kept, *]

@[simp] theorem State.newKeys_kept (s : State) (anchor : Nat) (h : Kept q false s) : Kept q false (State.newKeys s anchor) := by
  obtain ⟨h1, h2, h3, h4, h5⟩ := h
  refine ⟨h1, h2, h3, fun e => ?_, h5⟩
  have h6 : s.power = .off := e
  simp [h6] at h2

@[simp] theorem execEnrolment_kept (c : Channel) (token : Token) (s : State) (h : Kept q o s) :
    KeptO q o (execEnrolment c token s) := by
  unfold execEnrolment
  refine keptO_next (kept_ite (fun _ => ?_) (fun _ => State.requestOpen_kept _ _ _ _ h ?_))
  · exact State.answer_kept _ _ _ _ (kept_ite (fun _ => h) (fun _ => State.event_kept _ _ _ h))
  · intro x hx hp
    have ho : o = false := by have h2 := hx.2.1; simpa [hp] using h2.symm
    subst ho
    exact State.moduleFrom_kept _ _ (State.event_kept _ _ _ (State.newKeys_kept _ _
      (kept_ite (fun _ => State.forgetWeights_kept _ hx) (fun _ => hx))))

/-! ### Units -/

@[simp] theorem execWindowSelectorWrite_kept (c : Channel) (window : Fin 16) (h' : Handle) (s : State) (h : Kept q o s) :
    KeptO q o (execWindowSelectorWrite c window h' s) := by
  unfold execWindowSelectorWrite
  refine keptO_next ?_
  refine State.request_kept _ _ _ _ h ?_; intro x hx; simp (maxDischargeDepth := 30) (contextual := true) only [kept_mk, *]

@[simp] theorem execStatRegisterWrite_kept (c : Channel) (window : Fin 16) (sub : Byte) (ctl : W32) (clip : W32) (s : State) (h : Kept q o s) :
    KeptO q o (execStatRegisterWrite c window sub ctl clip s) := by
  unfold execStatRegisterWrite
  refine keptO_next ?_
  simp (maxDischargeDepth := 30) (contextual := true) only [kept_forAll, implies_true, State.modTile_kept, State.request_kept, *]

@[simp] theorem State.clearUnit_kept (s : State) (u : Handle) (off : Nat) (sub : Nat) (h : Kept q o s) :
    Kept q o (State.clearUnit s u off sub) := by
  unfold State.clearUnit
  (repeat' split) <;> simp (maxDischargeDepth := 30) (contextual := true) only [State.modTile_kept, State.modEngine_kept,
    State.modDie_kept, *]

@[simp] theorem State.clearEvents_kept (s : State) (k : Nat) (h : Kept q o s) :
    Kept q o (State.clearEvents s k) := by
  unfold State.clearEvents
  simp (maxDischargeDepth := 30) (contextual := true) only [kept_mk, *]

@[simp] theorem execCounterClear_kept (c : Channel) (a : ObjAddr) (value : W32) (s : State) (h : Kept q o s) :
    KeptO q o (execCounterClear c a value s) := by
  unfold execCounterClear
  refine keptO_next ?_
  simp (maxDischargeDepth := 30) (contextual := true) only [kept_ite, kept_forAll, implies_true, State.request_kept,
    State.clearUnit_kept, State.clearEvents_kept, *]

/-! ### Requests -/

@[simp] theorem State.acceptRequest_kept (s : State) (p : PState) (h : Kept q o s) :
    Kept q o (State.acceptRequest s p) := by
  unfold State.acceptRequest
  exact State.acceptSetting_kept _ _ _ (State.breakLoop_kept _ _ h)

@[simp] theorem State.head_kept (s : State) (p : PState) (h : Kept q o s) :
    Kept q o (State.head s p) := by
  unfold State.head
  simp (maxDischargeDepth := 30) (contextual := true) only [kept_mk, kept_ite, implies_true, *]

@[simp] theorem execRequestRun_kept (c : Channel) (s : State) (h : Kept q o s) :
    KeptO q o (execRequestRun c s) := by
  unfold execRequestRun
  refine keptO_next ?_
  refine State.request_kept _ _ _ _ h ?_; intro x hx; simp (maxDischargeDepth := 30) (contextual := true) only [State.acceptRequest_kept, State.head_kept, *]

@[simp] theorem execRequestIdle_kept (c : Channel) (s : State) (h : Kept q o s) :
    KeptO q o (execRequestIdle c s) := by
  unfold execRequestIdle
  refine keptO_next ?_
  refine State.request_kept _ _ _ _ h ?_; intro x hx; simp (maxDischargeDepth := 30) (contextual := true) only [State.acceptRequest_kept, State.head_kept, *]

@[simp] theorem execRequestDoze_kept (c : Channel) (s : State) (h : Kept q o s) :
    KeptO q o (execRequestDoze c s) := by
  unfold execRequestDoze
  refine keptO_next (State.request_kept _ _ _ _ h ?_)
  intro x hx
  have h1 := State.acceptRequest_kept x .doze hx
  refine kept_ite (fun hc => ?_) (fun _ => State.head_kept _ _ h1)
  have ho : o = false := by have h2 := h1.2.1; simpa [hc] using h2.symm
  subst ho
  exact State.enterDoze_kept _ h1

@[simp] theorem execFramePeriodWrite_kept (c : Channel) (t : W32) (s : State) (h : Kept q o s) :
    KeptO q o (execFramePeriodWrite c t s) := by
  unfold execFramePeriodWrite
  refine keptO_next ?_
  simp (maxDischargeDepth := 30) (contextual := true) only [kept_mk, implies_true, State.acceptSetting_kept,
    State.request_kept, *]

@[simp] theorem execEventEntryRead_kept (c : Channel) (s : State) (h : Kept q o s) :
    KeptO q o (execEventEntryRead c s) := by
  unfold execEventEntryRead
  refine keptO_next ?_
  simp (maxDischargeDepth := 30) (contextual := true) only [implies_true, State.acceptSetting_kept, State.fetch_kept, *]

@[simp] theorem State.acknowledge_kept (s : State) (q' : Nat) (h : Kept q o s) :
    Kept q o (State.acknowledge s q') := by
  unfold State.acknowledge
  (repeat' split) <;> simp (maxDischargeDepth := 30) (contextual := true) only [kept_mk, *]

@[simp] theorem execEventAcknowledge_kept (c : Channel) (sequence : W32) (s : State) (h : Kept q o s) :
    KeptO q o (execEventAcknowledge c sequence s) := by
  unfold execEventAcknowledge
  refine keptO_next ?_
  refine State.requestOpen_kept _ _ _ _ h ?_; intro x hx hp; simp (maxDischargeDepth := 30) (contextual := true) only [State.acknowledge_kept, *]

@[simp] theorem State.readPersistent_kept (s : State) (c : Channel) (h : Kept q o s) :
    Kept q o (State.readPersistent s c) := by
  unfold State.readPersistent
  simp (maxDischargeDepth := 30) (contextual := true) only [implies_true, State.acceptSetting_kept, State.fetch_kept, *]

/-! ### TestOps -/

@[simp] theorem State.pcieDown_kept (s : State) (h : Kept q o s) :
    Kept q o (State.pcieDown s) := by
  unfold State.pcieDown
  simp (maxDischargeDepth := 30) (contextual := true) only [kept_mk, State.event_kept, *]

@[simp] theorem State.takeIface_kept (s : State) (i : Nat) (depth : Nat) (h : Kept q o s) :
    Kept q o (State.takeIface s i depth) := by
  unfold State.takeIface
  simp (maxDischargeDepth := 30) (contextual := true) only [kept_mk, kept_ite, implies_true, State.event_kept,
    State.dropLink_kept, State.spoilPort_kept, State.pcieDown_kept, *]

@[simp] theorem execLoopbackStart_kept (c : Channel) (s : State) (h : Kept q o s) :
    KeptO q o (execLoopbackStart c s) := by
  unfold execLoopbackStart
  refine keptO_next ?_
  simp (maxDischargeDepth := 30) (contextual := true) only [kept_mk, implies_true, State.request_kept, State.takeIface_kept, *]

@[simp] theorem execLoopbackStop_kept (c : Channel) (s : State) (h : Kept q o s) :
    KeptO q o (execLoopbackStop c s) := by
  unfold execLoopbackStop
  refine keptO_next ?_
  refine State.request_kept _ _ _ _ h ?_; intro x hx; simp (maxDischargeDepth := 30) (contextual := true) only [State.endLoop_kept, *]

@[simp] theorem execLoopbackLockTimeout_kept (s : State) (h : Kept q o s) :
    KeptO q o (execLoopbackLockTimeout s) := by
  unfold execLoopbackLockTimeout
  refine keptO_next ?_
  simp (maxDischargeDepth := 30) (contextual := true) only [kept_ite, implies_true, State.endLoop_kept, *]

theorem State.tap_fine (s : State) (testEn allowed : Bool) (f : State → State) (h : s.Sound) (hp : (f s).power = s.power)
    (hq : (f s).pending = s.pending) (hm : Memory.wf (f s)) :
    Fine s (.next (State.tap s testEn allowed f)) := by
  unfold State.tap
  split
  · exact fine_next rfl h
  · split
    · rename_i hc
      simp only [State.testable, Bool.and_eq_true, decide_eq_true_eq] at hc
      exact fine_next hq ⟨fun _ => hp.trans hc.1.1.2, fun _ => rfl, hm⟩
    · exact fine_next rfl h

@[simp] theorem State.sampleBalls_kept (s : State) (h : Kept q o s) :
    Kept q o (State.sampleBalls s) := by
  unfold State.sampleBalls
  simp (maxDischargeDepth := 30) (contextual := true) only [kept_mk, State.takeFree_kept, *]

theorem execExtest_fine (testEn : Bool) (s : State) (h : s.Sound) : Fine s (execExtest testEn s) := by
  unfold execExtest
  exact State.tap_fine _ _ _ _ h rfl rfl h.2.2

@[simp] theorem execIdcode_kept (s : State) (h : Kept q o s) :
    KeptO q o (execIdcode s) := by
  unfold execIdcode
  refine keptO_next ?_
  simp (maxDischargeDepth := 30) (contextual := true) only [kept_mk, kept_ite, implies_true, *]

theorem execSamplePreload_fine (testEn : Bool) (s : State) (h : s.Sound) : Fine s (execSamplePreload testEn s) := by
  unfold execSamplePreload
  exact State.tap_fine _ _ _ _ h rfl rfl h.2.2

theorem execClamp_fine (testEn : Bool) (s : State) (h : s.Sound) : Fine s (execClamp testEn s) := by
  unfold execClamp
  exact State.tap_fine _ _ _ _ h rfl rfl h.2.2

theorem execHighz_fine (testEn : Bool) (s : State) (h : s.Sound) : Fine s (execHighz testEn s) := by
  unfold execHighz
  exact State.tap_fine _ _ _ _ h rfl rfl h.2.2

theorem execWsel_fine (testEn : Bool) (dieField : Byte) (answers : Bool) (s : State) (h : s.Sound) : Fine s (execWsel testEn dieField answers s) := by
  unfold execWsel
  exact State.tap_fine _ _ _ _ h rfl rfl h.2.2

theorem execMbist_fine (testEn : Bool) (mask : BitVec 17) (s : State) (h : s.Sound) : Fine s (execMbist testEn mask s) := by
  unfold execMbist
  exact State.tap_fine _ _ _ _ h rfl rfl h.2.2

@[simp] theorem execMbistComplete_kept (failBits : Nat) (s : State) (h : Kept q o s) :
    KeptO q o (execMbistComplete failBits s) := by
  unfold execMbistComplete
  refine keptO_next ?_
  (repeat' split) <;> simp (maxDischargeDepth := 30) (contextual := true) only [kept_mk, *]

@[simp] theorem execBypass_kept (s : State) (h : Kept q o s) :
    KeptO q o (execBypass s) := by
  unfold execBypass
  refine keptO_next ?_
  simp (maxDischargeDepth := 30) (contextual := true) only [kept_mk, kept_ite, implies_true, *]

end Sys2Proof.Machine
end

