-- ==== Sys2Proof/Laws/KeptHost.lean ====
section
/-!
SUPPORT. What is kept by the dictionary, the host queues, the KV store and PCIe: the queue of waiting commands, whether the device is in Off, and State.Sound.
-/
set_option linter.unusedSimpArgs false
set_option linter.unusedVariables false
namespace Sys2Proof.Machine

variable {q : List Instr × Bool} {o : Bool} {s : State}

/-! ### Sdo -/

@[simp] theorem State.upload_kept (s : State) (c : Channel) (ix : Nat) (sub : Nat) (h : Kept q o s) :
    Kept q o (State.upload s c ix sub) := by
  unfold State.upload
  refine kept_ite (fun _ => State.fetch_kept _ _ _ _ _ h (fun _ hx => hx)) (fun _ => ?_)
  split
  · exact kept_after _ _ (execStuckMapRead_kept _ _ h) h
  · exact kept_after _ _ (execAuthChallenge_kept _ _ h) h
  · exact kept_after _ _ (execSessionOpen_kept _ _ h) h
  · exact kept_after _ _ (execEventEntryRead_kept _ _ h) h
  · exact State.readPersistent_kept _ _ h
  · exact State.fetch_kept _ _ _ _ _ h (fun _ hx => hx)

@[simp] theorem State.refuseValue_kept (s : State) (c : Channel) (a : W32) (h : Kept q o s) :
    Kept q o (State.refuseValue s c a) := by
  unfold State.refuseValue
  exact State.request_kept _ _ _ _ h (fun _ hx => hx)

@[simp] theorem State.settingEffect_kept (s : State) (k : Nat) (v : Nat) (h : Kept q o s) :
    Kept q o (State.settingEffect s k v) := by
  unfold State.settingEffect
  simp (maxDischargeDepth := 30) (contextual := true) only [kept_mk, kept_ite, implies_true, *]

@[simp] theorem State.writeSetting_kept (s : State) (c : Channel) (k : Nat) (v : Nat) (h : Kept q o s) :
    Kept q o (State.writeSetting s c k v) := by
  unfold State.writeSetting
  simp (maxDischargeDepth := 30) (contextual := true) only [implies_true, State.acceptSetting_kept, State.request_kept,
    State.settingEffect_kept, *]

@[simp] theorem State.recordEffect_kept (s : State) (k : Nat) (b : List Byte) (h : Kept q o s) :
    Kept q o (State.recordEffect s k b) := by
  unfold State.recordEffect
  (repeat' split) <;> simp (maxDischargeDepth := 30) (contextual := true) only [kept_mk, State.modContext_kept, *]

@[simp] theorem State.writeRecord_kept (s : State) (c : Channel) (k : Nat) (b : List Byte) (h : Kept q o s) :
    Kept q o (State.writeRecord s c k b) := by
  unfold State.writeRecord
  simp (maxDischargeDepth := 30) (contextual := true) only [kept_ite, implies_true, State.acceptOctets_kept, State.raise_kept,
    State.answer_kept, State.request_kept, State.recordEffect_kept, *]

@[simp] theorem State.writeFallback_kept (s : State) (c : Channel) (sub : Nat) (b : List Byte) (h : Kept q o s) :
    Kept q o (State.writeFallback s c sub b) := by
  unfold State.writeFallback
  (repeat' split) <;> simp (maxDischargeDepth := 30) (contextual := true) only [implies_true, State.acceptSetting_kept,
    State.acceptOctets_kept, State.request_kept, State.refuseValue_kept, *]

@[simp] theorem State.weightCommand_kept (s : State) (c : Channel) (v : Nat) (h : Kept q o s) :
    Kept q o (State.weightCommand s c v) := by
  unfold State.weightCommand
  simp (maxDischargeDepth := 30) (contextual := true) only [kept_ite, kept_after, implies_true, execLoadImage_kept,
    execLoadImageHold_kept, execArmHeldSet_kept, execCancelFlipSet_kept, execLoadPlanSet_kept, State.refuseValue_kept, *]

@[simp] theorem State.programmeCommand_kept (s : State) (c : Channel) (v : Nat) (h : Kept q o s) :
    Kept q o (State.programmeCommand s c v) := by
  unfold State.programmeCommand
  simp (maxDischargeDepth := 30) (contextual := true) only [kept_ite, kept_after, implies_true, execLoadContainer_kept,
    execSwitchStaged_kept, execSwitchRetained_kept, State.refuseValue_kept, *]

@[simp] theorem State.securityCommand_kept (s : State) (c : Channel) (v : Nat) (h : Kept q o s) :
    Kept q o (State.securityCommand s c v) := by
  unfold State.securityCommand
  simp (maxDischargeDepth := 30) (contextual := true) only [kept_ite, kept_after, implies_true, State.takeFree_kept,
    execZeroise_kept, execClearLock_kept, execSelfTest_kept, execRaiseVersionFloor_kept, State.refuseValue_kept, *]

@[simp] theorem State.writeCredential_kept (s : State) (c : Channel) (b : List Byte) (h : Kept q o s) :
    Kept q o (State.writeCredential s c b) := by
  unfold State.writeCredential
  simp (maxDischargeDepth := 30) (contextual := true) only [kept_ite, kept_after, implies_true, execAuthenticate_kept,
    State.refuseValue_kept, *]

@[simp] theorem State.writeDescriptor_kept (s : State) (c : Channel) (b : List Byte) (h : Kept q o s) :
    Kept q o (State.writeDescriptor s c b) := by
  unfold State.writeDescriptor
  simp (maxDischargeDepth := 30) (contextual := true) only [kept_ite, kept_after, implies_true, execGroupDescriptorWrite_kept,
    State.refuseValue_kept, *]

@[simp] theorem State.writeSecurity_kept (s : State) (c : Channel) (ix : Nat) (sub : Nat) (b : List Byte) (h : Kept q o s) :
    Kept q o (State.writeSecurity s c ix sub b) := by
  unfold State.writeSecurity
  (repeat' split) <;> simp (maxDischargeDepth := 30) (contextual := true) only [kept_after, execLogout_kept,
    execSessionCiphertext_kept, execImageKeyImport_kept, execImageKeyDelete_kept, execAnchorWrite_kept, execAttestation_kept,
      execEnrolment_kept, State.refuseValue_kept, State.writeSetting_kept, State.securityCommand_kept,
      State.writeCredential_kept, *]

@[simp] theorem State.writeProcessData_kept (s : State) (c : Channel) (sub : Nat) (b : List Byte) (h : Kept q o s) :
    Kept q o (State.writeProcessData s c sub b) := by
  unfold State.writeProcessData
  simp (maxDischargeDepth := 30) (contextual := true) only [kept_mk, implies_true, State.request_kept, *]

@[simp] theorem State.writeWindow_kept (s : State) (c : Channel) (ix : Nat) (sub : Nat) (b : List Byte) (h : Kept q o s) :
    Kept q o (State.writeWindow s c ix sub b) := by
  unfold State.writeWindow
  simp (maxDischargeDepth := 30) (contextual := true) only [kept_ite, kept_forAll, kept_after, implies_true,
    State.modEngine_kept, State.request_kept, execWindowSelectorWrite_kept, execStatRegisterWrite_kept, execCounterClear_kept, *]

@[simp] theorem State.writeControl_kept (s : State) (c : Channel) (sub : Nat) (b : List Byte) (h : Kept q o s) :
    Kept q o (State.writeControl s c sub b) := by
  unfold State.writeControl
  (repeat' split) <;> simp (maxDischargeDepth := 30) (contextual := true) only [kept_ite, kept_after, implies_true,
    execFirmwareImageWrite_kept, execFirmwareSwitch_kept, execFirmwareRevert_kept, execFirmwareConfirm_kept,
      execRequestRun_kept, execRequestIdle_kept, execRequestDoze_kept, execFramePeriodWrite_kept, State.refuseValue_kept,
      State.writeSetting_kept, *]

@[simp] theorem State.loadNetwork_kept (s : State) (c : Channel) (seg : Fin 3) (v : Nat) (h : Kept q o s) :
    Kept q o (State.loadNetwork s c seg v) := by
  unfold State.loadNetwork
  simp (maxDischargeDepth := 30) (contextual := true) only [kept_ite, kept_after, implies_true, execLoadEni_kept,
    State.refuseValue_kept, *]

@[simp] theorem State.writeSpecial_kept (s : State) (c : Channel) (k : Nat) (b : List Byte) (h : Kept q o s) :
    KeptS q o (State.writeSpecial s c k b) := by
  unfold State.writeSpecial
  dsimp only; (repeat' split) <;> simp (maxDischargeDepth := 30) (contextual := true) only [kept_mk, kept_after, keptS_none,
    keptS_some, implies_true, State.takeFree_kept, State.acceptSetting_kept, State.request_kept, execRevisionOffer_kept,
      execListTableWrite_kept, execListWrite_kept, execDeepGroupWrite_kept, execStartConsolidation_kept,
      execRequestRespread_kept, execQueueRecalibration_kept, execStrongmanRun_kept, execSelectPlan_kept, execMarkOutDie_kept,
      execClearOutMark_kept, execCounterClear_kept, execEventAcknowledge_kept, execLoopbackStart_kept, execLoopbackStop_kept,
      State.refuseValue_kept, State.writeFallback_kept, State.weightCommand_kept, State.programmeCommand_kept,
      State.writeDescriptor_kept, State.writeSecurity_kept, State.writeProcessData_kept, State.writeControl_kept,
      State.loadNetwork_kept, *]

@[simp] theorem State.download_kept (s : State) (c : Channel) (ix : Nat) (sub : Nat) (b : List Byte) (h : Kept q o s) :
    Kept q o (State.download s c ix sub b) := by
  unfold State.download
  refine kept_ite (fun _ => kept_ite (fun _ => State.requestOpen_kept _ _ _ _ h (fun _ hx _ => hx))
    (fun _ => State.request_kept _ _ _ _ h (fun _ hx => hx))) (fun _ => kept_ite (fun _ => State.writeWindow_kept _ _ _ _ _ h) (fun _ => ?_))
  split
  · rename_i t e
    exact State.writeSpecial_kept _ _ _ _ h t e
  · refine kept_ite (fun _ => State.requestOpen_kept _ _ _ _ h (fun _ hx _ => State.acceptSetting_kept _ _ _ hx)) (fun _ => ?_)
    exact kept_ite (fun _ => State.writeSetting_kept _ _ _ _ h) (fun _ => State.writeRecord_kept _ _ _ _ h)

@[simp] theorem State.uploadMany_kept (s : State) (c : Channel) (ix : Nat) (a0 : List Byte) (a1 : List Nat) (h : Kept q o s) :
    Kept q o (State.uploadMany s c ix a0 a1) := by
  induction a1 generalizing s a0 with
  | nil => exact State.answer_kept _ _ _ _ h
  | cons n ns ih =>
    have h1 := State.upload_kept s c ix n h
    unfold State.uploadMany
    exact kept_ite (fun _ => h1) (fun _ => ih _ _ h1)

@[simp] theorem State.downloadMany_kept (s : State) (start : State) (c : Channel) (ix : Nat) (a0 : List Byte) (a1 : List Nat) (h : Kept q o s) (hstart : Kept q o start) :
    Kept q o (State.downloadMany s start c ix a0 a1) := by
  have an : ∀ a, Kept q o (start.answer c a []) := fun a => State.answer_kept _ _ _ _ hstart
  induction a1 generalizing s a0 with
  | nil =>
    unfold State.downloadMany
    exact kept_ite (fun _ => State.answer_kept _ _ _ _ h) (fun _ => an _)
  | cons n ns ih =>
    unfold State.downloadMany
    split
    · exact an _
    · exact kept_ite (fun _ => an _) (fun _ => kept_ite (fun _ => an _) (fun _ => ih _ _ (State.download_kept _ _ _ _ _ h)))

@[simp] theorem State.completely_kept (s : State) (c : Channel) (ix : Nat) (sub : Nat) (f : List Nat → State) (h : Kept q o s) (hf : ∀ (x0 : List Nat), Kept q o (f x0)) :
    Kept q o (State.completely s c ix sub f) := by
  unfold State.completely
  exact kept_ite (fun _ => State.fetch_kept _ _ _ _ _ h (fun _ hx => hx)) (fun _ => kept_ite (fun _ => State.fetch_kept _ _ _ _ _ h (fun _ hx => hx)) (fun _ => hf _))

@[simp] theorem State.access_kept (s : State) (c : Channel) (ix : Nat) (sub : Nat) (op : SdoOp) (h : Kept q o s) :
    Kept q o (State.access s c ix sub op) := by
  unfold State.access
  (repeat' split) <;> simp (maxDischargeDepth := 30) (contextual := true) only [implies_true, State.upload_kept,
    State.download_kept, State.uploadMany_kept, State.downloadMany_kept, State.completely_kept, *]

@[simp] theorem execSdoAccess_kept (c : Channel) (a : ObjAddr) (op : SdoOp) (s : State) (h : Kept q o s) :
    KeptO q o (execSdoAccess c a op s) := by
  unfold execSdoAccess
  refine keptO_next ?_
  simp (maxDischargeDepth := 30) (contextual := true) only [State.access_kept, *]

/-! ### HostQueues -/

@[simp] theorem State.setHostIndex_kept (s : State) (q' : Nat) (v : Nat) (h : Kept q o s) :
    Kept q o (State.setHostIndex s q' v) := by
  unfold State.setHostIndex
  simp (maxDischargeDepth := 30) (contextual := true) only [kept_mk, *]

@[simp] theorem State.advanceQueue_kept (s : State) (q' : Nat) (h : Kept q o s) :
    Kept q o (State.advanceQueue s q') := by
  unfold State.advanceQueue
  simp (maxDischargeDepth := 30) (contextual := true) only [kept_mk, *]

@[simp] theorem State.complete_kept (s : State) (q' : Nat) (tag : W32) (status : W32) (length : Nat) (h : Kept q o s) :
    Kept q o (State.complete s q' tag status length) := by
  unfold State.complete
  refine State.advanceQueue_kept _ _ ?_
  have h1 : Kept q o { s with hub := s.hub.write (queueBase q' + 16 * s.deviceIndex q') (leBytes 4 tag.toNat ++ leBytes 4 status.toNat ++
    leBytes 4 length ++ leBytes 1 (bit (s.phaseOf q') 0) ++ leBytes 3 0) } :=
    kept_mem h _ rfl rfl rfl rfl (.inl rfl) (ByteMem.wf_write _ _ _ h.hub) h.lpddr
  exact kept_mk h1 _ _ _ _ _ _ _ _ _ _ _ _ _ _ _ _ _ _ _ _ _ _ _ _ _ rfl

@[simp] theorem State.returnData_kept (s : State) (r : MailboxRequest) (data : List Byte) (h : Kept q o s) :
    Kept q o (State.returnData s r data) := by
  unfold State.returnData
  refine kept_ite (fun _ => ?_) (fun _ => kept_ite (fun _ => ?_) (fun _ => ?_)) <;> (refine kept_mem h _ rfl rfl rfl rfl (.inl rfl) ?_ ?_ <;> simp (maxDischargeDepth := 30) (contextual := true) only [ByteMem.wf_ite, ByteMem.wf_foldl, ByteMem.wf_write, ByteMem.wf_writeRow, ByteMem.wf_writeStream, ByteMem.wf_setPoison, ByteMem.wf_taint, ByteMem.wf_empty, h.hub, h.lpddr, implies_true])

@[simp] theorem State.serveRequest_kept (s : State) (r : MailboxRequest) (h : Kept q o s) :
    Kept q o (State.serveRequest s r).1 := by
  unfold State.serveRequest
  simp (maxDischargeDepth := 30) (contextual := true) only [kept_ite_fst, implies_true, State.access_kept,
    State.returnData_kept, *]

@[simp] theorem State.serveMailbox_kept (s : State) (posted : Bool) (a0 : Nat) (h : Kept q o s) :
    Kept q o (State.serveMailbox s posted a0).1 := by
  induction a0 generalizing s posted with
  | zero => exact h
  | succ n ih =>
    unfold State.serveMailbox
    dsimp only
    refine kept_ite_fst (fun _ => h) (fun _ => ?_)
    exact ih _ _ (State.complete_kept _ _ _ _ _ (State.advanceQueue_kept _ _ (State.serveRequest_kept _ _ h)))

@[simp] theorem State.runMailbox_kept (s : State) (h : Kept q o s) :
    Kept q o (State.runMailbox s) := by
  unfold State.runMailbox
  simp (maxDischargeDepth := 30) (contextual := true) only [kept_ite, implies_true, State.vector_kept, State.serveMailbox_kept, *]

@[simp] theorem execMailboxDoorbell_kept (tail : W32) (s : State) (h : Kept q o s) :
    KeptO q o (execMailboxDoorbell tail s) := by
  unfold execMailboxDoorbell
  refine keptO_next ?_
  simp (maxDischargeDepth := 30) (contextual := true) only [kept_ite, implies_true, State.setHostIndex_kept,
    State.runMailbox_kept, *]

@[simp] theorem runHd_kept (i : Instr) (s : State) (h : Kept q o s) :
    Kept q o (runHd i s) := by
  unfold runHd
  (repeat' split) <;> simp (maxDischargeDepth := 30) (contextual := true) only [kept_after, execHdNop_kept, execGen_kept,
    execBind_kept, execNot_kept, execHdCopy_kept, execHdRot_kept, execCar_kept, execBclr_kept, execBadd_kept, execBaddx_kept,
      execBthr_kept, execLoadv_kept, execStorev_kept, execSign_kept, execLevel_kept, execRecord_kept, execSeq_kept,
      execOutv_kept, execAddg_kept, execWaitg_kept, execSrch_kept, execRde_kept, execIns_kept, execDel_kept, execUpd_kept,
      execCfree_kept, execCstep_kept, execGlist_kept, execDcoll_kept, *]

@[simp] theorem State.hdMove_kept (s : State) (h : Kept q o s) :
    KeptS q o (State.hdMove s) := by
  unfold State.hdMove
  dsimp only; (repeat' split) <;> simp (maxDischargeDepth := 30) (contextual := true) only [kept_mk, keptS_none, keptS_some,
    State.deviceEvent_kept, State.advanceQueue_kept, State.complete_kept, runHd_kept, *]

@[simp] theorem State.serveHd_kept (s : State) (a0 : Nat) (h : Kept q o s) :
    Kept q o (State.serveHd s a0) := by
  induction a0 generalizing s with
  | zero => exact h
  | succ n ih =>
    unfold State.serveHd
    split
    · exact h
    · rename_i t e
      exact ih _ (State.hdMove_kept _ h t e)

@[simp] theorem State.runHdQueue_kept (s : State) (h : Kept q o s) :
    Kept q o (State.runHdQueue s) := by
  unfold State.runHdQueue
  simp (maxDischargeDepth := 30) (contextual := true) only [kept_ite, implies_true, State.vector_kept, State.serveHd_kept, *]

@[simp] theorem execHdDoorbell_kept (tail : W32) (s : State) (h : Kept q o s) :
    KeptO q o (execHdDoorbell tail s) := by
  unfold execHdDoorbell
  refine keptO_next ?_
  simp (maxDischargeDepth := 30) (contextual := true) only [kept_ite, implies_true, State.setHostIndex_kept,
    State.runHdQueue_kept, *]

@[simp] theorem execCompletionQueueDoorbell_kept (hd : Bool) (head : W32) (s : State) (h : Kept q o s) :
    KeptO q o (execCompletionQueueDoorbell hd head s) := by
  unfold execCompletionQueueDoorbell
  refine keptO_next ?_
  simp (maxDischargeDepth := 30) (contextual := true) only [kept_ite, implies_true, State.setHostIndex_kept,
    State.runMailbox_kept, State.runHdQueue_kept, *]

@[simp] theorem execListEnd_kept (n : Fin 16) (s : State) (h : Kept q o s) :
    KeptO q o (execListEnd n s) := by
  unfold execListEnd
  refine keptO_next ?_
  simp (maxDischargeDepth := 30) (contextual := true) only [State.endList_kept, State.runHdQueue_kept, *]

@[simp] theorem execOutvWrite_kept (s : State) (h : Kept q o s) :
    KeptO q o (execOutvWrite s) := by
  unfold execOutvWrite
  refine keptO_next ?_
  simp (maxDischargeDepth := 30) (contextual := true) only [State.writeOutv_kept, State.runHdQueue_kept, *]

@[simp] theorem execSearchComplete_kept (s : State) (h : Kept q o s) :
    KeptO q o (execSearchComplete s) := by
  unfold execSearchComplete
  refine keptO_next ?_
  simp (maxDischargeDepth := 30) (contextual := true) only [State.completeSearch_kept, State.runHdQueue_kept, *]

@[simp] theorem execGlobalUpdateArrival_kept (s : State) (h : Kept q o s) :
    KeptO q o (execGlobalUpdateArrival s) := by
  unfold execGlobalUpdateArrival
  refine keptO_next ?_
  simp (maxDischargeDepth := 30) (contextual := true) only [State.arriveGlobal_kept, State.runHdQueue_kept, *]

@[simp] theorem execFrameStart_kept (edge : EdgeInput) (s : State) (h : Kept q o s) :
    KeptO q o (execFrameStart edge s) := by
  unfold execFrameStart
  refine keptO_next ?_
  simp (maxDischargeDepth := 30) (contextual := true) only [State.frameStart_kept, State.runHdQueue_kept, *]

@[simp] theorem State.countDrop_kept (s : State) (h : Kept q o s) :
    Kept q o (State.countDrop s) := by
  unfold State.countDrop
  simp (maxDischargeDepth := 30) (contextual := true) only [kept_mk, *]

@[simp] theorem State.takeHint_kept (s : State) (b : List Byte) (h : Kept q o s) :
    Kept q o (State.takeHint s b) := by
  unfold State.takeHint
  simp (maxDischargeDepth := 30) (contextual := true) only [kept_mk, kept_ite, implies_true, State.countDrop_kept, *]

@[simp] theorem State.takeHints_kept (s : State) (a0 : Nat) (h : Kept q o s) :
    Kept q o (State.takeHints s a0) := by
  induction a0 generalizing s with
  | zero => exact h
  | succ n ih =>
    unfold State.takeHints
    exact kept_ite (fun _ => ih _ (State.advanceQueue_kept _ _ (State.takeHint_kept _ _ h))) (fun _ => h)

@[simp] theorem execHintDoorbell_kept (tail : W32) (s : State) (h : Kept q o s) :
    KeptO q o (execHintDoorbell tail s) := by
  unfold execHintDoorbell
  refine keptO_next ?_
  simp (maxDischargeDepth := 30) (contextual := true) only [kept_ite, implies_true, State.setHostIndex_kept,
    State.takeHints_kept, *]

@[simp] theorem State.copyEvents_kept (s : State) (a0 : Nat) (h : Kept q o s) :
    Kept q o (State.copyEvents s a0) := by
  induction a0 generalizing s with
  | zero => exact h
  | succ n ih =>
    unfold State.copyEvents
    split
    · exact h
    · refine kept_ite (fun _ => h) (fun _ => ih _ (State.advanceQueue_kept _ _ ?_))
      (refine kept_mem h _ rfl rfl rfl rfl (.inl rfl) ?_ ?_ <;> simp (maxDischargeDepth := 30) (contextual := true) only [ByteMem.wf_ite, ByteMem.wf_foldl, ByteMem.wf_write, ByteMem.wf_writeRow, ByteMem.wf_writeStream, ByteMem.wf_setPoison, ByteMem.wf_taint, ByteMem.wf_empty, h.hub, h.lpddr, implies_true])

@[simp] theorem execEventQueueCopy_kept (s : State) (h : Kept q o s) :
    KeptO q o (execEventQueueCopy s) := by
  unfold execEventQueueCopy
  refine keptO_next ?_
  simp (maxDischargeDepth := 30) (contextual := true) only [kept_ite, implies_true, State.vector_kept, State.copyEvents_kept, *]

@[simp] theorem execEventDoorbell_kept (head : W32) (s : State) (h : Kept q o s) :
    KeptO q o (execEventDoorbell head s) := by
  unfold execEventDoorbell
  refine keptO_next ?_
  dsimp only; (repeat' split) <;> simp (maxDischargeDepth := 30) (contextual := true) only [State.acknowledge_kept,
    State.setHostIndex_kept, *]

/-! ### Kv -/

theorem ByteMem.wf_writeParts (m : ByteMem) (ps : List MemPart) (h : ByteMem.wf m = true) : ByteMem.wf (m.writeParts ps) = true := by
  simp only [ByteMem.wf, ByteMem.writeParts, Bool.and_eq_true] at h ⊢
  exact ⟨Machine.wf_foldl (fun c => SMap.wf 0 c = true) _ (fun _ _ hc => wf_msetMany _ _ _ _ hc) _ _ h.1,
    Machine.wf_foldl (fun p => SMap.wf false p = true) _ (fun _ _ hp => wf_mset _ _ _ _ hp) _ _ h.2⟩

@[simp] theorem execKvSpill_kept (s : State) (h : Kept q o s) :
    KeptO q o (execKvSpill s) := by
  unfold execKvSpill
  exact keptO_next (kept_ite (fun _ => h) (fun _ => kept_mem h _ rfl rfl rfl rfl (.inl rfl) h.hub (ByteMem.wf_writeParts _ _ h.lpddr)))

@[simp] theorem State.startGather_kept (s : State) (h : Kept q o s) :
    Kept q o (State.startGather s) := by
  unfold State.startGather
  simp (maxDischargeDepth := 30) (contextual := true) only [kept_mk, kept_ite, implies_true, *]

@[simp] theorem State.requestGather_kept (s : State) (a0 : Nat) (h : Kept q o s) :
    Kept q o (State.requestGather s a0) := by
  induction a0 generalizing s with
  | zero => exact h
  | succ n ih =>
    unfold State.requestGather
    split
    · exact h
    · split
      · exact kept_mk h _ _ _ _ _ _ _ _ _ _ _ _ _ _ _ _ _ _ _ _ _ _ _ _ _ rfl
      · have h1 := fun k => kept_mk h s.now s.toward s.tiles s.engines s.banks s.dies s.globals s.fabric s.agents s.lpddrFixed s.frame s.weights
          s.prog s.hd s.rcl k s.ingress s.ecat s.pwr s.svc s.sec s.pcie s.dict s.test s.free rfl
        dsimp only
        split
        · exact State.agentRequest_kept _ _ _ _ _ _ _ (h1 _)
        · exact ih _ (h1 _)

@[simp] theorem execKvGather_kept (s : State) (h : Kept q o s) :
    KeptO q o (execKvGather s) := by
  unfold execKvGather
  refine keptO_next ?_
  (repeat' split) <;> simp (maxDischargeDepth := 30) (contextual := true) only [kept_ite, implies_true, State.agentWrite_kept,
    State.startGather_kept, State.requestGather_kept, *]

/-! ### PcieOps -/

@[simp] theorem State.resetQueues_kept (s : State) (h : Kept q o s) :
    Kept q o (State.resetQueues s) := by
  unfold State.resetQueues
  simp (maxDischargeDepth := 30) (contextual := true) only [kept_mk, *]

@[simp] theorem State.enableQueues_kept (s : State) (offer : List Byte) (h : Kept q o s) :
    Kept q o (State.enableQueues s offer) := by
  unfold State.enableQueues
  (repeat' split) <;> simp (maxDischargeDepth := 30) (contextual := true) only [kept_mk, State.event_kept, *]

@[simp] theorem execPcieEnable_kept (offer : List Byte) (s : State) (h : Kept q o s) :
    KeptO q o (execPcieEnable offer s) := by
  unfold execPcieEnable
  refine keptO_next ?_
  simp (maxDischargeDepth := 30) (contextual := true) only [kept_ite, implies_true, State.enableQueues_kept, *]

@[simp] theorem execPcieReset_kept (s : State) (h : Kept q o s) :
    KeptO q o (execPcieReset s) := by
  unfold execPcieReset
  refine keptO_next ?_
  simp (maxDischargeDepth := 30) (contextual := true) only [kept_ite, implies_true, State.resetQueues_kept, *]

@[simp] theorem execFunctionLevelReset_kept (s : State) (h : Kept q o s) :
    KeptO q o (execFunctionLevelReset s) := by
  unfold execFunctionLevelReset
  refine keptO_next ?_
  simp (maxDischargeDepth := 30) (contextual := true) only [kept_ite, implies_true, State.resetQueues_kept, *]

@[simp] theorem State.writeCtrl_kept (s : State) (v : Nat) (h : Kept q o s) :
    Kept q o (State.writeCtrl s v) := by
  unfold State.writeCtrl
  simp (maxDischargeDepth := 30) (contextual := true) only [kept_mk, kept_ite, implies_true, State.resetQueues_kept,
    State.enableQueues_kept, *]

@[simp] theorem State.writeRegister_kept (s : State) (o' : Nat) (v : Nat) (h : Kept q o s) :
    Kept q o (State.writeRegister s o' v) := by
  unfold State.writeRegister
  (repeat' split) <;> simp (maxDischargeDepth := 30) (contextual := true) only [kept_mk, kept_after, execMailboxDoorbell_kept,
    execHdDoorbell_kept, execCompletionQueueDoorbell_kept, execHintDoorbell_kept, execEventDoorbell_kept, State.writeCtrl_kept, *]

@[simp] theorem execBar0WindowWrite_kept (offset : Nat) (data : List Byte) (s : State) (h : Kept q o s) :
    KeptO q o (execBar0WindowWrite offset data s) := by
  unfold execBar0WindowWrite
  refine keptO_next ?_
  refine kept_ite (fun _ => h) (fun _ => kept_ite (fun _ => kept_ite (fun _ => h) (fun _ => kept_ite (fun _ => State.writeRegister_kept _ _ _ h)
    (fun _ => kept_ite (fun _ => State.writeRegister_kept _ _ _ (State.writeRegister_kept _ _ _ h)) (fun _ => h)))) (fun _ =>
    kept_ite (fun _ => by simp only [kept_mk, *]) (fun _ => kept_ite (fun _ => h) (fun _ => kept_ite (fun _ => ?_)
      (fun _ => State.countDrop_kept _ h)))))
  (refine kept_mem h _ rfl rfl rfl rfl (.inl rfl) ?_ ?_ <;> simp (maxDischargeDepth := 30) (contextual := true) only [ByteMem.wf_ite, ByteMem.wf_foldl, ByteMem.wf_write, ByteMem.wf_writeRow, ByteMem.wf_writeStream, ByteMem.wf_setPoison, ByteMem.wf_taint, ByteMem.wf_empty, h.hub, h.lpddr, implies_true])

@[simp] theorem execBar2Access_kept (write : Bool) (addr : Nat) (data : List Byte) (s : State) (h : Kept q o s) :
    KeptO q o (execBar2Access write addr data s) := by
  unfold execBar2Access
  refine keptO_next ?_
  have h1 := State.event_kept _ 0x4060 deviceHandle (State.countDrop_kept _ h)
  refine kept_ite (fun _ => h) (fun _ => kept_ite (fun _ => kept_ite (fun _ => h1) (fun _ => kept_mk h1 _ _ _ _ _ _ _ _ _ _ _ _ _ _ _ _ _ _ _ _ _ _ _ _ _ rfl))
    (fun _ => kept_ite (fun _ => ?_) (fun _ => kept_mk h _ _ _ _ _ _ _ _ _ _ _ _ _ _ _ _ _ _ _ _ _ _ _ _ _ rfl)))
  (refine kept_mem h _ rfl rfl rfl rfl (.inl rfl) ?_ ?_ <;> simp (maxDischargeDepth := 30) (contextual := true) only [ByteMem.wf_ite, ByteMem.wf_foldl, ByteMem.wf_write, ByteMem.wf_writeRow, ByteMem.wf_writeStream, ByteMem.wf_setPoison, ByteMem.wf_taint, ByteMem.wf_empty, h.hub, h.lpddr, implies_true])

@[simp] theorem execPerstNAssert_kept (s : State) (h : Kept q o s) :
    KeptO q o (execPerstNAssert s) := by
  unfold execPerstNAssert
  refine keptO_next (kept_ite (fun _ => h) (fun _ => ?_))
  have h1 := fun p g => kept_mk h s.now s.toward s.tiles s.engines s.banks s.dies s.globals s.fabric s.agents s.lpddrFixed s.frame s.weights
    s.prog g s.rcl s.kv s.ingress s.ecat s.pwr s.svc s.sec p s.dict s.test s.free rfl
  exact kept_ite (fun _ => h1 _ _) (fun _ => State.event_kept _ _ _ (h1 _ _))

@[simp] theorem execPerstNRelease_kept (s : State) (h : Kept q o s) :
    KeptO q o (execPerstNRelease s) := by
  unfold execPerstNRelease
  refine keptO_next ?_
  simp (maxDischargeDepth := 30) (contextual := true) only [kept_mk, *]

@[simp] theorem execPcieLinkUp_kept (rate : Nat) (width : Nat) (s : State) (h : Kept q o s) :
    KeptO q o (execPcieLinkUp rate width s) := by
  unfold execPcieLinkUp
  refine keptO_next (kept_ite (fun _ => h) (fun _ => ?_))
  have h1 := fun p => kept_mk h s.now s.toward s.tiles s.engines s.banks s.dies s.globals s.fabric s.agents s.lpddrFixed s.frame s.weights
    s.prog s.hd s.rcl s.kv s.ingress s.ecat s.pwr s.svc s.sec p s.dict s.test s.free rfl
  exact kept_ite (fun _ => h1 _) (fun _ => kept_ite (fun _ => State.event_kept _ _ _ (h1 _)) (fun _ => h1 _))

@[simp] theorem execPcieLinkLoss_kept (downgrade : Bool) (s : State) (h : Kept q o s) :
    KeptO q o (execPcieLinkLoss downgrade s) := by
  unfold execPcieLinkLoss
  refine keptO_next ?_
  simp (maxDischargeDepth := 30) (contextual := true) only [kept_mk, kept_ite, implies_true, State.takeFree_kept,
    State.event_kept, State.resetQueues_kept, *]

end Sys2Proof.Machine
end

