-- ==== Sys2Proof/Laws/KeptStart.lean ====
section
/-!
SUPPORT. What is kept by start-up, wakes and the boot set: the queue of waiting commands, whether the device is in Off, and State.Sound.
-/
set_option linter.unusedSimpArgs false
set_option linter.unusedVariables false
namespace Sys2Proof.Machine

variable {q : List Instr × Bool} {o : Bool} {s : State}

/-! ### Startup -/

theorem execPorstNAssert_fine (s : State) (h : s.Sound) : Fine s (execPorstNAssert s) := by
  exact fine_next rfl ⟨fun _ => rfl, fun _ => rfl, ⟨rfl, rfl⟩⟩

theorem execThermalTrip_fine (channel : Fin 17) (s : State) (h : s.Sound) : Fine s (execThermalTrip channel s) := by
  unfold execThermalTrip
  split
  · exact fine_next rfl h
  · exact fine_next rfl ⟨fun _ => rfl, fun _ => rfl, ⟨rfl, rfl⟩⟩

@[simp] theorem State.shutdownExcursion_kept (s : State) (h : Kept q o s) :
    Kept q o (State.shutdownExcursion s) := by
  unfold State.shutdownExcursion
  simp (maxDischargeDepth := 30) (contextual := true) only [kept_mk, State.raise_kept, State.logAlarm_kept, *]

theorem execVinUndervoltage_fine (s : State) (h : s.Sound) : Fine s (execVinUndervoltage s) := by
  unfold execVinUndervoltage
  split
  · rename_i hp
    exact fine_next rfl ⟨fun _ => hp, h.2.1, h.2.2⟩
  · refine fine_next ?_ ⟨fun _ => rfl, fun _ => rfl, ⟨rfl, rfl⟩⟩
    exact congrArg Prod.fst (State.shutdownExcursion_kept s (Kept.start h)).1

theorem execVinApply_fine (s : State) (h : s.Sound) : Fine s (execVinApply s) := by
  unfold execVinApply
  split
  · exact fine_next rfl h
  · rename_i hv
    have hp := h.1 (.inl (by simpa using hv))
    exact fine_next rfl ⟨fun _ => hp, h.2.1, h.2.2⟩

@[simp] theorem State.releaseReset_kept (s : State) (f : StartFindings) (h : s.Sound) (hp : s.power = .off) (hv : s.vin = true) :
    Kept (s.pending, true) true (State.releaseReset s f) := by
  refine ⟨?_, ?_, fun _ => hp, h.2.1, h.2.2⟩
  · simp [State.releaseReset, hv]
  · simp [State.releaseReset, hp]

@[simp] theorem State.reportTrip_kept (s : State) (h : Kept q o s) :
    Kept q o (State.reportTrip s) := by
  unfold State.reportTrip
  (repeat' split) <;> simp (maxDischargeDepth := 30) (contextual := true) only [kept_mk, State.event_kept, *]

@[simp] theorem State.completeLevelThree_kept (s : State) (h : Kept q o s) :
    Kept q o (State.completeLevelThree s) := by
  unfold State.completeLevelThree
  (repeat' split) <;> simp (maxDischargeDepth := 30) (contextual := true) only [kept_mk, kept_ite, implies_true,
    State.raise_kept, State.logAlarm_kept, State.eraseStore_kept, *]

@[simp] theorem State.haltStart_kept (s : State) (h : Kept q o s) :
    Kept q o (State.haltStart s) := by
  unfold State.haltStart
  simp (maxDischargeDepth := 30) (contextual := true) only [kept_mk, *]

@[simp] theorem State.secureBoot_kept (s : State) (f : StartFindings) (h : Kept q o s) :
    KeptS q o (State.secureBoot s f) := by
  unfold State.secureBoot
  simp (maxDischargeDepth := 30) (contextual := true) only [kept_mk, keptS_none, keptS_some, keptS_ite, implies_true,
    State.event_kept, State.putSlot_kept, *]

@[simp] theorem State.noImage_kept (s : State) (h : Kept q o s) :
    Kept q o (State.noImage s) := by
  unfold State.noImage
  simp (maxDischargeDepth := 30) (contextual := true) only [kept_mk, *]

@[simp] theorem State.trainDie_kept (s : State) (d : DieId) (modules : List Bool) (link : GoineLink) (h : Kept q o s) :
    Kept q o (State.trainDie s d modules link) := by
  unfold State.trainDie
  (repeat' split) <;> simp (maxDischargeDepth := 30) (contextual := true) only [kept_forAll, implies_true, State.modDie_kept,
    State.raise_kept, State.event_kept, *]

@[simp] theorem State.startDie_kept (s : State) (f : StartFindings) (d : DieId) (h : Kept q o s) :
    Kept q o (State.startDie s f d) := by
  unfold State.startDie
  simp (maxDischargeDepth := 30) (contextual := true) only [kept_ite, implies_true, State.modDie_kept, State.markOut_kept,
    State.trainDie_kept, *]

@[simp] theorem State.joinRing_kept (s : State) (h : Kept q o s) :
    Kept q o (State.joinRing s) := by
  unfold State.joinRing
  simp (maxDischargeDepth := 30) (contextual := true) only [kept_forAll, implies_true, State.modDie_kept, *]

@[simp] theorem State.rebuildBindings_kept (s : State) (h : Kept q o s) :
    Kept q o (State.rebuildBindings s) := by
  unfold State.rebuildBindings
  simp (maxDischargeDepth := 30) (contextual := true) only [kept_mk, kept_forAll, implies_true, State.setEntry_kept, *]

@[simp] theorem State.requeueTasks_kept (s : State) (h : Kept q o s) :
    Kept q o (State.requeueTasks s) := by
  unfold State.requeueTasks
  simp (maxDischargeDepth := 30) (contextual := true) only [kept_forAll, implies_true, State.modEngine_kept, *]

@[simp] theorem State.failSample_kept (s : State) (b : Nat) (h : Kept q o s) :
    Kept q o (State.failSample s b) := by
  unfold State.failSample
  simp (maxDischargeDepth := 30) (contextual := true) only [kept_ite, implies_true, State.modBank_kept, State.evalClass_kept,
    State.queueRefresh_kept, *]

@[simp] theorem State.checkWeights_kept (s : State) (f : StartFindings) (h : Kept q o s) :
    Kept q o (State.checkWeights s f) := by
  unfold State.checkWeights
  simp (maxDischargeDepth := 30) (contextual := true) only [kept_mk, kept_ite, kept_forAll, implies_true, State.raise_kept,
    State.rebuildBindings_kept, State.requeueTasks_kept, State.failSample_kept, *]

@[simp] theorem State.awaitCal_kept (s : State) (e : EngineId) (t : Task) (h : Kept q o s) : Kept q o (s.awaitCal e t) := by
  unfold State.awaitCal
  simp only [kept_mk, *]

@[simp] theorem State.failBankPart_kept (s : State) (b : Nat) (h : Kept q o s) :
    Kept q o (State.failBankPart s b) := by
  unfold State.failBankPart
  simp (maxDischargeDepth := 30) (contextual := true) only [kept_ite, implies_true, State.modEngine_kept, State.modBank_kept,
    State.event_kept, State.awaitCal_kept, *]

@[simp] theorem State.recalibrate_kept (s : State) (e : EngineId) (h : Kept q o s) :
    Kept q o (State.recalibrate s e) := by
  unfold State.recalibrate
  simp (maxDischargeDepth := 30) (contextual := true) only [kept_ite, implies_true, State.modEngine_kept, *]

@[simp] theorem State.failEnginePart_kept (s : State) (e : EngineId) (h : Kept q o s) :
    Kept q o (State.failEnginePart s e) := by
  unfold State.failEnginePart
  simp (maxDischargeDepth := 30) (contextual := true) only [kept_ite, implies_true, State.event_kept, State.recalibrate_kept,
    State.awaitCal_kept, *]

@[simp] theorem State.reloadCoefficients_kept (s : State) (h : Kept q o s) :
    Kept q o (State.reloadCoefficients s) := by
  unfold State.reloadCoefficients
  simp (maxDischargeDepth := 30) (contextual := true) only [kept_mk, *]

@[simp] theorem State.startMemory_kept (s : State) (f : StartFindings) (h : Kept q o s) :
    Kept q o (State.startMemory s f) := by
  unfold State.startMemory
  refine State.event_kept _ _ _ (kept_mk (kept_forAll _ (fun s d hs => State.modDie_kept _ _ _ hs) _ _ (State.reloadCoefficients_kept _ ?_))
    _ _ _ _ _ _ _ _ _ _ _ _ _ _ _ _ _ _ _ _ _ _ _ _ _ rfl)
  simp (maxDischargeDepth := 30) (contextual := true) only [h, kept_forAll, State.recalibrate_kept, State.failEnginePart_kept,
    State.failBankPart_kept, State.activateRecords_kept, implies_true]

@[simp] theorem State.finishStart_kept (s : State) (ms : Nat) (h : Kept q false s) : Kept q false (State.finishStart s ms) := by
  unfold State.finishStart
  obtain ⟨h1, h2, h3, h4, h5⟩ := State.raise_kept _ 0x8030 deviceHandle (eventParam 0 ms) 0xFFFF
    (kept_mk h (s.now + 800000 * ms) s.toward s.tiles s.engines s.banks s.dies s.globals s.fabric s.agents s.lpddrFixed s.frame s.weights s.prog s.hd
      s.rcl s.kv s.ingress s.ecat s.pwr s.svc s.sec s.pcie s.dict s.test s.free rfl)
  exact ⟨h1, h2, h3, fun e => absurd e (by simpa using h2), h5⟩

theorem State.startHardware_fine (s : State) (f : StartFindings) (hs : s.Sound) (hv : s.vin = true) (hr : s.porst = false) :
    (State.startHardware s f).pending = s.pending ∧ (State.startHardware s f).Sound := by
  have h0 := Kept.start hs
  generalize hq : (s.pending, s.vin && !s.porst) = q' at h0
  generalize decide (s.power = .off) = o' at h0
  have h1 : Kept q' o' ((((forAll allDies (fun s d => s.startDie f d) s).joinRing).checkWeights f).startMemory f) := by
    simp (maxDischargeDepth := 30) (contextual := true) only [h0, kept_forAll, State.startDie_kept, State.joinRing_kept,
      State.checkWeights_kept, State.startMemory_kept, implies_true]
  unfold State.startHardware
  dsimp only
  generalize (((forAll allDies (fun s d => s.startDie f d) s).joinRing).checkWeights f).startMemory f = x at h1 ⊢
  obtain ⟨h2, h3, h4, h5, h6⟩ := h1
  have h7 : x.pending = s.pending := by rw [← hq] at h2; exact congrArg Prod.fst h2
  have h8 : (x.vin && !x.porst) = true := by
    rw [← hq] at h2
    have h9 := congrArg Prod.snd h2
    simpa [hv, hr] using h9
  simp only [Bool.and_eq_true, Bool.not_eq_true'] at h8
  have h9 : Kept (x.pending, x.vin && !x.porst) false { x with power := PState.idle } :=
    ⟨rfl, rfl, fun e => by simp [h8] at e, fun e => by simp at e, h6⟩
  rw [← h7]
  split
  · exact (State.finishStart_kept _ _ h9).fine
  · exact (kept_mk h9 _ _ _ _ _ _ _ _ _ _ _ _ _ _ _ _ _ _ _ _ _ _ _ _ _ rfl).fine

theorem State.startIsland_fine (s : State) (f : StartFindings) (hs : s.Sound) (hv : s.vin = true) (hr : s.porst = false) :
    (State.startIsland s f).pending = s.pending ∧ (State.startIsland s f).Sound := by
  have h0 : Kept (s.pending, s.vin && !s.porst) (decide (s.power = .off)) { s with sec := s.sec.leaveError } :=
    kept_mk (Kept.start hs) _ _ _ _ _ _ _ _ _ _ _ _ _ _ _ _ _ _ _ _ _ _ _ _ _ (by unfold Security.leaveError; split <;> rfl)
  unfold State.startIsland
  dsimp only
  split
  · apply Kept.fine (o := decide (s.power = .off))
    apply State.haltStart_kept
    exact kept_mk h0 _ _ _ _ _ _ _ _ _ _ _ _ _ _ _ _ _ _ _ _ _ _ _ _ _ rfl
  · generalize hx : (if s.sec.leaveError.testReport = true then _ else _ : State) = x
    have h1 : Kept (s.pending, s.vin && !s.porst) (decide (s.power = .off)) x := by
      rw [← hx]
      exact kept_ite (fun _ => State.event_kept _ _ _ (kept_mk h0 _ _ _ _ _ _ _ _ _ _ _ _ _ _ _ _ _ _ _ _ _ _ _ _ _ rfl)) (fun _ => h0)
    split
    · rename_i y e
      have h2 := State.secureBoot_kept x f h1 y e
      have h3 := h2.1
      simp only [Prod.mk.injEq, hv, hr, Bool.not_false, Bool.and_self, Bool.and_eq_true, Bool.not_eq_true'] at h3
      have h4 := State.startHardware_fine y f h2.sound h3.2.1 h3.2.2
      exact ⟨h4.1.trans h3.1, h4.2⟩
    · exact (State.haltStart_kept _ (State.noImage_kept _ h1)).fine

theorem execColdStart_fine (f : StartFindings) (s : State) (h : s.Sound) : Fine s (execColdStart f s) := by
  unfold execColdStart
  split
  · exact fine_next rfl h
  · rename_i h0
    simp only [ne_eq, Bool.not_eq_true, not_or, Decidable.not_not, Bool.not_eq_eq_eq_not, Bool.not_true, Bool.not_eq_false] at h0
    obtain ⟨hp, hv⟩ := h0
    split
    · have h1 := State.completeLevelThree_kept _ (State.reportTrip_kept _ (State.releaseReset_kept s f h hp hv))
      have h2 := h1.1
      simp only [Prod.mk.injEq, Bool.and_eq_true, Bool.not_eq_true'] at h2
      have h3 := State.startIsland_fine _ f h1.sound h2.2.1 h2.2.2
      exact fine_next (h3.1.trans h2.1) h3.2
    · rename_i hr
      split
      · have h3 := State.startIsland_fine s f h hv (by simpa using hr)
        exact fine_next h3.1 h3.2
      · exact fine_next rfl h

@[simp] theorem State.restoreUnits_kept (s : State) (h : Kept q o s) :
    Kept q o (State.restoreUnits s) := by
  unfold State.restoreUnits
  have h1 : Kept q o (forAll (List.range 16) (fun s k => match s.acceptedOctets (0x297001 + k) with
    | [] => s
    | b => s.modContext k fun x => { x with settings := ImgSettings.ofRecord b }) { s with hd := { s.hd with
      settings := s.restoredHd, written := s.restoredHd, listSettings := s.restoredHd
      lists := (List.range 16).foldl (fun m k => match s.acceptedOctets (0x250301 + k) with
        | [] => m
        | b => mset HdList.zero m k (HdList.parse b)) [] } }) := by
    refine kept_forAll _ (fun s k hs => ?_) _ _ (kept_mk h _ _ _ _ _ _ _ _ _ _ _ _ _ _ _ _ _ _ _ _ _ _ _ _ _ rfl)
    split
    · exact hs
    · exact State.modContext_kept _ _ _ hs
  dsimp only
  split
  · exact h1
  · exact State.hubWrite_kept _ _ _ _ h1

@[simp] theorem State.restoreSettings_kept (s : State) (h : Kept q o s) :
    Kept q o (State.restoreSettings s) := by
  unfold State.restoreSettings
  simp (maxDischargeDepth := 30) (contextual := true) only [kept_mk, State.restoreUnits_kept, *]

@[simp] theorem State.takeBoot_kept (s : State) (h : Kept q o s) :
    Kept q o (State.takeBoot s) := by
  unfold State.takeBoot
  refine kept_forAll _ (fun s k hs => ?_) _ _ (kept_mk (kept_foldl _ (fun s c hs => State.placeData_kept _ _ hs) _ _
    (kept_foldl _ (fun s c hs => State.placeData_kept _ _ hs) _ _ h)) _ _ _ _ _ _ _ _ _ _ _ _ _ _ _ _ _ _ _ _ _ _ _ _ _ rfl)
  split
  · exact State.applyEni_kept _ _ _ hs
  · exact hs

theorem execBootSetRestore_kept (s : State) (h : Kept q o s) : KeptO q o (execBootSetRestore s) := by
  unfold execBootSetRestore
  split
  · exact keptO_next h
  · rename_i hp
    have ho : o = false := by simpa [hp] using h.2.1.symm
    subst ho
    split
    · exact keptO_next h
    · have h1 : Kept q false (if s.svc.boot.present = true then s.restoreSettings else s) :=
        kept_ite (fun _ => State.restoreSettings_kept _ h) (fun _ => h)
      exact keptO_next (State.finishStart_kept _ _
        (kept_ite (fun _ => State.takeBoot_kept _ h1) (fun _ => State.raise_kept _ _ _ _ _ h1)))

@[simp] theorem execWakeNEdge_kept (s : State) (h : Kept q o s) :
    KeptO q o (execWakeNEdge s) := by
  unfold execWakeNEdge
  refine keptO_next ?_
  simp (maxDischargeDepth := 30) (contextual := true) only [kept_mk, kept_ite, implies_true, State.acceptSetting_kept, *]

@[simp] theorem State.reloadRoutines_kept (s : State) (h : Kept q o s) :
    Kept q o (State.reloadRoutines s) := by
  unfold State.reloadRoutines
  simp (maxDischargeDepth := 30) (contextual := true) only [kept_mk, kept_foldl, implies_true, State.placeData_kept, *]

theorem execDozeWake_kept (s : State) (h : Kept q o s) : KeptO q o (execDozeWake s) := by
  unfold execDozeWake
  split
  · rename_i p hp ht
    have ho : o = false := by simpa [hp] using h.2.1.symm
    subst ho
    have h1 : Kept q false (forAll allDies (fun s d => s.modDie d Die.wake) s.reloadRoutines.takeEnis.requeueTasks) := by
      simp (maxDischargeDepth := 30) (contextual := true) only [h, kept_forAll, State.modDie_kept, State.requeueTasks_kept,
        State.takeEnis_kept, State.reloadRoutines_kept, implies_true]
    generalize hx : forAll allDies (fun s d => s.modDie d Die.wake) s.reloadRoutines.takeEnis.requeueTasks = x at h1
    have h2 : ∀ g, Kept q false { x with pcie := g } :=
      fun g => kept_mk h1 _ _ _ _ _ _ _ _ _ _ _ _ _ _ _ _ _ _ _ _ _ g _ _ _ rfl
    dsimp only
    rw [hx]
    split
    · exact keptO_next (kept_power (h2 _) .idle (by decide) x.toward)
    · exact keptO_next (State.enter_kept _ .idle (h2 _) (by decide))
  · exact keptO_next h

end Sys2Proof.Machine
end

