-- ==== Sys2Proof/Laws/Request.lean ====
section
/-!
SUPPORT. Laws of dictionary accesses (R422, R464, R496): when an access has its effect, when it ends with an abort code and
nothing else, and when it does not reach the dictionary at all.
-/
namespace Sys2Proof.Machine

variable {s : State} {c : Channel} {checks : List (Bool × W32)} {f : State → State} {data : List Byte}

/-- A write with no check against it has its effect and ends without an abort code. -/
theorem request_ok (h : Takes s c) (hc : checks.find? (fun p => p.1) = none) : s.request c checks f = (f s).answer c 0 [] := by
  obtain ⟨⟨h1, h2⟩, h3⟩ := h
  unfold State.request
  simp [h1, h2, h3, hc]

/-- The first check that holds names the abort code; nothing but the answer changes. -/
theorem request_abort {b : Bool} {a : W32} (h : Takes s c) (hc : checks.find? (fun p => p.1) = some (b, a)) :
    s.request c checks f = s.answer c a [] := by
  obtain ⟨⟨h1, h2⟩, h3⟩ := h
  unfold State.request
  simp [h1, h2, h3, hc]

theorem request_wiped (h : Serves s c) (hw : s.wiped = true) : s.request c checks f = s.answer c 0x08000022 [] := by
  obtain ⟨h1, h2⟩ := h
  unfold State.request
  simp [h1, h2, hw]

theorem request_restarting (h : s.serves c = true) (hr : s.svc.restarting = true) :
    s.request c checks f = s.answer c 0x08000020 [] := by
  unfold State.request
  simp [h, hr]

theorem request_absent (h : s.serves c = false) : s.request c checks f = s := by
  unfold State.request
  simp [h]

/-- The same for the writes that a level-3 alarm leaves open. -/
theorem requestOpen_ok (h : Serves s c) (hc : checks.find? (fun p => p.1) = none) :
    s.requestOpen c checks f = (f s).answer c 0 [] := by
  obtain ⟨h1, h2⟩ := h
  unfold State.requestOpen
  simp [h1, h2, hc]

theorem requestOpen_abort {b : Bool} {a : W32} (h : Serves s c) (hc : checks.find? (fun p => p.1) = some (b, a)) :
    s.requestOpen c checks f = s.answer c a [] := by
  obtain ⟨h1, h2⟩ := h
  unfold State.requestOpen
  simp [h1, h2, hc]

/-- A read with no check against it answers its data. -/
theorem fetch_ok (h : Serves s c) (hc : checks.find? (fun p => p.1) = none) :
    s.fetch c checks data f = (f s).answer c 0 data := by
  obtain ⟨h1, h2⟩ := h
  unfold State.fetch
  simp [h1, h2, hc]

theorem fetch_abort {b : Bool} {a : W32} (h : Serves s c) (hc : checks.find? (fun p => p.1) = some (b, a)) :
    s.fetch c checks data f = s.answer c a [] := by
  obtain ⟨h1, h2⟩ := h
  unfold State.fetch
  simp [h1, h2, hc]

/-- An answer touches nothing but the answers of the dictionary. -/
theorem State.answer_frame (s : State) (c : Channel) (a : W32) (d : List Byte) :
    s.answer c a d = { s with dict := (s.answer c a d).dict } := by
  cases c <;> rfl

end Sys2Proof.Machine
end

