-- ==== Sys2Proof/Tests/Slice0.lean ====
section
/-!
SUPPORT. Small tests: a state and operands that meet the hypotheses of each statement, an ill-formed term for each check of
Instr.wf, the worked examples of spec/, and single commands.
-/
set_option maxRecDepth 20000
set_option Elab.async false
set_option linter.unusedVariables false
namespace Sys2Proof
open Sys2Proof.Machine

/-- Tile 0 runs its routine on a powered die. -/
def Tests.running : State :=
  { (State.reset.setTile 0 { Tile.init with running := true }).modDie 0 (fun d => { d with powered := true }) with power := .run }
def Tests.word : WordTag := ⟨false, false, 0, true, false, 0⟩
def Tests.entry : FormatEntry := ⟨8, true, false, false, 0, 0x3F800000, 0x42FE0000, 0x3F800000⟩
/-- One descriptor of each kind. -/
def Tests.descs : List MoveDesc :=
  [⟨.move, false, 2, tileHandle 1, 100, [], .own, 5, 2⟩, ⟨.load, false, 2, 0, 0, [], .own, 5, 1⟩, ⟨.store, false, 2, 0, 0, [], .own, 5, 1⟩,
   ⟨.hload, false, 2, 0, 0x800000, [], .own, 5, 1⟩, ⟨.hstore, false, 2, 0, 0x800000, [], .own, 5, 1⟩,
   ⟨.ticket, false, 2, tileHandle 0, 100, [], .own, 5, 1⟩, ⟨.ticket, false, 2, tileHandle 1, 100, [], .own, 5, 1⟩]
/-- A container with one format entry, one descriptor of each kind and one variant group. -/
def Tests.container : Container :=
  { magic := 0, major := 1, minor := 0, continuity := false, copyIndex := 0, programmeId := 1, modelDigest := 0, digest := 0
    frameTs := 1, flipTs := 2, commitTs := 3, placements := [], code := [], formats := [Tests.entry], strides := []
    descs := Tests.descs, variants := [⟨[(9, 2)], []⟩], groupSlots := [], groups := [], throttle := [], bands := [], dataRows := [], stats := []
    shapeOk := true }
/-- Tile 0 runs a word of that container. -/
def Tests.programmed : State := { Tests.running with prog := { Tests.running.prog with running := some Tests.container, areaBase := 0, areaSize := 4096 } }
/-- Its word is a wait-until on turnstile 5 of its own tile, value 1. -/
def Tests.waiting : State :=
  { Tests.running with prog := { Tests.running.prog with running := some { Tests.container with
    placements := [⟨tileHandle 0, 0, 1, 0, 0, 0, 0, 0, []⟩], code := [0x60028001 <<< 192] } } }
/-- List 0 runs, and its one command is BIND of h6 and h7 into h5 at 8,192 bits. -/
def Tests.listed : State :=
  { Tests.running with
    hub := Tests.running.hub.write 0x600000 (leBytes 16 (0x02 * 2 ^ 120 + 2 * 2 ^ 118 + 5 * 2 ^ 113 + 6 * 2 ^ 108 + 7 * 2 ^ 103))
    hd := { Tests.running.hd with running := some 0, listEntry := ⟨0x600000, 1, 0, 0, 1, true, 0⟩ } }
/-- Every module of die 0 is up, at Goine 1.2. -/
def Tests.linked : State :=
  Tests.running.modDie 0 fun d => { d with modulesUp := [true, true, true, true], goineVersion := some 0x0102 }
/-- A granted write of the gather unit and one of the forwarder. -/
def Tests.gatherWrite : AgentWrite := ⟨1, 0x102, 0, 40, [Row.zero], .none, true, 0⟩
def Tests.blockWrite : AgentWrite := ⟨1, 0x100, 0, 40, [Row.zero], .none, true, 1⟩
/-- An output map entry: 4 bytes of row 9 of tile 0 to offset 2 of segment 1, done turnstile 7. -/
def Tests.outMap : List Byte := [1, 0, 2, 0, 4, 0, 9, 0, 0, 0, 8, 3, 3, 7, 1, 0]
/-- Both channels reach the dictionary; the Crypto Officer is authenticated on P3. -/
def Tests.served : State :=
  { Tests.running with
    ecat := { Tests.running.ecat with p3 := .op }
    svc := { Tests.running.svc with slotA := ⟨true, 0x0100, 0⟩, slotB := ⟨true, 0x0101, 0⟩ }
    pcie := { Tests.running.pcie with link := true, ready := true, perst := false }
    sec := { Tests.running.sec with state := .operational, p3 := { Tests.running.sec.p3 with role := some .officer } } }
/-- Segment 2 awaits its frame. -/
def Tests.seg (f : Segment → Segment) : State := Tests.served.modSegment 2 f
def Tests.eni : Eni := ⟨true, 1000, 10, 20, 30, true, []⟩
def Tests.trailer (p : Nat) : Trailer := ⟨p, 1, true, true, true⟩
def Tests.record : BlockRecord := ⟨engineHandle 0, 7, .binary, 3, none, [], [], [], [], [], [], [], true, []⟩
def Tests.stuck : StuckEntry := ⟨5, 1, 2, 16, 1, 0, 9⟩
/-- Bank 5 of engine 0 is live with block 7, and its rewrite is queued. -/
def Tests.refreshable : State :=
  let s := (Tests.running.modBank 5 fun k => { k with state := .live, block := 7, source := 1 }).modEngine 0 fun g => { g with tasks := [.refresh 5] }
  { s with weights := { s.weights with residents := [⟨0, Tests.record, 0⟩] } }
def Tests.group : GroupDesc := ⟨4095, 3, false, false, 0, [tileHandle 3, tileHandle 200]⟩
def Tests.image : Image := ⟨0, 1, 4, 0, 0, [], [], true, true, 128⟩
/-- A plan without entries for die d. -/
def Tests.plan (d : DieId) : Plan := ⟨dieHandle d, 0, 0, 0, 0, []⟩
/-- Die 15 is out, and the plan for it may be selected by hand. -/
def Tests.planned : State :=
  let s := (Tests.served.acceptSetting 0x230007 1).modDie 15 fun d => { d with out := true }
  { s with weights := { s.weights with plans := [Tests.plan 15], plansStale := false, residentPresent := true } }
/-- A container that every load check passes. -/
def Tests.goodContainer : Container :=
  { Tests.container with
    magic := 0x43524841, major := 2, minor := 3, formats := [], descs := [], variants := [] }
def Tests.logEntry : LogEntry := ⟨0x4055, 0, deviceHandle, 0, 0, 0, 0, 0, false, false⟩
def Tests.logged : State :=
  { Tests.served with svc := { Tests.served.svc with log := [Tests.logEntry], readable := some 0, nextSeq := 1 } }
/-- Window 7 names tile 3. -/
def Tests.windowed : State := { Tests.served with dict := { Tests.served.dict with windows := Tests.served.dict.windows.set 7 (tileHandle 3) } }
/-- A User is authenticated on P3. -/
def Tests.asUser : State := Tests.served.setAuth .p3 { Tests.served.sec.p3 with role := some .user }
/-- Both anchors are there, and P3 holds a challenge. -/
def Tests.challenged : State :=
  let s := Tests.served.setAuth .p3 { Auth.init with nonce := some 7 }
  { s with sec := { s.sec with officer := some 1, user := some 2 } }
/-- A device that is not enrolled yet, and a token for it. -/
def Tests.fresh : State :=
  { Tests.served with sec := { Tests.served.sec with state := .unprovisioned, p3 := Auth.init } }
def Tests.token : Token := ⟨Tests.trailer 5, 0, 9⟩
/-- VIN is present; PORST_N holds the device in Off. -/
def Tests.held : State := { State.reset with vin := true, porst := true }
def Tests.findings : StartFindings := ⟨true, true, true, [], [], [], [], [], true, [], [], [], true, 90, 0⟩

/-- A scan of bank 5 that has measured row 0 again. -/
def Tests.scan : Scan := ⟨5, 2112, [[100000]], [0], [[1000000]]⟩
def Tests.scanning : State :=
  (Tests.running.modBank 5 fun k => { k with state := .pending, fset := some 2 }).modEngine 0 fun g => { g with scan := some Tests.scan }

/-- Phase 3 is learned at 3.9 W on every channel, and the channel of die 15 takes no power when idle. -/
def Tests.phased (target : Rat) : State :=
  { Tests.running with pwr := { Tests.running.pwr with
    target := target, chans := [(16, { Chan.init with factor := 0 })]
    phases := [(3, { Phase.zero with learned := true, mean := List.replicate 18 1000 })] } }
theorem Tests.phased_idle (target : Rat) : (Tests.phased target).idlePower ((15 : DieId).val + 1) = 0 := by
  unfold State.idlePower
  exact Rat.mul_zero _
theorem Tests.phased_limit : (Tests.phased 100000).phaseLimit 15 3 = (16, true) := by
  unfold State.phaseLimit
  rw [Tests.phased_idle]
  decide +kernel
theorem Tests.phased_floor : (Tests.phased 0).phaseLimit 15 3 = ((Tests.phased 0).setting 0x210004, false) := by
  unfold State.phaseLimit
  rw [Tests.phased_idle]
  decide +kernel

/-! ### Witnesses: hypotheses that a state and operands meet -/
theorem Tests.witness_EmptyQueueIdles_0 :
    ∃ s : State, s.pending = [] :=
  ⟨State.reset, by decide⟩
theorem Tests.witness_SoundAlways_0 :
    ∃ s t : State, s.Sound ∧ step s = .next t :=
  ⟨{ State.reset with pending := [.vinApply] }, State.reset, ⟨by decide, by decide, by decide⟩, rfl⟩
theorem Tests.witness_OneCommandAStep_0 :
    ∃ s t : State, s.Sound ∧ step s = .next t :=
  ⟨{ State.reset with pending := [.vinApply] }, State.reset, ⟨by decide, by decide, by decide⟩, rfl⟩
theorem Tests.witness_OffIsLeftByColdStart_0 :
    ∃ (i : Instr) (s t : State), s.Sound ∧ s.power = .off ∧ exec i s = .next t ∧ t.power ≠ .off :=
  ⟨.coldStart Tests.findings, { State.reset with svc := { State.reset.svc with slotA := ⟨true, 0x0100, 0⟩ } }, _, ⟨by decide +kernel, by decide +kernel, by decide +kernel⟩, by decide +kernel, rfl, by decide +kernel⟩
theorem Tests.witness_OffIsEnteredBy_0 :
    ∃ (i : Instr) (s t : State), s.Sound ∧ s.power ≠ .off ∧ exec i s = .next t ∧ t.power = .off :=
  ⟨.thermalTrip 3, { Tests.running with porst := false }, _, ⟨by decide +kernel, by decide +kernel, by decide +kernel⟩, by decide +kernel, rfl, by decide +kernel⟩
theorem Tests.witness_VecArithmetic_0 :
    ∃ (s : State) (t : TileId) (w : WordTag), Acts s t w :=
  ⟨Tests.running, 0, Tests.word, by decide⟩
theorem Tests.witness_VecArithmetic_1 :
    ∃ (s : State) (t : TileId) (w : WordTag), Acts s t w :=
  ⟨Tests.running, 0, Tests.word, by decide⟩
theorem Tests.witness_VecInteger_0 :
    ∃ (s : State) (t : TileId) (w : WordTag) (f : VFmt), Acts s t w ∧ VFmt.isInt f = true :=
  ⟨Tests.running, 0, Tests.word, .int16, by decide⟩
theorem Tests.witness_VecOneSource_0 :
    ∃ (s : State) (t : TileId) (w : WordTag) (f : VFmt), Acts s t w ∧ f ≠ .int8 :=
  ⟨Tests.running, 0, Tests.word, .int16, by decide⟩
theorem Tests.witness_VecOneSource_1 :
    ∃ (s : State) (t : TileId) (w : WordTag) (f : VFmt), Acts s t w ∧ VFmt.isInt f = false :=
  ⟨Tests.running, 0, Tests.word, .bf16, by decide⟩
theorem Tests.witness_VecOneSource_2 :
    ∃ (s : State) (t : TileId) (w : WordTag), Acts s t w :=
  ⟨Tests.running, 0, Tests.word, by decide⟩
theorem Tests.witness_HdVectors_0 :
    ∃ (s : State) (o : HdOrigin),
      HdIssues s o (.hdNop o) :=
  ⟨Tests.running, .host, ⟨by decide, rfl, by decide, by decide⟩⟩
theorem Tests.witness_HdVectors_1 :
    ∃ (s : State) (o : HdOrigin) (w : HdWidth) (d : Fin 32) (id : W32) (slot : Fin 4),
      HdIssues s o (.gen o w d id slot) ∧
      HdOrigin.regOk o d = true ∧
      id ≠ tieId :=
  ⟨Tests.running, .host, .w4096, 24, 5, 1, ⟨by decide, rfl, by decide, by decide⟩, by decide, by decide⟩
theorem Tests.witness_HdVectors_2 :
    ∃ (s : State) (o : HdOrigin) (w : HdWidth) (d a b : Fin 32),
      HdIssues s o (.bind o w d a b) ∧
      HdOrigin.regOk o d = true ∧
      HdOrigin.regOk o a = true ∧
      HdOrigin.regOk o b = true :=
  ⟨Tests.running, .host, .w2048, 24, 25, 31, ⟨by decide, rfl, by decide, by decide⟩, by decide, by decide, by decide⟩
theorem Tests.witness_HdVectors_2b :
    ∃ (s : State) (n : Fin 16) (w : HdWidth) (d a b : Fin 32), HdIssues s (.list n) (.bind (.list n) w d a b) ∧
      HdOrigin.regOk (.list n) d = true ∧ HdOrigin.regOk (.list n) a = true ∧ HdOrigin.regOk (.list n) b = true :=
  ⟨Tests.listed, 0, .w8192, 5, 6, 7, ⟨by decide, rfl, by decide, by decide, by decide +kernel⟩, by decide, by decide, by decide⟩
theorem Tests.witness_HdVectors_3 :
    ∃ (s : State) (o : HdOrigin) (w : HdWidth) (d a : Fin 32),
      HdIssues s o (.not o w d a) ∧
      HdOrigin.regOk o d = true ∧
      HdOrigin.regOk o a = true :=
  ⟨Tests.running, .host, .w8192, 24, 24, ⟨by decide, rfl, by decide, by decide⟩, by decide, by decide⟩
theorem Tests.witness_HdVectors_4 :
    ∃ (s : State) (o : HdOrigin) (w : HdWidth) (d a : Fin 32),
      HdIssues s o (.hdCopy o w d a) ∧
      HdOrigin.regOk o d = true ∧
      HdOrigin.regOk o a = true :=
  ⟨Tests.running, .host, .w8192, 24, 25, ⟨by decide, rfl, by decide, by decide⟩, by decide, by decide⟩
theorem Tests.witness_HdVectors_5 :
    ∃ (s : State) (o : HdOrigin) (w : HdWidth) (d a : Fin 32) (k : BitVec 13),
      HdIssues s o (.hdRot o w d a k) ∧
      HdOrigin.regOk o d = true ∧
      HdOrigin.regOk o a = true ∧
      k.toNat < HdWidth.bits w :=
  ⟨Tests.running, .host, .w2048, 24, 25, 2047, ⟨by decide, rfl, by decide, by decide⟩, by decide, by decide, by decide⟩
theorem Tests.witness_HdVectors_6 :
    ∃ (s : State) (o : HdOrigin) (w : HdWidth) (d a : Fin 32) (c : Fin 8) (inverse : Bool),
      HdIssues s o (.car o w d a c inverse) ∧
      HdOrigin.regOk o d = true ∧
      HdOrigin.regOk o a = true :=
  ⟨Tests.running, .host, .w2048, 24, 25, 7, true, ⟨by decide, rfl, by decide, by decide⟩, by decide, by decide⟩
theorem Tests.witness_HdVectors_7 :
    ∃ (s : State) (o : HdOrigin) (w : HdWidth) (d : Fin 32) (hbo : W32),
      HdIssues s o (.loadv o w d hbo) ∧
      HdOrigin.regOk o d = true ∧
      hbo.toNat % 32 = 0 ∧
      hdReadOk hbo.toNat (HdWidth.bits w / 8) = true :=
  ⟨Tests.running, .host, .w8192, 24, 0x67FC00, ⟨by decide, rfl, by decide, by decide⟩, by decide, by decide, by decide⟩
theorem Tests.witness_HdVectors_8 :
    ∃ (s : State) (o : HdOrigin) (w : HdWidth) (a : Fin 32) (hbo : W32),
      HdIssues s o (.storev o w a hbo) ∧
      HdOrigin.regOk o a = true ∧
      hbo.toNat % 32 = 0 ∧
      hdWriteOk hbo.toNat (HdWidth.bits w / 8) = true :=
  ⟨Tests.running, .host, .w8192, 24, 0x67FC00, ⟨by decide, rfl, by decide, by decide⟩, by decide, by decide, by decide⟩
theorem Tests.witness_HdVectors_9 :
    ∃ (s : State) (o : HdOrigin) (w : HdWidth) (d : Fin 32) (fmt : SignFmt) (hbo : W32),
      HdIssues s o (.sign o w d fmt hbo) ∧
      HdOrigin.regOk o d = true ∧
      hbo.toNat % 32 = 0 ∧
      hdReadOk hbo.toNat (HdWidth.bits w * signBytes fmt) = true :=
  ⟨Tests.running, .host, .w8192, 24, .int16, 0x67C000, ⟨by decide, rfl, by decide, by decide⟩, by decide, by decide, by decide⟩
theorem Tests.witness_HdBundles_0 :
    ∃ (s : State) (o : HdOrigin) (acc : Fin 4),
      HdIssues s o (.bclr o acc) ∧
      HdOrigin.accOk o acc = true :=
  ⟨Tests.running, .host, 3, ⟨by decide, rfl, by decide, by decide⟩, by decide⟩
theorem Tests.witness_HdBundles_1 :
    ∃ (s : State) (o : HdOrigin) (w : HdWidth) (acc : Fin 4) (a : Fin 32) (weight : Byte) (subtract : Bool) (b : HAcc × Bool),
      HdIssues s o (.badd o w acc a weight subtract) ∧
      HdOrigin.accOk o acc = true ∧
      HdOrigin.regOk o a = true ∧
      weight ≠ 0 ∧
      (b = (s.hacc acc).bundle (HdWidth.bits w) (s.hreg a).bits (if subtract then -(weight.toNat : Int) else weight.toNat) (s.hreg a).poison) :=
  ⟨Tests.running, .host, .w2048, 3, 24, 255, true, _, ⟨by decide, rfl, by decide, by decide⟩, by decide, by decide, by decide, rfl⟩
theorem Tests.witness_HdBundles_2 :
    ∃ (s : State) (o : HdOrigin) (w : HdWidth) (acc : Fin 4) (x y : Fin 32) (weight : Byte) (subtract : Bool) (b : HAcc × Bool),
      HdIssues s o (.baddx o w acc x y weight subtract) ∧
      HdOrigin.accOk o acc = true ∧
      HdOrigin.regOk o x = true ∧
      HdOrigin.regOk o y = true ∧
      weight ≠ 0 ∧
      (b = (s.hacc acc).bundle (HdWidth.bits w) ((s.hreg x).bits ^^^ (s.hreg y).bits) (if subtract then -(weight.toNat : Int) else weight.toNat)
      ((s.hreg x).poison || (s.hreg y).poison)) :=
  ⟨Tests.running, .host, .w2048, 3, 24, 25, 1, false, _, ⟨by decide, rfl, by decide, by decide⟩, by decide, by decide, by decide, by decide, rfl⟩
theorem Tests.witness_HdBundles_3 :
    ∃ (s : State) (o : HdOrigin) (w : HdWidth) (d : Fin 32) (slot : Fin 16) (hbo : W32) (e : Encoder) (q : Nat) (free : Bool),
      HdIssues s o (.level o w d slot hbo) ∧
      HdOrigin.regOk o d = true ∧
      e = mget Encoder.zero (s.hdInForce o).encoders slot.val ∧
      hbo.toNat % e.bytes = 0 ∧
      hdReadOk hbo.toNat e.bytes = true ∧
      s.levelOf e hbo.toNat = (q, false, free) :=
  ⟨Tests.running, .host, .w2048, 24, 15, 64, _, 0, false, ⟨by decide, rfl, by decide, by decide⟩, by decide, rfl, by decide +kernel, by decide +kernel, by decide +kernel⟩
theorem Tests.witness_HdBundles_4 :
    ∃ (s : State) (o : HdOrigin) (w : HdWidth) (d : Fin 32) (slot : Fin 16) (hbo : W32) (e : Encoder),
      HdIssues s o (.level o w d slot hbo) ∧
      HdOrigin.regOk o d = true ∧
      e = mget Encoder.zero (s.hdInForce o).encoders slot.val ∧
      hbo.toNat % e.bytes = 0 ∧
      hdReadOk hbo.toNat e.bytes = true ∧
      (fp32.decode (e.toFp (leNat (s.hub.read hbo.toNat e.bytes))) = .nan ∨ s.hub.anyPoison hbo.toNat e.bytes = true) :=
  ⟨{ Tests.running with hub := { Tests.running.hub with poison := [(8, true)] } }, .host, .w2048, 24, 15, 64, _, ⟨by decide, rfl, by decide, by decide⟩, by decide, rfl, by decide +kernel, by decide +kernel, by decide +kernel⟩
theorem Tests.witness_HdBundles_5 :
    ∃ (s : State) (o : HdOrigin) (w : HdWidth) (d a : Fin 32) (acc : Fin 4) (m : Fin 16) (r : BitVec 13),
      HdIssues s o (.seq o w d a acc m r false) ∧
      HdOrigin.regOk o d = true ∧
      HdOrigin.regOk o a = true ∧
      a.val + m.val < 32 ∧
      HdOrigin.regOk o (regPlus a m.val) = true :=
  ⟨Tests.running, .host, .w2048, 24, 24, 3, 7, 1, ⟨by decide, rfl, by decide, by decide⟩, by decide, by decide, by decide, by decide⟩
theorem Tests.witness_HdBundles_6 :
    ∃ (s : State) (o : HdOrigin) (w : HdWidth) (d a : Fin 32) (acc : Fin 4) (m : Fin 16) (r : BitVec 13) (s1 : State),
      HdIssues s o (.seq o w d a acc m r true) ∧
      HdOrigin.regOk o d = true ∧
      HdOrigin.regOk o a = true ∧
      a.val + m.val < 32 ∧
      HdOrigin.regOk o (regPlus a m.val) = true ∧
      HdOrigin.accOk o acc = true ∧
      (s1 = ((List.range (m.val + 1)).map fun j => rotDims (HdWidth.bits w) (r.toNat * (m.val + 1 - 1 - j) % HdWidth.bits w)
      (lowDims (HdWidth.bits w) (s.hreg (regPlus a j)).bits)).foldl (fun z x => z.bundleInto o acc (HdWidth.bits w) x 1 false false)
      ((s.hdPassed o).hdSum o acc HAcc.zero)) ∧
      (((List.range (m.val + 1)).any fun j => (s.hreg (regPlus a j)).poison) = false) :=
  ⟨Tests.running, .host, .w2048, 24, 24, 3, 7, 1, _, ⟨by decide, rfl, by decide, by decide⟩, by decide, by decide, by decide, by decide, by decide, rfl, by decide⟩
theorem Tests.witness_HdBundles_7 :
    ∃ (s : State) (o : HdOrigin) (w : HdWidth) (d : Fin 32) (acc : Fin 4) (hbo : W32) (h : List Byte) (s1 : State) (bad free : Bool),
      HdIssues s o (.record o w d acc hbo) ∧
      HdOrigin.regOk o d = true ∧
      HdOrigin.accOk o acc = true ∧
      hbo.toNat % 16 = 0 ∧
      s.recordReadable (s.hdInForce o) hbo.toNat = true ∧
      h = s.hub.read hbo.toNat 16 ∧
      (((List.range (min 256 (fieldAt h 0 2))).map fun k => s.recordField (hbo.toNat + 16 + 12 * k)).foldl
      (State.addField (s.hdInForce o) o acc (HdWidth.bits w) (fieldAt h 2 1 % 4)) ((s.hdPassed o).hdSum o acc HAcc.zero, false, false) = (s1, bad, free)) :=
  ⟨Tests.running, .host, .w2048, 24, 3, 0x600000, _, Tests.running.hdSum .host 3 HAcc.zero, false, false, ⟨by decide, rfl, by decide, by decide⟩, by decide, by decide, by decide, by decide, rfl, by decide +kernel⟩
theorem Tests.witness_BundleThreshold_0 :
    ∃ (s : State) (o : HdOrigin) (d : Fin 32) (acc : Fin 4), HdIssues s o (.bthr o .w2048 d acc) ∧ HdOrigin.regOk o d = true ∧
      HdOrigin.accOk o acc = true ∧ 0 < mget 0 (s.hacc acc).counters 5 ∧ mget 0 (s.hacc acc).counters 6 < 0 ∧
      mget 0 (s.hacc acc).counters 7 = 0 :=
  ⟨{ Tests.running with hd := { Tests.running.hd with accs := [(3, ⟨[(5, 2), (6, -1)], false⟩)] } }, .host, 24, 3, ⟨by decide, rfl, by decide, by decide⟩, by decide, by decide, by decide, by decide, by decide⟩
theorem Tests.witness_HdTransfers_0 :
    ∃ (s : State) (o : HdOrigin) (w : HdWidth) (a : Fin 32) (tile : Handle) (row : BitVec 13) (ts : Byte) (value : BitVec 14) (t : TileId) (r : State),
      HdIssues s o (.outv o w a tile row ts value) ∧
      s.hd.outvs.length < 4 ∧
      HdOrigin.regOk o a = true ∧
      value ≠ 0 ∧
      Handle.physValid tile = true ∧
      Handle.tile? tile = some t ∧
      row.toNat + HdWidth.bits w / 2048 ≤ 8192 ∧
      r = (s.hdPassed o).agentRequest 0x101 (originAux o) t row.toNat (hvRows (HdWidth.bits w) (s.hreg a)) (.global ts value.toNat) :=
  ⟨Tests.running, .host, .w8192, 24, tileHandle 3, 8188, 9, 1, 3, _, ⟨by decide, rfl, by decide, by decide⟩, by decide, by decide, by decide, by decide, by decide, by decide, rfl⟩
theorem Tests.witness_HdTransfers_1 :
    ∃ (s : State) (a : AgentWrite) (r : State), (s.agents.find? (fun a => decide (a.holder = 0x101) && a.granted) = some a) ∧ (r = s.agentWrite a false) :=
  ⟨{ Tests.running with agents := [{ Tests.gatherWrite with holder := 0x101 }] }, _, _, rfl, rfl⟩
theorem Tests.witness_HdTransfers_2 :
    ∃ (s : State) (o : HdOrigin) (ts : Byte) (value : BitVec 14),
      HdIssues s o (.addg o ts value) ∧
      s.outvBusy o = false ∧
      s.recallBusy (decide (o ≠ .host)) = false ∧
      value ≠ 0 :=
  ⟨Tests.running, .host, 7, 16383, ⟨by decide, rfl, by decide, by decide⟩, by decide, by decide, by decide⟩
theorem Tests.witness_HdTransfers_3 :
    ∃ (s : State) (o : HdOrigin) (ts : Byte),
      HdIssues s o (.waitg o ts) :=
  ⟨Tests.running, .host, 7, ⟨by decide, rfl, by decide, by decide⟩⟩
theorem Tests.witness_HdTransfers_4 :
    ∃ (s : State) (c : Nat) (n : Fin 16) (rest : List (Nat × Fin 16)),
      s.hd.triggered = (c, n) :: rest ∧
      s.hd.running = none ∧
      s.hd.queue = [] ∧
      s.hd.waiting = none :=
  ⟨{ Tests.running with hd := { Tests.running.hd with triggered := [(9, 15)] } }, 9, 15, [], by decide +kernel⟩
theorem Tests.witness_HdTransfers_5 :
    ∃ (s : State) (c : Nat) (n m : Fin 16) (rest : List (Nat × Fin 16)) (r : State),
      s.hd.triggered = (c, n) :: rest ∧
      s.hd.running = some m ∧
      ((s.hd.queue.any fun q => decide (q.1 = n)) = false) ∧
      r = { s with hd := { s.hd with triggered := rest, queue := s.hd.queue ++ [(n, s.hd.settings)] } } :=
  ⟨{ Tests.running with hd := { Tests.running.hd with triggered := [(9, 0)], running := some 0 } }, 9, 0, 0, [], _, rfl, rfl, rfl, rfl⟩
theorem Tests.witness_HdTransfers_5b :
    ∃ (s : State) (c : Nat) (n m : Fin 16) (rest : List (Nat × Fin 16)), s.hd.triggered = (c, n) :: rest ∧ s.hd.running = some m ∧ m ≠ n ∧
      (s.hd.queue.any fun q => decide (q.1 = n)) = false :=
  ⟨{ Tests.running with hd := { Tests.running.hd with triggered := [(9, 0)], running := some 1 } }, 9, 0, 1, [], by decide +kernel⟩
theorem Tests.witness_HdTransfers_6 :
    ∃ (s : State) (c : Nat) (n : Fin 16) (rest : List (Nat × Fin 16)),
      s.hd.triggered = (c, n) :: rest ∧
      s.hd.running ≠ some n ∧
      ((s.hd.queue.any fun q => decide (q.1 = n)) = true) :=
  ⟨{ Tests.running with hd := { Tests.running.hd with triggered := [(9, 0)], running := some 1, queue := [(0, HdSettings.reset)] } }, 9, 0, [], by decide +kernel⟩
theorem Tests.witness_HdTransfers_7 :
    ∃ (s : State) (n : Fin 16),
      s.hd.running = some n ∧
      s.hd.waiting = none ∧
      s.recallBusy true = false ∧
      s.listRest n = [] :=
  ⟨{ Tests.running with hd := { Tests.running.hd with running := some 0 } }, 0, by decide +kernel⟩
theorem Tests.witness_HdTransfers_8 :
    ∃ (s : State) (item : Fin 24), (item.val ∈ s.hd.rebuilding) :=
  ⟨{ Tests.running with hd := { Tests.running.hd with rebuilding := [23] } }, 23, by decide +kernel⟩
theorem Tests.witness_RecallCommands_0 :
    ∃ (s : State) (o : HdOrigin) (w : HdWidth) (a d : Fin 32) (mask : W16) (cursor : Fin 16) (fill : Bool) (enables : BitVec 4) (bestKey : Bool) (dmin dmax : BitVec 14) (hbo : W32) (r : State),
      HdIssues s o (.srch o w a d mask cursor fill enables bestKey dmin dmax hbo) ∧
      ((s.cursor cursor.val).filling = false) ∧
      s.rcl.queries.length < 16 ∧
      HdOrigin.regOk o a = true ∧
      (bestKey = false ∨ HdOrigin.regOk o d = true) ∧
      HdOrigin.cursorOk o cursor = true ∧
      mask ≠ 0 ∧
      dmin.toNat ≤ dmax.toNat ∧
      dmax.toNat ≤ HdWidth.bits w ∧
      hbo.toNat % 32 = 0 ∧
      hdWriteOk hbo.toNat 32 = true ∧
      (r = { s.hdPassed o with rcl := { s.rcl with
      queries := s.rcl.queries ++ [.search (decide (o ≠ .host)) o (s.hreg a) w (if bestKey then d else 0) mask cursor fill enables
      bestKey dmin.toNat dmax.toNat hbo.toNat] } }) :=
  ⟨Tests.running, .host, .w2048, 24, 25, 0x8001, 12, true, 0, true, 0, 2048, 0x600000, _, ⟨by decide, rfl, by decide, by decide⟩, by decide, by decide, by decide, by decide, by decide, by decide, by decide, by decide, by decide, by decide, rfl⟩
theorem Tests.witness_RecallCommands_1 :
    ∃ (s : State) (o : HdOrigin) (w : HdWidth) (bank : Fin 16) (pos : BitVec 14) (hbo : W32),
      HdIssues s o (.rde o w bank pos hbo) ∧
      s.rcl.queries.length < 16 ∧
      hbo.toNat % 32 = 0 ∧
      hdWriteOk hbo.toNat (24 + HdWidth.bits w / 8) = true :=
  ⟨Tests.running, .host, .w2048, 15, 0, 0x600000, ⟨by decide, rfl, by decide, by decide⟩, by decide, by decide, by decide⟩
theorem Tests.witness_RecallCommands_2 :
    ∃ (s : State) (o : HdOrigin) (w : HdWidth) (a : Fin 32) (bank : Fin 16) (hbo : W32),
      HdIssues s o (.ins o w a bank hbo) ∧
      s.rcl.updates.length < 64 ∧
      HdOrigin.regOk o a = true ∧
      hbo.toNat % 8 = 0 ∧
      hdReadOk hbo.toNat 24 = true ∧
      ((s.hreg a).poison = false) ∧
      s.hub.anyPoison hbo.toNat 24 = false ∧
      ((s.rbank bank.val).width = widthCode w) :=
  ⟨Tests.running, .host, .w8192, 24, 15, 0x600008, ⟨by decide, rfl, by decide, by decide⟩, by decide +kernel, by decide +kernel, by decide +kernel, by decide +kernel, by decide +kernel, by decide +kernel, by decide +kernel⟩
theorem Tests.witness_RecallCommands_3 :
    ∃ (s : State) (o : HdOrigin) (w : HdWidth) (a : Fin 32) (bank : Fin 16) (hbo : W32),
      HdIssues s o (.ins o w a bank hbo) ∧
      s.rcl.updates.length < 64 ∧
      HdOrigin.regOk o a = true ∧
      hbo.toNat % 8 = 0 ∧
      hdReadOk hbo.toNat 24 = true ∧
      ((s.hreg a).poison = true ∨ s.hub.anyPoison hbo.toNat 24 = true) :=
  ⟨{ Tests.running with hub := { Tests.running.hub with poison := [(786433, true)] } }, .host, .w2048, 24, 15, 0x600008, ⟨by decide, rfl, by decide, by decide⟩, by decide +kernel, by decide +kernel, by decide +kernel, by decide +kernel, by decide +kernel⟩
theorem Tests.witness_RecallCommands_4 :
    ∃ (s : State) (o : HdOrigin) (w : HdWidth) (a : Fin 32) (bank : Fin 16) (hbo : W32),
      HdIssues s o (.ins o w a bank hbo) ∧
      s.rcl.updates.length < 64 ∧
      HdOrigin.regOk o a = true ∧
      hbo.toNat % 8 = 0 ∧
      hdReadOk hbo.toNat 24 = true ∧
      ((s.hreg a).poison = false) ∧
      s.hub.anyPoison hbo.toNat 24 = false ∧
      ((s.rbank bank.val).width ≠ widthCode w) :=
  ⟨Tests.running, .host, .w2048, 24, 15, 0x600008, ⟨by decide, rfl, by decide, by decide⟩, by decide +kernel, by decide +kernel, by decide +kernel, by decide +kernel, by decide +kernel, by decide +kernel, by decide +kernel⟩
theorem Tests.witness_RecallCommands_5 :
    ∃ (s : State) (o : HdOrigin) (bank : Fin 16) (first countM1 : BitVec 14),
      HdIssues s o (.del o bank first countM1) ∧
      s.rcl.updates.length < 64 :=
  ⟨Tests.running, .host, 15, 0, 16383, ⟨by decide, rfl, by decide, by decide⟩, by decide +kernel⟩
theorem Tests.witness_RecallCommands_6 :
    ∃ (s : State) (o : HdOrigin) (w : HdWidth) (a : Fin 32) (bank : Fin 16) (withKey : Bool) (pos : BitVec 14) (hbo : W32),
      HdIssues s o (.upd o w a bank withKey pos hbo) ∧
      s.rcl.updates.length < 64 ∧
      (withKey = false ∨ HdOrigin.regOk o a = true) ∧
      hbo.toNat % 8 = 0 ∧
      hdReadOk hbo.toNat 24 = true ∧
      ((withKey && (s.hreg a).poison) = false) ∧
      s.hub.anyPoison hbo.toNat 24 = false ∧
      (withKey = false ∨ (s.rbank bank.val).width = widthCode w) :=
  ⟨Tests.running, .host, .w8192, 24, 15, true, 3, 0x600008, ⟨by decide, rfl, by decide, by decide⟩, by decide +kernel, by decide +kernel, by decide +kernel, by decide +kernel, by decide +kernel, by decide +kernel, by decide +kernel⟩
theorem Tests.witness_RecallCommands_7 :
    ∃ (s : State) (o : HdOrigin) (w : HdWidth) (a : Fin 32) (bank : Fin 16) (withKey : Bool) (pos : BitVec 14) (hbo : W32),
      HdIssues s o (.upd o w a bank withKey pos hbo) ∧
      s.rcl.updates.length < 64 ∧
      (withKey = false ∨ HdOrigin.regOk o a = true) ∧
      hbo.toNat % 8 = 0 ∧
      hdReadOk hbo.toNat 24 = true ∧
      ((withKey = true ∧ (s.hreg a).poison = true) ∨ s.hub.anyPoison hbo.toNat 24 = true) :=
  ⟨{ Tests.running with hub := { Tests.running.hub with poison := [(786433, true)] } }, .host, .w2048, 24, 15, false, 3, 0x600008, ⟨by decide, rfl, by decide, by decide⟩, by decide +kernel, by decide +kernel, by decide +kernel, by decide +kernel, by decide +kernel⟩
theorem Tests.witness_RecallCommands_8 :
    ∃ (s : State) (o : HdOrigin) (w : HdWidth) (a : Fin 32) (bank : Fin 16) (pos : BitVec 14) (hbo : W32),
      HdIssues s o (.upd o w a bank true pos hbo) ∧
      s.rcl.updates.length < 64 ∧
      HdOrigin.regOk o a = true ∧
      hbo.toNat % 8 = 0 ∧
      hdReadOk hbo.toNat 24 = true ∧
      ((s.hreg a).poison = false) ∧
      s.hub.anyPoison hbo.toNat 24 = false ∧
      ((s.rbank bank.val).width ≠ widthCode w) :=
  ⟨Tests.running, .host, .w2048, 24, 15, 3, 0x600008, ⟨by decide, rfl, by decide, by decide⟩, by decide +kernel, by decide +kernel, by decide +kernel, by decide +kernel, by decide +kernel, by decide +kernel, by decide +kernel⟩
theorem Tests.witness_RecallCommands_9 :
    ∃ (s : State) (o : HdOrigin) (cursor : Fin 16),
      HdIssues s o (.cfree o cursor) ∧
      ((s.cursor cursor.val).filling = false) ∧
      HdOrigin.cursorOk o cursor = true :=
  ⟨Tests.running, .host, 15, ⟨by decide, rfl, by decide, by decide⟩, by decide, by decide⟩
theorem Tests.witness_RecallCommands_10 :
    ∃ (s : State) (o : HdOrigin),
      HdIssues s o (.glist o) :=
  ⟨Tests.running, .host, ⟨by decide, rfl, by decide, by decide⟩⟩
theorem Tests.witness_CursorSteps_0 :
    ∃ (s : State) (o : HdOrigin) (cursor : Fin 16) (kM1 : Byte) (hbo : W32) (c : Cursor) (steps : List Nat),
      HdIssues s o (.cstep o cursor false kM1 hbo) ∧
      s.cursor cursor.val = c ∧
      c.filling = false ∧
      HdOrigin.cursorOk o cursor = true ∧
      hbo.toNat % 16 = 0 ∧
      hdWriteOk hbo.toNat (16 + 16 * (kM1.toNat + 1)) = true ∧
      steps = (c.marks.drop c.next).take (kM1.toNat + 1) :=
  ⟨Tests.running, .host, 15, 255, 0x600000, _, _, ⟨by decide, rfl, by decide, by decide⟩, rfl, by decide, by decide, by decide, by decide, rfl⟩
theorem Tests.witness_CursorSteps_1 :
    ∃ (s : State) (o : HdOrigin) (cursor : Fin 16) (kM1 : Byte) (hbo : W32) (c : Cursor) (steps : List Nat) (r : Recall) (dropped : Bool),
      HdIssues s o (.cstep o cursor true kM1 hbo) ∧
      s.cursor cursor.val = c ∧
      c.filling = false ∧
      HdOrigin.cursorOk o cursor = true ∧
      hbo.toNat % 16 = 0 ∧
      hdWriteOk hbo.toNat 16 = true ∧
      steps = (c.marks.drop c.next).take (kM1.toNat + 1) ∧
      (steps.foldl (fun (p : Recall × Bool) x => ((p.1.append (BitVec.ofNat 32 (s.marked c x).pay) c.poison).1,
      p.2 || (p.1.append (BitVec.ofNat 32 (s.marked c x).pay) c.poison).2)) (s.rcl, false) = (r, dropped)) :=
  ⟨Tests.running, .host, 15, 255, 0x600000, _, _, _, false, ⟨by decide, rfl, by decide, by decide⟩, rfl, by decide, by decide, by decide, by decide, rfl, rfl⟩
theorem Tests.witness_CursorSteps_2 :
    ∃ (s : State) (o : HdOrigin) (cursor : Fin 16) (fill : Bool) (enables : BitVec 4) (dmin dmax : BitVec 14) (hbo : W32) (numbers : List Nat) (cands : List Candidate) (dirty : Bool) (s1 s2 : State),
      HdIssues s o (.dcoll o cursor fill enables dmin dmax hbo) ∧
      ((s.cursor cursor.val).filling = false) ∧
      HdOrigin.cursorOk o cursor = true ∧
      dmin.toNat ≤ dmax.toNat ∧
      dmax.toNat ≤ 8192 ∧
      hbo.toNat % 32 = 0 ∧
      hdWriteOk hbo.toNat 32 = true ∧
      numbers = s.deepNumbers ∧
      dirty = s.hub.anyPoison hbo.toNat 16 ∧
      cands = s.deepCandidates numbers enables (s.hub.read hbo.toNat 16) dmin.toNat dmax.toNat ∧
      (s1 = (s.hdPassed o).hubWrite (hbo.toNat + 16) (searchRecord (bestOf (cands.map fun c => (c.number, c.distance))) cands.length
      (s.deepFlags numbers cands fill dirty) (s.deepPay cands)) false) ∧
      (s2 = (if fill then s1.setCursor cursor.val {
      marks := (cands.take 4096).map fun c => c.number, next := 0, deep := true
      dist := (cands.take 4096).map fun c => (c.number, c.distance, c.marginal), poison := dirty, filling := false }
      else s1).noteHdPoison o dirty) :=
  ⟨Tests.running, .host, 15, true, 15, 0, 8192, 0x600000, _, _, _, _, _, ⟨by decide, rfl, by decide, by decide⟩, by decide, by decide, by decide, by decide, by decide, by decide, rfl, rfl, rfl, rfl, rfl⟩
theorem Tests.witness_RecallSlots_0 :
    ∃ (s : State) (bad : List (Fin 16 × Nat)) (b : Fin 16) (p : InsertPlan) (x y : Nat) (rest : List (Nat × Nat)) (r : State),
      s.awake = true ∧
      s.recallSlotFits = true ∧
      s.rcl.slot % s.rcl.throttle = 0 ∧
      s.rcl.inserting = some (b, p) ∧
      p.moves = (x, y) :: rest ∧
      r = ({ s with rcl := { s.rcl with slot := s.rcl.slot + 1 } } : State).moveEntry b.val x y :=
  ⟨{ Tests.running with rcl := { Tests.running.rcl with inserting := some (0, ⟨[(2, 3)], 2, Entry.hole⟩) } }, [], _, _, _, _, _, _, by decide, by decide, by decide, rfl, rfl, rfl⟩
theorem Tests.witness_RecallSlots_1 :
    ∃ (s : State) (bad : List (Fin 16 × Nat)) (b : Fin 16) (p : InsertPlan) (r : State),
      s.awake = true ∧
      s.recallSlotFits = true ∧
      s.rcl.slot % s.rcl.throttle = 0 ∧
      s.rcl.inserting = some (b, p) ∧
      p.moves = [] ∧
      (r = ({ s with rcl := { s.rcl with slot := s.rcl.slot + 1, inserting := none } } : State).modRbank b.val fun k =>
      k.put p.pos p.entry) :=
  ⟨{ Tests.running with rcl := { Tests.running.rcl with inserting := some (0, ⟨[], 2, Entry.hole⟩) } }, [], _, _, _, by decide, by decide, by decide, rfl, rfl, rfl⟩
theorem Tests.witness_RecallSlots_2 :
    ∃ (s : State) (bad : List (Fin 16 × Nat)) (q : Query) (rest : List Query),
      s.awake = true ∧
      s.recallSlotFits = true ∧
      s.rcl.slot % s.rcl.throttle = 0 ∧
      s.rcl.inserting = none ∧
      s.rcl.updates = [] ∧
      s.rcl.queries = q :: rest :=
  ⟨{ Tests.running with rcl := { Tests.running.rcl with queries := [.read false .w2048 0 0 0] } }, [], _, _, by decide, by decide, by decide, rfl, rfl, rfl⟩
theorem Tests.witness_RecallSlots_3 :
    ∃ (s : State) (bad : List (Fin 16 × Nat)),
      s.awake = true ∧
      s.recallSlotFits = true ∧
      s.rcl.slot % s.rcl.throttle ≠ 0 :=
  ⟨{ Tests.running with rcl := { Tests.running.rcl with throttle := 2, slot := 1 } }, [], by decide, by decide, by decide⟩
theorem Tests.witness_RecallSlots_4 :
    ∃ (s : State) (bad : List (Fin 16 × Nat)) (u : Update) (rest : List Update) (r : State),
      s.awake = true ∧
      s.recallSlotFits = true ∧
      s.rcl.slot % s.rcl.throttle = 0 ∧
      s.rcl.inserting = none ∧
      s.rcl.updates = u :: rest ∧
      (({ s with rcl := { s.rcl with slot := s.rcl.slot + 1, updates := rest } } : State).serveUpdate u = (r, true)) :=
  ⟨{ Tests.running with rcl := { Tests.running.rcl with updates := [.del 0 0 0] } }, [], _, _, _, by decide, by decide, by decide, rfl, rfl, rfl⟩
theorem Tests.witness_RecallSlots_5 :
    ∃ (s : State) (bad : List (Fin 16 × Nat)) (r : State) (q rest : _),
      s.awake = true ∧
      s.recallSlotFits = true ∧
      s.rcl.slot % s.rcl.throttle = 0 ∧
      s.rcl.inserting = none ∧
      (({ s with rcl := { s.rcl with slot := s.rcl.slot + 1 } } : State).serveUpdates (s.rcl.updates.length + 1) = (r, false)) ∧
      r.rcl.queries = q :: rest :=
  ⟨{ Tests.running with rcl := { Tests.running.rcl with queries := [.read false .w2048 0 0 0] } }, [], _, .read false .w2048 0 0 0, [], by decide, by decide, by decide, rfl, rfl, rfl⟩
theorem Tests.witness_RecallSlots_6 :
    ∃ (s : State) (bad : List (Fin 16 × Nat)) (r : State),
      s.awake = true ∧
      s.recallSlotFits = true ∧
      s.rcl.slot % s.rcl.throttle = 0 ∧
      s.rcl.inserting = none ∧
      (({ s with rcl := { s.rcl with slot := s.rcl.slot + 1 } } : State).serveUpdates (s.rcl.updates.length + 1) = (r, false)) ∧
      r.rcl.queries = [] :=
  ⟨Tests.running, [], _, by decide, by decide, by decide, rfl, rfl, rfl⟩
theorem Tests.witness_RecallSlots_7 :
    ∃ (s : State) (r : SearchResult) (rest : List SearchResult) (s1 : State), (s.rcl.results = r :: rest) ∧ (s1 = ({ s with rcl := { s.rcl with results := rest } } : State).hubWrite r.place r.bytes r.poison) :=
  ⟨{ Tests.running with rcl := { Tests.running.rcl with results := [⟨false, 0x600010, [], false, none, some 3⟩] } }, _, _, _, rfl, rfl⟩
theorem Tests.witness_RecallSlots_8 :
    ∃ (s : State) (bank : Fin 16) (k : RBank), (s.awake = true) ∧ (s.rbank bank.val = k) :=
  ⟨Tests.running, 15, _, by decide, rfl⟩
theorem Tests.witness_RecallSlots_9 :
    ∃ (s : State) (bank : Fin 16) (k : RBank), (s.awake = true) ∧ (s.rbank bank.val = k) ∧ ((k.entry (k.wordPos k.scan)).isValid = true) :=
  ⟨Tests.running.modRbank 15 (fun k => k.put 0 { Entry.hole with state := 1 }), 15, _, by decide, rfl, by decide +kernel⟩
theorem Tests.witness_RecallSlots_10 :
    ∃ (s : State) (bank : Fin 16) (k : RBank),
      s.awake = true ∧
      s.rbank bank.val = k ∧
      ((k.entry (k.wordPos k.scan)).isHole = true) :=
  ⟨Tests.running, 15, _, by decide, rfl, by decide +kernel⟩
theorem Tests.witness_SearchHits_0 :
    ∃ (s : State) (l : Bool) (o : HdOrigin) (key : HReg) (w : HdWidth) (d : Fin 32) (mask : W16) (cursor : Fin 16) (enables : BitVec 4) (dmin dmax hbo : Nat) (banks : List Nat) (hits : List (Nat × Nat)) (p n : _) (q : _),
      key.poison = false ∧
      s.hub.anyPoison hbo 16 = false ∧
      (banks = ((List.range 16).filter fun b => mask.getLsbD b).filter (fun b => (s.rbank b).enable)) ∧
      (∀ b, b < 16 → mask.getLsbD b = true → (s.rbank b).width = widthCode w) ∧
      (∀ q ∈ s.searchSpace banks, q.2.state ≠ 2) ∧
      (hits = ((s.searchSpace banks).filter fun q => q.2.isValid && tagsPass q.2 enables (s.hub.read hbo 16) &&
      decide (dmin ≤ hamming (HdWidth.bits w) key.bits q.2.key) && decide (hamming (HdWidth.bits w) key.bits q.2.key ≤ dmax)).map
      (fun q => (q.1, hamming (HdWidth.bits w) key.bits q.2.key))) ∧
      bestOf hits = some (p, n) ∧
      q ∈ hits :=
  ⟨Tests.running.setRbank 0 { RBank.init with width := 0, entries := [(5, { Entry.hole with state := 1 })] }, true, .host, HReg.zero, .w2048, 3, 1, 0, 0, 0, 2048, 0x600000, [0], [(5, 0)], 5, 0, (5, 0), rfl, by decide +kernel, by decide +kernel, by decide +kernel, by decide +kernel, by decide +kernel, by decide +kernel, by decide⟩
theorem Tests.witness_SearchHits_2 :
    ∃ (s : State) (l : Bool) (o : HdOrigin) (key : HReg) (w : HdWidth) (d : Fin 32) (mask : W16) (cursor : Fin 16) (enables : BitVec 4) (dmin dmax hbo : Nat) (banks : List Nat) (hits : List (Nat × Nat)),
      key.poison = false ∧
      s.hub.anyPoison hbo 16 = false ∧
      (banks = ((List.range 16).filter fun b => mask.getLsbD b).filter (fun b => (s.rbank b).enable)) ∧
      (∀ b, b < 16 → mask.getLsbD b = true → (s.rbank b).width = widthCode w) ∧
      (∀ q ∈ s.searchSpace banks, q.2.state ≠ 2) ∧
      (hits = ((s.searchSpace banks).filter fun q => q.2.isValid && tagsPass q.2 enables (s.hub.read hbo 16) &&
      decide (dmin ≤ hamming (HdWidth.bits w) key.bits q.2.key) && decide (hamming (HdWidth.bits w) key.bits q.2.key ≤ dmax)).map
      (fun q => (q.1, hamming (HdWidth.bits w) key.bits q.2.key))) :=
  ⟨Tests.running.setRbank 0 { RBank.init with width := 0 }, false, .host, HReg.zero, .w2048, 3, 1, 0, 0, 0, 2048, 0x600000, [0], [], rfl, by decide +kernel, by decide +kernel, by decide +kernel, by decide +kernel, by decide +kernel⟩
theorem Tests.witness_Cameras_0 :
    ∃ (s : State) (port : Fin 8) (p : CsiPacket), (s.awake = true) ∧ (p.headerOk = true) ∧ (s.loopHolds (0x10 + port.val) = false) ∧ (s.contextOf port.val p.vc.val = none) :=
  ⟨Tests.running, 7, ⟨true, 3, 0, true, []⟩, by decide⟩
theorem Tests.witness_Cameras_1 :
    ∃ (s : State) (port : Fin 8) (p : CsiPacket) (k : Nat), (s.awake = true) ∧ (p.headerOk = true) ∧ (s.loopHolds (0x10 + port.val) = false) ∧ (s.contextOf port.val p.vc.val = some k) ∧ (p.dataType = 0) :=
  ⟨{ Tests.running with ingress := { Tests.running.ingress with contexts := [(2, { ImgContext.init with settings := { ImgContext.init.settings with enable := true, port := 7, vc := 3, dtype := 2, cropW := 1, cropH := 1, outW := 1, outH := 1 }, inFrame := true, buffer := 1 })] } }, 7, ⟨true, 3, 0, true, []⟩, 2, by decide⟩
theorem Tests.witness_Cameras_2 :
    ∃ (s : State) (port : Fin 8) (p : CsiPacket) (k : Nat), (s.awake = true) ∧ (p.headerOk = true) ∧ (s.loopHolds (0x10 + port.val) = false) ∧ (s.contextOf port.val p.vc.val = some k) ∧ (p.dataType = 1) ∧ ((s.context k).inFrame = true) :=
  ⟨{ Tests.running with ingress := { Tests.running.ingress with contexts := [(2, { ImgContext.init with settings := { ImgContext.init.settings with enable := true, port := 7, vc := 3, dtype := 2, cropW := 1, cropH := 1, outW := 1, outH := 1 }, inFrame := true, buffer := 1 })] } }, 7, ⟨true, 3, 1, true, []⟩, 2, by decide⟩
theorem Tests.witness_Cameras_3 :
    ∃ (s : State) (port : Fin 8) (p : CsiPacket) (k : Nat),
      s.awake = true ∧
      p.headerOk = true ∧
      s.loopHolds (0x10 + port.val) = false ∧
      s.contextOf port.val p.vc.val = some k ∧
      p.dataType.toNat ≠ csiType (s.context k).settings.dtype ∧
      3 < p.dataType.toNat :=
  ⟨{ Tests.running with ingress := { Tests.running.ingress with contexts := [(2, { ImgContext.init with settings := { ImgContext.init.settings with enable := true, port := 7, vc := 3, dtype := 2, cropW := 1, cropH := 1, outW := 1, outH := 1 }, inFrame := true, buffer := 1 })] } }, 7, ⟨true, 3, 4, true, [5]⟩, 2, by decide, by decide, by decide, by decide, by decide, by decide⟩
theorem Tests.witness_Cameras_4 :
    ∃ (s : State) (port : Fin 8) (p : CsiPacket) (k : Nat) (c : ImgContext), (s.awake = true) ∧ (p.headerOk = true) ∧ (s.loopHolds (0x10 + port.val) = false) ∧ (s.contextOf port.val p.vc.val = some k) ∧ (s.context k = c) ∧ (p.dataType.toNat = csiType c.settings.dtype) ∧ (3 < p.dataType.toNat) ∧ (c.inFrame = true) ∧ (c.ended = false) :=
  ⟨{ Tests.running with ingress := { Tests.running.ingress with contexts := [(2, { ImgContext.init with settings := { ImgContext.init.settings with enable := true, port := 7, vc := 3, dtype := 2, cropW := 1, cropH := 1, outW := 1, outH := 1 }, inFrame := true, buffer := 1 })] } }, 7, ⟨true, 3, 0x2A, true, [5]⟩, 2, _, by decide, by decide, by decide, by decide, rfl, by decide, by decide, by decide, by decide⟩
theorem Tests.witness_Cameras_5 :
    ∃ (s : State) (k : Fin 16) (c : ImgContext), (s.awake = true) ∧ (s.context k.val = c) ∧ (c.inFrame = true) ∧ (c.ended = true) ∧ (c.good = true) ∧ (c.settings.linesNeeded ≤ c.lines.length) :=
  ⟨{ Tests.running with ingress := { Tests.running.ingress with contexts := [(2, { ImgContext.init with settings := { ImgContext.init.settings with enable := true, port := 7, vc := 3, dtype := 2, cropW := 1, cropH := 1, outW := 1, outH := 1 }, inFrame := true, buffer := 1, ended := true, good := true, lines := [[1, 2], [3, 4]] })] } }, 2, _, by decide, rfl, by decide, by decide, by decide, by decide⟩
theorem Tests.witness_Cameras_6 :
    ∃ (s : State) (k : Fin 16) (c : ImgContext), (s.awake = true) ∧ (s.context k.val = c) ∧ (c.inFrame = true) ∧ (c.ended = true) ∧ (c.good = false ∨ c.lines.length < c.settings.linesNeeded) :=
  ⟨{ Tests.running with ingress := { Tests.running.ingress with contexts := [(2, { ImgContext.init with settings := { ImgContext.init.settings with enable := true, port := 7, vc := 3, dtype := 2, cropW := 1, cropH := 1, outW := 1, outH := 1 }, inFrame := true, buffer := 1, ended := true, good := true, lines := [[1, 2]] })] } }, 2, _, by decide, rfl, by decide, by decide, by decide⟩
theorem Tests.witness_Cameras_7 :
    ∃ (s : State) (a : AgentWrite), (s.awake = true) ∧ (s.agents.find? (fun a => decide (a.holder = 0x103) && a.granted) = some a) :=
  ⟨{ Tests.running with agents := [{ Tests.gatherWrite with holder := 0x103 }] }, _, by decide, rfl⟩
theorem Tests.witness_ResizeOfSameSize_0 :
    ∃ (w h u v : Nat), u < w ∧ v < h :=
  ⟨2048, 1, 2047, 0, by decide⟩
theorem Tests.witness_ResizeOfSameSize_1 :
    ∃ (pix : Nat → Nat → Nat) (lo hi : Nat), ∀ x y, lo ≤ pix x y ∧ pix x y ≤ hi :=
  ⟨fun _ _ => 7, 0, 255, fun _ _ => ⟨by simp, by simp⟩⟩
theorem Tests.witness_SegmentFrames_0 :
    ∃ (s : State) (seg : Fin 3) (r : CyclicReturn), ((s.segment seg.val).awaiting = true) ∧ (r.wkcOk = true) ∧ (r.delayUs ≤ s.setting (returnLimitKey seg.val)) :=
  ⟨Tests.seg fun g => { g with awaiting := true }, 2, ⟨true, [], true, 0, 20, true⟩, by decide +kernel⟩
theorem Tests.witness_SegmentFrames_1 :
    ∃ (s : State) (seg : Fin 3) (r : CyclicReturn), ((s.segment seg.val).awaiting = true) ∧ (r.wkcOk = false ∨ s.setting (returnLimitKey seg.val) < r.delayUs) :=
  ⟨Tests.seg fun g => { g with awaiting := true }, 2, ⟨true, [], true, 0, 1001, true⟩, by decide +kernel⟩
theorem Tests.witness_SegmentFrames_2 :
    ∃ (s : State) (seg : Fin 3), ((s.segment seg.val).awaiting = true) :=
  ⟨Tests.seg fun g => { g with awaiting := true }, 2, by decide +kernel⟩
theorem Tests.witness_SegmentFrames_3 :
    ∃ (s : State) (seg : Fin 3), ((s.segment seg.val).linkUp = true) ∧ (seg ≠ 0) :=
  ⟨Tests.served, 2, by decide +kernel⟩
theorem Tests.witness_SegmentFrames_4 :
    ∃ (s : State), ((s.segment 0).linkUp = true) :=
  ⟨Tests.served, by decide +kernel⟩
theorem Tests.witness_SegmentFrames_5 :
    ∃ (s : State) (seg : Fin 3) (g : Segment), (s.segment seg.val = g) ∧ (g.linkUp = false) :=
  ⟨Tests.seg fun g => { g with linkUp := false }, 2, _, rfl, by decide⟩
theorem Tests.witness_SegmentFrames_6 :
    ∃ (s : State) (seg : Fin 3), ((s.segment seg.val).opRetry = true) :=
  ⟨Tests.seg fun g => { g with opRetry := true }, 2, by decide +kernel⟩
theorem Tests.witness_SegmentFrames_7 :
    ∃ (s : State) (seg : Fin 3),
      ((s.segment seg.val).awaiting = false) ∧
      ((s.now + 80000 : Nat) ≤ s.nextStart) :=
  ⟨Tests.served, 0, by decide +kernel, by decide +kernel⟩
theorem Tests.witness_SegmentFrames_8 :
    ∃ (s : State), (s.frame.locked = true) :=
  ⟨{ Tests.served with frame := { Tests.served.frame with locked := true } }, by decide +kernel⟩
theorem Tests.witness_SegmentFrames_9 :
    ∃ (s : State), (s.frame.locked = false) :=
  ⟨Tests.served, by decide +kernel⟩
theorem Tests.witness_SegmentFrames_10 :
    ∃ (s : State) (seg : Fin 3) (g : Segment) (r : State), (s.segment seg.val = g) ∧ (s.power ≠ .off) ∧ (s.ecat.stopped = false) ∧ (g.eni.isSome = true) ∧ (g.held = false) ∧ (g.linkUp = true) ∧ (s.loopHolds seg.val = false) ∧ (g.state ≠ .op ∨ g.fault = true) ∧ (r = s.setSegment seg.val { g with
      state := .op, fault := false, badRun := 0, dcBad := 0, sync0 := true, driftFrames := 15000
      shift := s.setting (0x291006 + 0x1000 * seg.val), reported := [], opRetry := false, awaiting := false }) :=
  ⟨Tests.seg fun g => { g with eni := some Tests.eni, fault := true, state := .op }, 2, _, _, rfl, by decide, by decide, by decide, by decide, by decide, by decide, by decide, rfl⟩
theorem Tests.witness_ServicePort_0 :
    ∃ (s : State) (c : Channel), (Serves s c) :=
  ⟨Tests.served, .p3, ⟨by decide, by decide⟩⟩
theorem Tests.witness_ServicePort_1 :
    ∃ (s : State) (c : Channel) (b : List Byte), (Serves s c) ∧ (b.length = 2) :=
  ⟨Tests.served, .mailbox, [0xFF, 0xFF], ⟨by decide, by decide⟩, by decide⟩
theorem Tests.witness_ServicePort_2 :
    ∃ (s : State) (c : Channel), (Serves s c) :=
  ⟨Tests.served, .p3, ⟨by decide, by decide⟩⟩
theorem Tests.witness_ServicePort_3 :
    ∃ (s : State) (c : Channel) (a : ObjAddr),
      Serves s c ∧
      s.uploadAbort c a.index.toNat a.sub.toNat ≠ 0 :=
  ⟨Tests.served, .p3, ⟨0x3FFF, 0⟩, ⟨by decide, by decide⟩, by decide +kernel⟩
theorem Tests.witness_ServicePort_4 :
    ∃ (s : State) (c : Channel) (a : ObjAddr),
      Serves s c ∧
      s.uploadAbort c a.index.toNat a.sub.toNat = 0 ∧
      a.index.toNat * 256 + a.sub.toNat ∉ [0x240003, 0x270005, 0x270008, 0x2E0004, 0x2E0102] :=
  ⟨Tests.served, .p3, ⟨0x2100, 4⟩, ⟨by decide, by decide⟩, by decide +kernel, by decide +kernel⟩
theorem Tests.witness_ServicePort_5 :
    ∃ (s : State) (c : Channel) (a : ObjAddr) (b : List Byte),
      Takes s c ∧
      s.downloadAbort c a.index.toNat a.sub.toNat b.length ≠ 0 :=
  ⟨Tests.served, .p3, ⟨0x3FFF, 0⟩, [1], ⟨⟨by decide, by decide⟩, by decide⟩, by decide +kernel⟩
theorem Tests.witness_ServicePort_6 :
    ∃ (s : State) (c : Channel) (a : ObjAddr) (b : List Byte) (k v : Nat),
      Takes s c ∧
      k = a.index.toNat * 256 + a.sub.toNat ∧
      v = leNat b ∧
      s.downloadAbort c a.index.toNat a.sub.toNat b.length = 0 ∧
      windowIndex a.index.toNat = false ∧
      a.index.toNat / 256 ≠ 0x2E ∧
      s.writeSpecial c k b = none ∧
      ((s.settingRange k).isSome = true) :=
  ⟨Tests.served, .p3, ⟨0x2100, 4⟩, [3], _, _, ⟨⟨by decide, by decide⟩, by decide⟩, rfl, rfl, by decide +kernel, by decide +kernel, by decide +kernel, by decide +kernel, by decide +kernel⟩
theorem Tests.witness_ServicePort_7 :
    ∃ (s : State) (image : Firmware),
      s.ecat.p3 ≠ .init ∧
      s.loopHolds 3 = false ∧
      s.startHalted = false ∧
      s.isUser .p3 = true :=
  ⟨Tests.served, ⟨Tests.trailer 1, 2, 0⟩, by decide +kernel, by decide +kernel, by decide +kernel, by decide +kernel⟩
theorem Tests.witness_ServicePort_8 :
    ∃ (s : State) (image : Firmware) (nameOk : Bool),
      s.ecat.p3 ≠ .init ∧
      s.loopHolds 3 = false :=
  ⟨Tests.served, ⟨Tests.trailer 1, 2, 0⟩, true, by decide +kernel, by decide +kernel⟩
theorem Tests.witness_ServicePort_9 :
    ∃ (s : State) (image : Firmware),
      s.ecat.p3 ≠ .init ∧
      s.loopHolds 3 = false :=
  ⟨Tests.served, ⟨Tests.trailer 1, 2, 0⟩, by decide +kernel, by decide +kernel⟩
theorem Tests.witness_ServicePort_10 :
    ∃ (s : State) (image : Firmware),
      s.ecat.p3 ≠ .init ∧
      s.loopHolds 3 = false ∧
      s.startHalted = false ∧
      s.isUser .p3 = false :=
  ⟨{ Tests.served with sec := { Tests.served.sec with p3 := Tests.running.sec.p3 } }, ⟨Tests.trailer 1, 2, 0⟩, by decide +kernel, by decide +kernel, by decide +kernel, by decide +kernel⟩
theorem Tests.witness_ServicePort_11 :
    ∃ (s : State) (variant : Byte) (useVariant : Bool) (heartbeat : W16), (s.ecat.p3 = .op) ∧ (s.loopHolds 3 = false) :=
  ⟨Tests.served, 255, true, 3, by decide +kernel⟩
theorem Tests.witness_ServicePort_12 :
    ∃ (s : State) (code q : Nat) (rest : List (Nat × Nat)),
      s.svc.emergency = (code, q) :: rest ∧
      s.serves .p3 = true :=
  ⟨{ Tests.served with svc := { Tests.served.svc with emergency := [(0x4055, 3)] } }, 0x4055, 3, [], by decide +kernel, by decide +kernel⟩
theorem Tests.witness_ServicePort_13 :
    ∃ (s : State) (request : AlState), (s.power ≠ .off) ∧ (alLegal s.ecat.p3 request = true) ∧ (s.loopHolds 3 = false) :=
  ⟨{ Tests.served with ecat := { Tests.served.ecat with p3 := .preOp } }, .safeOp, by decide +kernel⟩
theorem Tests.witness_ServicePort_14 :
    ∃ (s : State) (rev : Byte), (Takes s .p3) ∧ (s.ecat.p3 = .preOp) ∧ (4 ≤ rev.toNat) :=
  ⟨{ Tests.served with ecat := { Tests.served.ecat with p3 := .preOp } }, 4, ⟨⟨by decide, by decide⟩, by decide⟩, by decide, by decide⟩
theorem Tests.witness_ServicePort_15 :
    ∃ (s : State) (c : Channel) (seg : Fin 3) (eni : Eni), (Takes s c) ∧ (s.eniReason eni = 0) ∧ (s.test.loopIface ≠ some seg.val) ∧ (s.power = .idle) :=
  ⟨{ Tests.served with power := .idle }, .mailbox, 2, Tests.eni, ⟨⟨by decide, by decide⟩, by decide⟩, by decide, by decide, by decide⟩
theorem Tests.witness_ServicePort_16 :
    ∃ (s : State) (c : Channel) (seg : Fin 3) (eni : Eni), (Takes s c) ∧ (s.eniReason eni = 0) ∧ (s.test.loopIface ≠ some seg.val) ∧ (s.power ≠ .idle) :=
  ⟨Tests.served, .mailbox, 2, Tests.eni, ⟨⟨by decide, by decide⟩, by decide⟩, by decide, by decide, by decide⟩
theorem Tests.witness_ServicePort_17 :
    ∃ (s : State) (c : Channel) (seg : Fin 3) (eni : Eni), (Takes s c) ∧ (s.eniReason eni ≠ 0) :=
  ⟨Tests.served, .mailbox, 2, { Tests.eni with cycleUs := 999 }, ⟨⟨by decide, by decide⟩, by decide⟩, by decide⟩
theorem Tests.witness_ServicePort_18 :
    ∃ (s : State) (c : Channel) (image : Firmware) (s1 : State),
      s.startHalted = true ∧
      s.loopHolds 3 = false ∧
      s1 = s.writeFirmware false image :=
  ⟨{ State.reset with ecat := { State.reset.ecat with p3 := .boot } }, .p3, ⟨Tests.trailer 1, 2, 0⟩, _, by decide +kernel, by decide +kernel, rfl⟩
theorem Tests.witness_SteppingReported_0 :
    ∃ (s : State) (c : Channel), Serves s c :=
  ⟨Tests.served, .mailbox, by decide, by decide⟩
theorem Tests.witness_PowerAndHeat_0 :
    ∃ (s : State) (acts : List Activity) (s1 : State), (s.powered = true) ∧ (s1 = (allChannels.foldl (fun s ch => s.estimate acts ch) s).observeInterval.guardEstimate) :=
  ⟨Tests.running, [], _, by decide, rfl⟩
theorem Tests.witness_PowerAndHeat_1 :
    ∃ (s : State), (s.awake = true) ∧ (s.pwr.nCur < 16) ∧ (s.estimatedCurrent < s.currentLimit * 95 / 100) :=
  ⟨{ Tests.running with pwr := { Tests.running.pwr with nCur := 15 } }, by decide +kernel⟩
theorem Tests.witness_PowerAndHeat_2 :
    ∃ (s : State) (reports : List RegReport) (r : RegReport) (rest : List RegReport) (s1 s2 : State), (s.powered = true) ∧ ((reports.filter fun r => r.valid) = r :: rest) ∧ (s1 = reports.foldl State.report { s with pwr := { s.pwr with vinMv := r.milliVolts } }) ∧ (s2 = s1.guardMeasured ((((r :: rest).map fun r => r.milliAmps).foldl (· + ·) 0 : Nat) / 1000)) :=
  ⟨Tests.running, [⟨3, true, 12000, 5⟩], _, _, _, _, by decide, rfl, rfl, rfl⟩
theorem Tests.witness_PowerAndHeat_3 :
    ∃ (s : State) (reports : List RegReport) (s1 : State), (s.powered = true) ∧ ((reports.filter fun r => r.valid) = []) ∧ (s1 = reports.foldl State.report s) :=
  ⟨Tests.running, [⟨3, false, 12000, 5⟩], _, by decide, rfl, rfl⟩
theorem Tests.witness_PowerAndHeat_4 :
    ∃ (s : State) (s1 s2 s3 : State), (s.powered = true) ∧ (s1 = allChannels.foldl State.closeChannel s) ∧ (s2 = s1.addBin (sumRat (allChannels.map fun ch => (s1.channel ch).lastBin))
      (sumRat (allChannels.map fun ch => (s.channel ch).estimatedPart))) ∧ (s3 = (if s2.awake && s2.overBudget then s2.event 0x1011 deviceHandle else s2)) :=
  ⟨Tests.running, _, _, _, by decide, rfl, rfl, rfl⟩
theorem Tests.witness_PowerAndHeat_5 :
    ∃ (s : State) (channel : Fin 18), (s.powered = true) ∧ ((s.channel channel.val).failed = false) :=
  ⟨Tests.running, 17, by decide +kernel⟩
theorem Tests.witness_PowerAndHeat_6 :
    ∃ (s : State) (channel : Fin 18), (s.powered = true) ∧ ((s.channel channel.val).failed = true) :=
  ⟨Tests.running.modChannel 17 (fun c => { c with failed := true }), 17, by decide +kernel⟩
theorem Tests.witness_PowerAndHeat_7 :
    ∃ (s : State), (s.powered = true) :=
  ⟨Tests.running, by decide +kernel⟩
theorem Tests.witness_PowerAndHeat_8 :
    ∃ (s : State) (d : DieId) (phase : Byte) (n : Nat) (ok : Bool) (s1 : State), (s.awake = true) ∧ (s.dieIn d = true) ∧ (s.phaseLimit d phase.toNat = (n, ok)) ∧ (s1 = (if ok then (s.modDie d fun x => { x with limits := mset 0 x.limits phase.toNat n })
      else (s.modDie d fun x => { x with limits := mset 0 x.limits phase.toNat n }).event 0x1010 (dieHandle d))) :=
  ⟨Tests.running, 15, 255, _, _, _, by decide, by decide, rfl, rfl⟩
theorem Tests.witness_PowerAndHeat_9 :
    ∃ (s : State) (readings : List Int) (s3 s4 s5 : State), (s.awake = true) ∧ (s3 = (let v := validReadings readings
      let s1 := s.modChannel 0 fun c => { c with sensors := readings, sensorsValid := v.length, tj := junction v }
      let s2 := if v.length < readings.length then s1.event 0x1033 (channelHandle 0) else s1
      if 420 < junction v then s2.event 0x1031 (channelHandle 0) else s2)) ∧ (s4 = { s3 with pwr := { s3.pwr with hubBand := nextBand s3.pwr.hubBand (junction (validReadings readings)) } }) ∧ (s5 = (if decide ((s.channel 0).sensorsValid < 2) && decide (2 ≤ (validReadings readings).length) then
      forAll s4.diesIn (fun r d => r.modDie d fun x => { x with thStood := r.now }) s4
      else s4)) :=
  ⟨Tests.running, [100, 101, 102, 103, 104, 105, 106, 107], _, _, _, by decide, rfl, rfl, rfl⟩
theorem Tests.witness_PowerAndHeat_10 :
    ∃ (s : State) (d : DieId) (ch : Fin 17) (readings : List Int) (s3 s4 : State), (s.awake = true) ∧ (ch.val = d.val + 1) ∧ (s3 = (let v := validReadings readings
      let s1 := s.modChannel ch.val fun c => { c with sensors := readings, sensorsValid := v.length, tj := junction v }
      let s2 := if v.length < readings.length then s1.event 0x1033 (channelHandle ch.val) else s1
      if 420 < junction v then s2.event 0x1031 (channelHandle ch.val) else s2)) ∧ (s4 = s3.modDie d (fun x => { x with
      tempBand := nextBand x.tempBand (junction (validReadings readings))
      thStood := if decide ((s.channel ch.val).sensorsValid < 2) && decide (2 ≤ (validReadings readings).length) then s3.now
      else x.thStood })) :=
  ⟨Tests.running, 15, 16, [100], _, _, by decide, rfl, rfl, rfl⟩
theorem Tests.witness_PowerAndHeat_11 :
    ∃ (s : State) (ch : Fin 17), (s.power ≠ .off) ∧ (s.power ≠ .doze ∨ ch = 0) :=
  ⟨Tests.running, 16, by decide +kernel⟩
theorem Tests.witness_PhaseLimit_0 :
    ∃ (s : State) (d : DieId) (p : Nat) (share idle mean : Rat) (fits : Nat → Prop) (n : _) (m : _),
      mean = s.phaseMean d p ∧
      idle = s.idlePower (d.val + 1) ∧
      (share = (s.pwr.target - s.sharedPower 0 p - s.sharedPower 17 p) * mean /
      sumRat (s.diesIn.map fun e => if e = d then mean else s.dieMean e p)) ∧
      (∀ n, fits n ↔ s.setting 0x210004 ≤ n ∧ n ≤ 16 ∧ idle + (mean - idle) * (n : Rat) / 16 ≤ share) ∧
      s.phaseLimit d p = (n, true) ∧
      fits m :=
  ⟨Tests.phased 100000, 15, 3, _, 0, _, _, 16, 1, rfl, (Tests.phased_idle 100000).symm, rfl, fun _ => Iff.rfl, Tests.phased_limit, by decide +kernel⟩
theorem Tests.witness_PhaseLimit_2 :
    ∃ (s : State) (d : DieId) (p : Nat) (share idle mean : Rat) (fits : Nat → Prop) (n : _),
      mean = s.phaseMean d p ∧
      idle = s.idlePower (d.val + 1) ∧
      (share = (s.pwr.target - s.sharedPower 0 p - s.sharedPower 17 p) * mean /
      sumRat (s.diesIn.map fun e => if e = d then mean else s.dieMean e p)) ∧
      (∀ n, fits n ↔ s.setting 0x210004 ≤ n ∧ n ≤ 16 ∧ idle + (mean - idle) * (n : Rat) / 16 ≤ share) ∧
      s.phaseLimit d p = (n, false) :=
  ⟨Tests.phased 0, 15, 3, _, _, _, _, _, rfl, rfl, rfl, fun _ => Iff.rfl, Tests.phased_floor⟩
theorem Tests.witness_Maintenance_0 :
    ∃ (s : State) (b : Fin 8388608) (e : EngineId),
      e = bankEngine b.val ∧
      s.maintains e = true ∧
      ((s.bank b.val).state.scanned = true) ∧
      ((s.engine e).scan = none) :=
  ⟨Tests.running.modBank 5 (fun k => { k with state := .live }), 5, 0, by decide +kernel⟩
theorem Tests.witness_Maintenance_1 :
    ∃ (s : State) (b : Fin 8388608) (e : EngineId) (x : Scan) (k : Bank) (cells : List FailedCell) (drift : Rat) (s0 s1 s2 : State),
      e = bankEngine b.val ∧
      k = s.bank b.val ∧
      s.maintains e = true ∧
      k.state = .live ∧
      ((s.engine e).scan = some x) ∧
      x.bank = b.val ∧
      x.total ≤ x.taken ∧
      cells = s.newlyStuck b.val (x.confirmed k.contents) ∧
      (drift = x.drift k.contents (fun i j => (s.stuckOf b.val).any fun c => decide (c.row.val = i) && decide (c.string.val = j))) ∧
      s0 = s.setEngine e { s.engine e with scan := none } ∧
      (s1 = forAll cells (fun r c => (r.recordStuck b.val c 1).absorbLive b.val c) s0) ∧
      (s2 = (if 1 / 2 < drift then s1.modBank b.val fun k => { k with driftB := true } else s1).evalClass (2 * (b.val / 2))) :=
  ⟨(Tests.running.modBank 5 (fun k => { k with state := .live })).modEngine 0 (fun g => { g with scan := some ⟨5, 2048, [], [], []⟩ }), 5, 0, ⟨5, 2048, [], [], []⟩, _, _, _, _, _, _, by decide +kernel, rfl, by decide +kernel, by decide +kernel, by decide +kernel, by decide +kernel, by decide +kernel, rfl, rfl, rfl, rfl, rfl⟩
theorem Tests.witness_Maintenance_2 :
    ∃ (s : State) (b : Fin 8388608) (e : EngineId) (x : Scan) (c : FailedCell) (cs : List FailedCell) (j : Fin 4) (s0 : State),
      e = bankEngine b.val ∧
      s.maintains e = true ∧
      ((s.bank b.val).state = .ready ∨ (s.bank b.val).state = .pending) ∧
      ((s.engine e).scan = some x) ∧
      x.bank = b.val ∧
      x.total ≤ x.taken ∧
      s.newlyStuck b.val (x.confirmed (s.bank b.val).contents) = c :: cs ∧
      ((s.bank b.val).fset = some j) ∧
      s0 = s.setEngine e { s.engine e with scan := none } :=
  let ⟨c, cs, h⟩ := List.exists_cons_of_ne_nil (l := Tests.scanning.newlyStuck 5 (Tests.scan.confirmed (Tests.scanning.bank 5).contents)) (by decide +kernel)
  ⟨Tests.scanning, 5, 0, Tests.scan, c, cs, 2, _, by decide +kernel, by decide +kernel, by decide +kernel, by decide +kernel, by decide +kernel, by decide +kernel, h, by decide +kernel, rfl⟩
theorem Tests.witness_Maintenance_3 :
    ∃ (s : State) (b : Fin 8388608) (e : EngineId) (k : Bank) (t : Task),
      e = bankEngine b.val ∧
      k = s.bank b.val ∧
      s.maintains e = true ∧
      s.sec.state ≠ .error ∧
      k.state = .live ∧
      s.setBlocks.contains (engineHandle e, k.block) = false ∧
      ((s.engine e).nextRewrite b.val = some t) ∧
      ((s.bank (otherBank b.val)).worn = true) :=
  ⟨Tests.refreshable.modBank 4 (fun k => { k with worn := true }), 5, 0, _, .refresh 5, by decide +kernel, rfl, by decide +kernel, by decide +kernel, by decide +kernel, by decide +kernel, by decide +kernel, by decide +kernel⟩
theorem Tests.witness_Maintenance_4 :
    ∃ (s : State) (b : Fin 8388608) (e : EngineId) (k : Bank) (t : Task) (o j : Nat) (r : BlockRecord),
      e = bankEngine b.val ∧
      k = s.bank b.val ∧
      o = otherBank b.val ∧
      s.maintains e = true ∧
      s.sec.state ≠ .error ∧
      k.state = .live ∧
      s.setBlocks.contains (engineHandle e, k.block) = false ∧
      ((s.engine e).nextRewrite b.val = some t) ∧
      ((s.bank o).worn = false) ∧
      s.freeSet = some j ∧
      s.sourceOf b.val = some r ∧
      s.bankQualifies false o = true :=
  ⟨Tests.refreshable, 5, 0, _, .refresh 5, 4, 0, Tests.record, by decide +kernel, rfl, by decide +kernel, by decide +kernel, by decide +kernel, by decide +kernel, by decide +kernel, by decide +kernel, by decide +kernel, by decide +kernel, by decide +kernel, by decide +kernel⟩
theorem Tests.witness_Maintenance_5 :
    ∃ (s : State) (e : EngineId), (s.maintains e = true) :=
  ⟨Tests.running, 0, by decide +kernel⟩
theorem Tests.witness_Maintenance_6 :
    ∃ (s : State) (e : EngineId) (c : Calib) (part : EnginePart) (g : Engine) (old : EnginePart),
      s.maintains e = true ∧
      ((s.engine e).cal = some c) ∧
      c.total ≤ c.taken ∧
      c.bank = none ∧
      ((c.fits.any fun f => f.slope?.isNone) = false) ∧
      old = mget EnginePart.nominal (s.engine e).nextParts c.band ∧
      (part = ⟨true, s.recordTemp (engineDie e), s.svc.minutes,
      (if old.valid then old.generation else (mget EnginePart.nominal (s.engine e).parts c.band).generation) + 1,
      ((List.range 256).zip c.fits).map fun q => s.fitGain q.1 q.2, ((List.range 256).zip c.fits).map fun q => s.fitOffset q.1 q.2⟩) ∧
      g = { s.engine e with nextParts := mset EnginePart.nominal (s.engine e).nextParts c.band part } :=
  ⟨Tests.running.modEngine 9 (fun g => { g with cal := some ⟨.recalEngine, none, 3, 128, [⟨2, 1, 1, 1, 1⟩]⟩ }), 9, ⟨.recalEngine, none, 3, 128, [⟨2, 1, 1, 1, 1⟩]⟩, _, _, _, by decide +kernel, by decide +kernel, by decide +kernel, by decide +kernel, by decide +kernel, rfl, rfl, rfl⟩
theorem Tests.witness_Maintenance_7 :
    ∃ (s : State) (e : EngineId) (c : Calib) (b : Nat) (part : ArrayPart) (s1 : State),
      s.maintains e = true ∧
      ((s.engine e).cal = some c) ∧
      c.total ≤ c.taken ∧
      c.bank = some b ∧
      ((c.fits.any fun f => f.slope?.isNone) = false) ∧
      part = ⟨s.fitZ (c.fits.getD 0 FitSum.zero), c.band, true, s.recordTemp (bankDie b), s.svc.minutes⟩ ∧
      s1 = s.setEngine e { s.engine e with cal := none, tasks := (s.engine e).tasks.erase c.task } ∧
      c.task ≠ .fresh b :=
  ⟨Tests.running.modEngine 0 (fun g => { g with cal := some ⟨.recalBank 5, some 5, 3, 256, [⟨2, 1, 1, 1, 1⟩]⟩ }), 0, ⟨.recalBank 5, some 5, 3, 256, [⟨2, 1, 1, 1, 1⟩]⟩, 5, _, _, by decide +kernel, by decide +kernel, by decide +kernel, by decide +kernel, by decide +kernel, rfl, rfl, by decide +kernel⟩
theorem Tests.witness_Maintenance_8 :
    ∃ (s : State) (e : EngineId) (c : Calib) (b : Nat) (part : ArrayPart) (s1 : State) (j : _),
      s.maintains e = true ∧
      ((s.engine e).cal = some c) ∧
      c.total ≤ c.taken ∧
      c.bank = some b ∧
      ((c.fits.any fun f => f.slope?.isNone) = false) ∧
      part = ⟨s.fitZ (c.fits.getD 0 FitSum.zero), c.band, true, s.recordTemp (bankDie b), s.svc.minutes⟩ ∧
      s1 = s.setEngine e { s.engine e with cal := none, tasks := (s.engine e).tasks.erase c.task } ∧
      c.task = .fresh b ∧
      ((s.bank b).state = .writing) ∧
      ((s.bank b).fset = some j) :=
  ⟨(Tests.running.modEngine 0 (fun g => { g with cal := some ⟨.fresh 5, some 5, 3, 256, [⟨2, 1, 1, 1, 1⟩]⟩ })).modBank 5 (fun k => { k with state := .writing, fset := some 3 }), 0, ⟨.fresh 5, some 5, 3, 256, [⟨2, 1, 1, 1, 1⟩]⟩, 5, _, _, 3, by decide +kernel, by decide +kernel, by decide +kernel, by decide +kernel, by decide +kernel, rfl, rfl, by decide +kernel, by decide +kernel, by decide +kernel⟩
theorem Tests.witness_Maintenance_9 :
    ∃ (s : State) (e : EngineId) (g : Engine) (s1 : State),
      s.awake = true ∧
      s.dieIn (engineDie e) = true ∧
      g = s.engine e ∧
      (16 < (g.misses.filter fun t => decide (s.slotClock e < t + 800000000)).length) ∧
      s1 = (s.event 0x2032 (engineHandle e)).setEngine e { g with misses := [] } ∧
      (g.recalRuns < 2 ∨ g.persists = false) :=
  ⟨Tests.running.modEngine 9 (fun g => { g with misses := List.replicate 17 0, recalRuns := 1 }), 9, _, _, by decide +kernel, by decide +kernel, rfl, by decide +kernel, rfl, by decide +kernel⟩
theorem Tests.witness_Maintenance_10 :
    ∃ (s : State) (e : EngineId) (g : Engine) (s1 : State),
      s.awake = true ∧
      s.dieIn (engineDie e) = true ∧
      g = s.engine e ∧
      (16 < (g.misses.filter fun t => decide (s.slotClock e < t + 800000000)).length) ∧
      s1 = (s.event 0x2032 (engineHandle e)).setEngine e { g with misses := [] } ∧
      2 ≤ g.recalRuns ∧
      g.persists = true :=
  ⟨Tests.running.modEngine 9 (fun g => { g with misses := List.replicate 17 0, recalRuns := 2 }), 9, _, _, by decide +kernel, by decide +kernel, rfl, by decide +kernel, rfl, by decide +kernel, by decide +kernel⟩
theorem Tests.witness_Maintenance_11 :
    ∃ (s : State) (bank : Fin 8388608) (failed : List FailedCell) (w : Nat × BlockRecord) (j : Fin 4) (s1 s2 : State),
      s.awake = true ∧
      (s.weights.waitingWrites.find? (fun w => decide (w.1 = bank.val)) = some w) ∧
      ((s.bank bank.val).fset = some j) ∧
      ((s.bank bank.val).lane = true) ∧
      183000 ≤ (s.bank bank.val).laneSlots ∧
      ((s.bank bank.val).laneFrom + 976000 ≤ (s.die (bankDie bank.val)).clock) ∧
      (s1 = forAll failed (fun r c => r.recordStuck bank.val c 2) s) ∧
      s2 = ((s1.fillBank bank.val w.2 failed).writtenBank bank.val w.2 (s1.imageOf j.val bank.val w.2)).keepRecord bank.val w.2 :=
  ⟨{ Tests.running.modBank 5 (fun k => { k with lane := true, fset := some 2, laneSlots := 183000 }) with weights := { Tests.running.weights with waitingWrites := [(5, Tests.record)] }, dies := [(0, { Die.init with powered := true, clock := 976000 })] }, 5, [], (5, Tests.record), 2, _, _, by decide +kernel, by decide +kernel, by decide +kernel, by decide +kernel, by decide +kernel, by decide +kernel, rfl, rfl⟩
theorem Tests.witness_Maintenance_12 :
    ∃ (s : State) (c : Channel) (h : Handle) (e : EngineId), (Takes s c) ∧ (Handle.physValid h = true) ∧ (Handle.kind h = 4) ∧ (s.handleIn h = true) ∧ (Handle.inEngine? h = some e) :=
  ⟨Tests.served, .p3, engineHandle 7, 7, ⟨⟨by decide, by decide⟩, by decide⟩, by decide +kernel, by decide +kernel, by decide +kernel, by decide +kernel⟩
theorem Tests.witness_Maintenance_13 :
    ∃ (s : State) (c : Channel) (h : Handle) (e : EngineId) (live : List Nat), (Takes s c) ∧ (Handle.physValid h = true) ∧ (Handle.kind h = 5) ∧ (s.handleIn h = true) ∧ (Handle.inEngine? h = some e) ∧ (live = [e.val * 2048 + 2 * Handle.arrayField h, e.val * 2048 + 2 * Handle.arrayField h + 1].filter (fun b => decide ((s.bank b).state = .live))) :=
  ⟨Tests.served, .p3, arrayHandle 7 9, 7, _, ⟨⟨by decide, by decide⟩, by decide⟩, by decide +kernel, by decide +kernel, by decide +kernel, by decide +kernel, rfl⟩
theorem Tests.witness_Maintenance_14 :
    ∃ (s : State) (c : Channel) (x : StuckEntry), (Serves s c) ∧ ((s.die (Fin.ofNat 16 (s.accepted 0x240001 - 1))).stuck[s.accepted 0x240002]? = some x) :=
  ⟨Tests.served.modDie 0 (fun d => { d with stuck := [Tests.stuck] }), .p3, Tests.stuck, ⟨by decide, by decide⟩, by decide +kernel⟩
theorem Tests.witness_Maintenance_15 :
    ∃ (s : State) (c : Channel) (h : Handle) (e : EngineId),
      Takes s c ∧
      Handle.physValid h = true ∧
      Handle.kind h = 4 ∧
      Handle.engine? h = some e ∧
      s.awake = true ∧
      s.handleIn h = true :=
  ⟨Tests.served, .p3, engineHandle 7, 7, ⟨⟨by decide, by decide⟩, by decide⟩, by decide +kernel, by decide +kernel, by decide +kernel, by decide +kernel, by decide +kernel⟩
theorem Tests.witness_ServiceActions_0 :
    ∃ (s : State) (d : DieId) (cause : Nat), (s.power ≠ .off) ∧ (1 ≤ cause) ∧ (cause ≤ 6) ∧ ((s.die d).out = false) ∧ (s.svc.restarting = false) :=
  ⟨Tests.served, 15, 6, by decide +kernel⟩
theorem Tests.witness_ServiceActions_1 :
    ∃ (s : State) (r : State), (s.power ≠ .off) ∧ (s.booted = true) ∧ (s.svc.restarting = false) ∧ (s.recentRestarts.length < 2) ∧ (r = s.endAuthentications) :=
  ⟨Tests.served, _, by decide, by decide, by decide, by decide, rfl⟩
theorem Tests.witness_ServiceActions_2 :
    ∃ (s : State) (r : State), (s.power ≠ .off) ∧ (s.booted = true) ∧ (s.svc.restarting = false) ∧ (2 ≤ s.recentRestarts.length) ∧ (r = s.endAuthentications) :=
  ⟨{ Tests.served with svc := { Tests.served.svc with restarts := [0, 0] } }, _, by decide, by decide, by decide, by decide, rfl⟩
theorem Tests.witness_ServiceActions_3 :
    ∃ (s : State), (s.svc.restarting = true) :=
  ⟨{ Tests.served with svc := { Tests.served.svc with restarting := true } }, by decide +kernel⟩
theorem Tests.witness_ServiceActions_4 :
    ∃ (s : State) (cause : Nat) (r : State), (s.power ≠ .off) ∧ (1 ≤ cause) ∧ (cause ≤ 3) ∧ (r = s.driveSafe) :=
  ⟨Tests.served, 3, _, by decide, by decide, by decide, rfl⟩
theorem Tests.witness_ServiceActions_5 :
    ∃ (s : State), (s.svc.trial = true) ∧ (s.svc.revertReq = none) :=
  ⟨{ Tests.served with svc := { Tests.served.svc with trial := true } }, by decide +kernel⟩
theorem Tests.witness_ServiceActions_6 :
    ∃ (s : State), (s.power ≠ .off) ∧ (s.svc.restarting = false) ∧ (s.svc.settingsChanged = true) :=
  ⟨{ Tests.served with svc := { Tests.served.svc with settingsChanged := true } }, by decide +kernel⟩
theorem Tests.witness_ServiceActions_7 :
    ∃ (s : State) (word : Nat), (s.awake = true) ∧ (word < 0x200000000) :=
  ⟨Tests.served, 0x1FFFFFFFF, by decide +kernel⟩
theorem Tests.witness_FirmwareAndDies_0 :
    ∃ (s : State) (c : Channel) (image : Firmware), (Takes s c) ∧ (s.isUser c = true) :=
  ⟨Tests.served, .p3, ⟨Tests.trailer 1, 2, 0⟩, ⟨⟨by decide, by decide⟩, by decide⟩, by decide +kernel⟩
theorem Tests.witness_FirmwareAndDies_1 :
    ∃ (s : State) (c : Channel), (Takes s c) ∧ (s.isUser c = true) ∧ (s.inactiveSlot.valid = true) ∧ (s.svc.switchReq = false) ∧ (s.svc.revertReq = none) :=
  ⟨Tests.served, .p3, ⟨⟨by decide, by decide⟩, by decide⟩, by decide +kernel, by decide +kernel, by decide +kernel, by decide +kernel⟩
theorem Tests.witness_FirmwareAndDies_2 :
    ∃ (s : State) (c : Channel), (Takes s c) ∧ (s.isUser c = true) ∧ (s.svc.trial = true) ∧ (s.svc.revertReq = none) :=
  ⟨{ Tests.served with svc := { Tests.served.svc with trial := true } }, .p3, ⟨⟨by decide, by decide⟩, by decide⟩, by decide +kernel, by decide +kernel, by decide +kernel⟩
theorem Tests.witness_FirmwareAndDies_3 :
    ∃ (s : State) (c : Channel), (Takes s c) ∧ (s.isUser c = true) ∧ (s.svc.trial = true) ∧ (s.svc.revertReq = none) :=
  ⟨{ Tests.served with svc := { Tests.served.svc with trial := true } }, .p3, ⟨⟨by decide, by decide⟩, by decide⟩, by decide +kernel, by decide +kernel, by decide +kernel⟩
theorem Tests.witness_FirmwareAndDies_4 :
    ∃ (s : State) (c : Channel) (d : Byte), (Takes s c) ∧ (s.isUser c = true) ∧ (1 ≤ d.toNat) ∧ (d.toNat ≤ 16) ∧ (s.dieIn (dieOfField d) = true) :=
  ⟨Tests.served, .p3, 16, ⟨⟨by decide, by decide⟩, by decide⟩, by decide +kernel, by decide +kernel, by decide +kernel, by decide +kernel⟩
theorem Tests.witness_FirmwareAndDies_5 :
    ∃ (s : State) (c : Channel) (d : Byte), (Takes s c) ∧ (s.isUser c = true) ∧ (s.power = .idle) ∧ (1 ≤ d.toNat) ∧ (d.toNat ≤ 16) :=
  ⟨{ Tests.served with power := .idle }, .p3, 16, ⟨⟨by decide, by decide⟩, by decide⟩, by decide +kernel, by decide +kernel, by decide +kernel, by decide +kernel⟩
theorem Tests.witness_FirmwareAndDies_6 :
    ∃ (s : State) (c : Channel), (Takes s c) ∧ (s.toward = none) ∧ (s.power = .run ∨ s.runConditions = true) :=
  ⟨Tests.served, .p3, ⟨⟨by decide, by decide⟩, by decide⟩, by decide +kernel, by decide +kernel⟩
theorem Tests.witness_FirmwareAndDies_7 :
    ∃ (s : State) (c : Channel), (Takes s c) ∧ (s.toward = none) :=
  ⟨Tests.served, .p3, ⟨⟨by decide, by decide⟩, by decide⟩, by decide +kernel⟩
theorem Tests.witness_FirmwareAndDies_8 :
    ∃ (s : State) (c : Channel), (Takes s c) ∧ (s.toward = none) ∧ (s.power = .doze ∨ s.dozeBusy = false) ∧ ((s.acceptRequest .doze).power = .idle) :=
  ⟨{ Tests.served with power := .idle }, .p3, ⟨⟨by decide, by decide⟩, by decide⟩, by decide +kernel, by decide +kernel, by decide +kernel⟩
theorem Tests.witness_FirmwareAndDies_9 :
    ∃ (s : State) (c : Channel), (Takes s c) ∧ (s.toward = none) ∧ (s.power = .doze ∨ s.dozeBusy = false) ∧ ((s.acceptRequest .doze).power ≠ .idle) :=
  ⟨Tests.served, .p3, ⟨⟨by decide, by decide⟩, by decide⟩, by decide +kernel, by decide +kernel, by decide +kernel⟩
theorem Tests.witness_FirmwareAndDies_10 :
    ∃ (s : State) (c : Channel) (t : W32), (Takes s c) ∧ (s.power = .idle) ∧ (250 ≤ t.toNat) ∧ (t.toNat ≤ 10000) ∧ (s.accepted 0x200004 < t.toNat) ∧ ((s.keptProgrammes.any fun k => decide (frameCc t.toNat < longestOf k)) = false) ∧ (s.dozeMisfit t.toNat = false) :=
  ⟨{ Tests.served with power := .idle }, .p3, 10000, ⟨⟨by decide, by decide⟩, by decide⟩, by decide +kernel, by decide +kernel, by decide +kernel, by decide +kernel, by decide +kernel, by decide +kernel⟩
theorem Tests.witness_FirmwareAndDies_11 :
    ∃ (s : State) (c : Channel), (Takes s c) ∧ (s.groupLocked (s.accepted 0x220101) = false) ∧ (s.groupNamed (s.accepted 0x220101) = false) :=
  ⟨Tests.served.acceptSetting 0x220101 4095, .p3, ⟨⟨by decide, by decide⟩, by decide⟩, by decide +kernel, by decide +kernel⟩
theorem Tests.witness_FirmwareAndDies_12 :
    ∃ (s : State) (c : Channel) (g : GroupDesc), (Takes s c) ∧ (s.groupLocked (s.accepted 0x220101) = false) ∧ (g.number = s.accepted 0x220101) ∧ (s.groupFits g = true) :=
  ⟨Tests.served.acceptSetting 0x220101 4095, .p3, Tests.group, ⟨⟨by decide, by decide⟩, by decide⟩, by decide +kernel, by decide +kernel, by decide +kernel⟩
theorem Tests.witness_FirmwareAndDies_13 :
    ∃ (s : State) (c : Channel) (i depth : Nat), (Takes s c) ∧ (s.accepted 0x2A0001 = i) ∧ (s.accepted 0x2A0002 = depth) ∧ (s.test.looping = false) ∧ (depth ≠ 0) ∧ (s.loopAllowed i depth = true) ∧ (loopChannelOk c i depth = true) :=
  ⟨(Tests.served.acceptSetting 0x2A0001 0x17).acceptSetting 0x2A0002 1, .p3, 0x17, 1, ⟨⟨by decide, by decide⟩, by decide⟩, by decide +kernel, by decide +kernel, by decide +kernel, by decide +kernel, by decide +kernel, by decide +kernel⟩
theorem Tests.witness_FirmwareAndDies_14 :
    ∃ (s : State) (c : Channel), (Takes s c) ∧ (s.test.looping = true) :=
  ⟨{ Tests.served with test := { Tests.served.test with loopState := 2, loopIface := some 0x17, loopDepth := 1 } }, .p3, ⟨⟨by decide, by decide⟩, by decide⟩, by decide +kernel⟩
theorem Tests.witness_FirmwareAndDies_15 :
    ∃ (s : State), (s.test.loopState = 1) :=
  ⟨{ Tests.served with test := { Tests.served.test with loopState := 1, loopIface := some 0x17, loopDepth := 1 } }, by decide +kernel⟩
theorem Tests.witness_WindowSelectors_0 :
    ∃ (s : State) (c : Channel) (w : Fin 16) (h : Handle), Takes s c ∧ windowPath w c = true ∧ Handle.valid s.prog.groups h = false :=
  ⟨Tests.served, .p3, 7, 0x03000001, ⟨⟨by decide, by decide⟩, by decide⟩, by decide, by decide +kernel⟩
theorem Tests.witness_WindowSelectors_1 :
    ∃ (s : State) (c : Channel) (w : Fin 16) (h : Handle), Takes s c ∧ windowPath w c = true ∧ Handle.valid s.prog.groups h = true :=
  ⟨Tests.served, .mailbox, 8, tileHandle 255, ⟨⟨by decide, by decide⟩, by decide⟩, by decide, by decide +kernel⟩
theorem Tests.witness_ImagesAndProgrammes_0 :
    ∃ (s : State) (c : Channel) (image : Image) (trailer : Trailer), (Takes s c) ∧ (s.isUser c = true) ∧ (s.awake = true) ∧ (s.weights.status ≠ 1) ∧ (s.weights.status ≠ 2) :=
  ⟨Tests.served, .p3, Tests.image, Tests.trailer 3, ⟨⟨by decide, by decide⟩, by decide⟩, by decide +kernel, by decide +kernel, by decide +kernel, by decide +kernel⟩
theorem Tests.witness_ImagesAndProgrammes_1 :
    ∃ (s : State) (c : Channel) (image : Image) (trailer : Trailer), (Takes s c) ∧ (s.isUser c = true) ∧ (s.awake = true) ∧ (s.weights.status ≠ 1) ∧ (s.weights.status ≠ 2) :=
  ⟨Tests.served, .p3, Tests.image, Tests.trailer 3, ⟨⟨by decide, by decide⟩, by decide⟩, by decide +kernel, by decide +kernel, by decide +kernel, by decide +kernel⟩
theorem Tests.witness_ImagesAndProgrammes_2 :
    ∃ (s : State) (c : Channel) (container : Option (BitVec 384)) (j : Nat) (r : State), (Takes s c) ∧ (s.isUser c = true) ∧ (s.heldSet = some j) ∧ (r = (s.setFlip j { s.flipSet j with container := container }).armSet j) :=
  ⟨{ Tests.served with weights := { Tests.served.weights with sets := [(2, { FlipSet.none with held := true })] } }, .p3, none, 2, _, ⟨⟨by decide, by decide⟩, by decide⟩, by decide +kernel, by decide +kernel, rfl⟩
theorem Tests.witness_ImagesAndProgrammes_3 :
    ∃ (s : State) (c : Channel) (plans : List Plan) (trailer : Trailer) (r : State), (Takes s c) ∧ (s.isUser c = true) ∧ (s.awake = true) ∧ (s.weights.status ≠ 1) ∧ (s.weights.status ≠ 2) ∧ (s.trailerOk 4 trailer = true) ∧ (s.planSetOk plans = true) ∧ (r = s.reserveTargets plans) :=
  ⟨Tests.served, .p3, (List.finRange 16).map Tests.plan, Tests.trailer 4, _, ⟨⟨by decide, by decide⟩, by decide⟩, by decide +kernel, by decide +kernel, by decide +kernel, by decide +kernel, by decide +kernel, by decide +kernel, rfl⟩
theorem Tests.witness_ImagesAndProgrammes_4 :
    ∃ (s : State) (c : Channel) (plans : List Plan) (trailer : Trailer), (Takes s c) ∧ (s.isUser c = true) ∧ (s.awake = true) ∧ (s.weights.status ≠ 1) ∧ (s.weights.status ≠ 2) ∧ (s.trailerOk 4 trailer = true) ∧ (s.planSetOk plans = false) :=
  ⟨Tests.served, .p3, [Tests.plan 3], Tests.trailer 4, ⟨⟨by decide, by decide⟩, by decide⟩, by decide +kernel, by decide +kernel, by decide +kernel, by decide +kernel, by decide +kernel, by decide +kernel⟩
theorem Tests.witness_ImagesAndProgrammes_5 :
    ∃ (s : State) (c : Channel) (set : Fin 4), (Takes s c) ∧ (s.isUser c = true) ∧ ((s.flipSet set.val).armed = true) :=
  ⟨{ Tests.served with weights := { Tests.served.weights with sets := [(3, { FlipSet.none with armed := true })] } }, .p3, 3, ⟨⟨by decide, by decide⟩, by decide⟩, by decide +kernel, by decide +kernel⟩
theorem Tests.witness_ImagesAndProgrammes_6 :
    ∃ (s : State) (c : Channel) (d : Byte) (p : Plan), (Takes s c) ∧ (1 ≤ d.toNat) ∧ (d.toNat ≤ 16) ∧ (s.accepted 0x230007 = 1) ∧ (s.dieIn (dieOfField d) = false) ∧ (s.weights.remapRunning = false) ∧ (s.awake = true) ∧ (s.planFor (dieOfField d) = some p) :=
  ⟨Tests.planned, .p3, 16, Tests.plan 15, ⟨⟨by decide, by decide⟩, by decide⟩, by decide +kernel, by decide +kernel, by decide +kernel, by decide +kernel, by decide +kernel, by decide +kernel, by decide +kernel⟩
theorem Tests.witness_ImagesAndProgrammes_7 :
    ∃ (s : State) (c : Channel) (k : Container) (trailer : Trailer), (Takes s c) ∧ (s.isUser c = true) ∧ (s.awake = true) ∧ (s.containerFlaw k trailer = none) :=
  ⟨Tests.served, .p3, Tests.goodContainer, Tests.trailer 2, ⟨⟨by decide, by decide⟩, by decide⟩, by decide +kernel, by decide +kernel, by decide +kernel⟩
theorem Tests.witness_ImagesAndProgrammes_8 :
    ∃ (s : State) (c : Channel) (k : Container) (trailer : Trailer) (ev : W16) (cause index : Nat) (s1 : State),
      Takes s c ∧
      s.isUser c = true ∧
      s.awake = true ∧
      s.containerFlaw k trailer = some (ev, cause, index) ∧
      (s1 = (if cause = 2 then s.event 0x6015 deviceHandle else s)) :=
  ⟨Tests.served, .p3, Tests.container, Tests.trailer 2, 0x5026, 1, 0, _, ⟨⟨by decide, by decide⟩, by decide⟩, by decide +kernel, by decide +kernel, by decide +kernel, rfl⟩
theorem Tests.witness_ImagesAndProgrammes_9 :
    ∃ (s : State) (c : Channel) (k : Container), (Takes s c) ∧ (s.isUser c = true) ∧ (s.prog.staged = some k) ∧ (k.modelDigest = s.weights.liveDigest) ∧ (s.prog.switchReq = none) :=
  ⟨{ Tests.served with prog := { Tests.served.prog with staged := some Tests.container } }, .p3, Tests.container, ⟨⟨by decide, by decide⟩, by decide⟩, by decide +kernel, by decide +kernel, by decide +kernel, by decide +kernel⟩
theorem Tests.witness_ImagesAndProgrammes_10 :
    ∃ (s : State) (c : Channel) (k : Container), (Takes s c) ∧ (s.isUser c = true) ∧ (s.prog.retained = some k) ∧ (k.modelDigest = s.weights.liveDigest) ∧ (s.prog.switchReq = none) :=
  ⟨{ Tests.served with prog := { Tests.served.prog with retained := some Tests.container } }, .p3, Tests.container, ⟨⟨by decide, by decide⟩, by decide⟩, by decide +kernel, by decide +kernel, by decide +kernel, by decide +kernel⟩
theorem Tests.witness_StoresAndLogs_0 :
    ∃ (s : State) (c : Channel) (n : Fin 16) (entry : List Byte) (r : State), (Takes s c) ∧ (entry.length = 16) ∧ (listEntryOk entry = true) ∧ (r = s.acceptOctets (0x250301 + n.val) entry) :=
  ⟨Tests.served, .p3, 15, List.replicate 16 0, _, ⟨⟨by decide, by decide⟩, by decide⟩, by decide +kernel, by decide +kernel, rfl⟩
theorem Tests.witness_StoresAndLogs_1 :
    ∃ (s : State) (c : Channel) (n : Fin 16) (entry : List Byte), (Takes s c) ∧ (entry.length = 16) ∧ (listEntryOk entry = false) :=
  ⟨Tests.served, .p3, 15, 1 :: List.replicate 15 0, ⟨⟨by decide, by decide⟩, by decide⟩, by decide +kernel, by decide +kernel⟩
theorem Tests.witness_StoresAndLogs_2 :
    ∃ (s : State) (c : Channel) (data : List Byte) (r : State), (Takes s c) ∧ (1 ≤ data.length) ∧ (data.length ≤ 16384) ∧ (s.accepted 0x250401 % 16 = 0) ∧ (0x600000 ≤ s.accepted 0x250401) ∧ (s.accepted 0x250401 + data.length ≤ 0x680000) ∧ (s.commandsOk data = true ∨ s.descriptorsOk 1024 data = true) ∧ (r = s.acceptOctets 0x250402 data) :=
  ⟨Tests.served.acceptSetting 0x250401 0x600000, .p3, List.replicate 16 0, _, ⟨⟨by decide, by decide⟩, by decide⟩, by decide +kernel, by decide +kernel, by decide +kernel, by decide +kernel, by decide +kernel, by decide +kernel, rfl⟩
theorem Tests.witness_StoresAndLogs_3 :
    ∃ (s : State) (c : Channel) (data : List Byte),
      Takes s c ∧
      1 ≤ data.length ∧
      data.length ≤ 16384 ∧
      (s.accepted 0x250401 % 16 ≠ 0 ∨ s.accepted 0x250401 < 0x600000 ∨ 0x680000 < s.accepted 0x250401 + data.length ∨
      (s.commandsOk data = false ∧ s.descriptorsOk 1024 data = false)) :=
  ⟨Tests.served.acceptSetting 0x250401 1, .p3, [1], ⟨⟨by decide, by decide⟩, by decide⟩, by decide, by decide, .inl (by decide +kernel)⟩
theorem Tests.witness_StoresAndLogs_3b :
    ∃ (s : State) (c : Channel) (data : List Byte), Takes s c ∧ 1 ≤ data.length ∧ data.length ≤ 16384 ∧ s.commandsOk data = false ∧
      s.descriptorsOk 1024 data = false :=
  ⟨Tests.served, .p3, [1], ⟨⟨by decide, by decide⟩, by decide⟩, by decide, by decide, by decide +kernel, by decide +kernel⟩
theorem Tests.witness_StoresAndLogs_4 :
    ∃ (s : State) (c : Channel) (entry : List Byte), (Takes s c) ∧ (5 ≤ s.revision c) ∧ (entry.length = 8) ∧ (deepGroupOk entry = true) :=
  ⟨Tests.served, .p3, List.replicate 8 0, ⟨⟨by decide, by decide⟩, by decide⟩, by decide +kernel, by decide +kernel, by decide +kernel⟩
theorem Tests.witness_StoresAndLogs_5 :
    ∃ (s : State) (c : Channel) (bank : Byte) (first count group : W16), (Takes s c) ∧ (s.awake = true) ∧ (s.rcl.consolidation ≠ 1) ∧ (bank.toNat < 16) ∧ (group.toNat < 4096) ∧ (count ≠ 0) ∧ (first.toNat + count.toNat ≤ (s.rbank bank.toNat).size) ∧ ((s.rbank bank.toNat).width = 2) ∧ (s.groupsPresent group.toNat (((s.rbank bank.toNat).entries.filter fun q => q.2.isValid && decide (first.toNat ≤ q.1) && decide (q.1 < first.toNat + count.toNat)).length) = true) :=
  ⟨Tests.served, .p3, 15, 0, 4096, 4095, ⟨⟨by decide, by decide⟩, by decide⟩, by decide +kernel, by decide +kernel, by decide +kernel, by decide +kernel, by decide +kernel, by decide +kernel, by decide +kernel, by decide +kernel⟩
theorem Tests.witness_StoresAndLogs_6 :
    ∃ (s : State) (c : Channel) (bank : Byte), (Takes s c) ∧ (bank.toNat < 16) ∧ (s.awake = true) ∧ ((s.rbank bank.toNat).respread = none) :=
  ⟨Tests.served, .p3, 15, ⟨⟨by decide, by decide⟩, by decide⟩, by decide +kernel, by decide +kernel, by decide +kernel⟩
theorem Tests.witness_StoresAndLogs_7 :
    ∃ (s : State) (c : Channel) (e : LogEntry), (Serves s c) ∧ (s.logEntry (s.accepted 0x2E0003) = some e) :=
  ⟨Tests.logged, .p3, Tests.logEntry, ⟨by decide, by decide⟩, by decide +kernel⟩
theorem Tests.witness_StoresAndLogs_8 :
    ∃ (s : State) (c : Channel), (Serves s c) ∧ (s.logEntry (s.accepted 0x2E0003) = none) :=
  ⟨Tests.logged.acceptSetting 0x2E0003 1, .p3, ⟨by decide, by decide⟩, by decide +kernel⟩
theorem Tests.witness_StoresAndLogs_9 :
    ∃ (s : State) (c : Channel) (q : W32) (n : Nat), (Serves s c) ∧ (s.svc.readable = some n) :=
  ⟨Tests.logged, .p3, 0xFFFFFFFF, 0, ⟨by decide, by decide⟩, by decide +kernel⟩
theorem Tests.witness_StoresAndLogs_10 :
    ∃ (s : State) (c : Channel) (a : ObjAddr), (Takes s c) ∧ (counterIndex a.index.toNat = true) ∧ (a.sub ≠ 0) :=
  ⟨Tests.served, .p3, ⟨0x21FF, 1⟩, ⟨⟨by decide, by decide⟩, by decide⟩, by decide +kernel, by decide +kernel⟩
theorem Tests.witness_StoresAndLogs_11 :
    ∃ (s : State) (c : Channel) (window : Fin 16) (off sub : Nat) (a : ObjAddr) (h : Handle), (Takes s c) ∧ (a.index.toNat = 0x4000 + 256 * window.val + off) ∧ (off < 256) ∧ (a.sub.toNat = sub) ∧ (s.selected window = h) ∧ (windowPath window c = true) ∧ (subtreeAbort h off sub = 0) ∧ ((subtreeSpec off sub).access = .rwc) ∧ (s.unitOut h = false) :=
  ⟨Tests.windowed, .p3, 7, 0x22, 0, ⟨0x4722, 0⟩, tileHandle 3, ⟨⟨by decide, by decide⟩, by decide⟩, by decide +kernel, by decide +kernel, by decide +kernel, by decide +kernel, by decide +kernel, by decide +kernel, by decide +kernel, by decide +kernel⟩
theorem Tests.witness_StoresAndLogs_12 :
    ∃ (s : State) (c : Channel) (window : Fin 16) (sub : Byte) (ctl clip : W32) (h : Handle), (Takes s c) ∧ (s.selected window = h) ∧ (windowPath window c = true) ∧ (subtreeAbort h 0x20 sub.toNat = 0) ∧ (s.unitOut h = false) :=
  ⟨Tests.windowed, .p3, 7, 16, 1, 2, tileHandle 3, ⟨⟨by decide, by decide⟩, by decide⟩, by decide +kernel, by decide +kernel, by decide +kernel, by decide +kernel⟩
theorem Tests.witness_Authentication_0 :
    ∃ (s : State) (c : Channel), (Serves s c) ∧ (s.sec.working = true) ∧ ((s.auth c).locked = false) :=
  ⟨Tests.served, .mailbox, ⟨by decide, by decide⟩, by decide +kernel, by decide +kernel⟩
theorem Tests.witness_Authentication_1 :
    ∃ (s : State) (c : Channel) (role : Role), (Takes s c) ∧ (s.sec.working = true) ∧ ((s.auth c).nonce.isSome = true) ∧ ((s.auth c).locked = false) ∧ ((s.anchorOf role).isSome = true) :=
  ⟨Tests.challenged, .p3, .officer, ⟨⟨by decide, by decide⟩, by decide⟩, by decide +kernel, by decide +kernel, by decide +kernel, by decide +kernel⟩
theorem Tests.witness_Authentication_2 :
    ∃ (s : State) (c : Channel) (role : Role) (a : Auth), (Takes s c) ∧ (s.sec.working = true) ∧ ((s.auth c).nonce.isSome = true) ∧ ((s.auth c).locked = false) ∧ (a = { s.auth c with nonce := none, failures := (s.auth c).failures + 1, locked := decide (10 ≤ (s.auth c).failures + 1) }) :=
  ⟨Tests.challenged, .p3, .user, _, ⟨⟨by decide, by decide⟩, by decide⟩, by decide +kernel, by decide +kernel, by decide +kernel, rfl⟩
theorem Tests.witness_Authentication_3 :
    ∃ (s : State) (c : Channel), (Takes s c) ∧ ((s.auth c).role.isSome = true) :=
  ⟨Tests.served, .p3, ⟨⟨by decide, by decide⟩, by decide⟩, by decide +kernel⟩
theorem Tests.witness_Authentication_4 :
    ∃ (s : State) (c : Channel), ((s.auth c).locked = true) :=
  ⟨Tests.served.setAuth .p3 { Auth.init with locked := true }, .p3, by decide +kernel⟩
theorem Tests.witness_Authentication_5 :
    ∃ (s : State) (c : Channel), (Serves s c) ∧ (s.sec.working = true) ∧ ((s.auth c).role = some .user) :=
  ⟨Tests.asUser, .p3, ⟨by decide, by decide⟩, by decide +kernel, by decide +kernel⟩
theorem Tests.witness_Authentication_6 :
    ∃ (s : State) (c : Channel) (x : List Byte), (Takes s c) ∧ (s.sec.working = true) ∧ ((s.auth c).role = some .user) ∧ (x.length = 1088) ∧ ((s.auth c).sessionOpen = true) :=
  ⟨Tests.asUser.setAuth .p3 { Tests.asUser.sec.p3 with sessionOpen := true }, .p3, List.replicate 1088 0, ⟨⟨by decide, by decide⟩, by decide⟩, by decide +kernel, by decide +kernel, by decide +kernel, by decide +kernel⟩
theorem Tests.witness_Authentication_7 :
    ∃ (s : State) (c : Channel) (k : BitVec 128), (Takes s c) ∧ (s.sec.working = true) ∧ ((s.auth c).role = some .user) ∧ (s.sec.state ≠ .locked) ∧ ((s.auth c).sessionKey.isSome = true) ∧ (s.sec.imageKeys.length < 8) ∧ (s.sec.imageKeys.contains k = false) :=
  ⟨Tests.asUser.setAuth .p3 { Tests.asUser.sec.p3 with sessionKey := some 3 }, .p3, 5, ⟨⟨by decide, by decide⟩, by decide⟩, by decide +kernel, by decide +kernel, by decide +kernel, by decide +kernel, by decide +kernel, by decide +kernel⟩
theorem Tests.witness_Authentication_8 :
    ∃ (s : State) (c : Channel) (k : BitVec 128), (Takes s c) ∧ (s.sec.working = true) ∧ ((s.auth c).role = some .user) :=
  ⟨Tests.asUser, .p3, 5, ⟨⟨by decide, by decide⟩, by decide⟩, by decide +kernel, by decide +kernel⟩
theorem Tests.witness_Authentication_9 :
    ∃ (s : State) (c : Channel) (nonce : BitVec 256), (Serves s c) :=
  ⟨Tests.served, .p3, 5, ⟨by decide, by decide⟩⟩
theorem Tests.witness_Island_0 :
    ∃ (s : State) (c : Channel) (ok : Bool), (Takes s c) :=
  ⟨Tests.served, .p3, false, ⟨⟨by decide, by decide⟩, by decide⟩⟩
theorem Tests.witness_Island_1 :
    ∃ (s : State) (ok : Bool), (s.power ≠ .off) :=
  ⟨Tests.served, true, by decide +kernel⟩
theorem Tests.witness_Island_2 :
    ∃ (s : State) (ok : Bool), (s.power ≠ .off) ∧ (s.sec.state = .error) :=
  ⟨{ Tests.served with sec := { Tests.served.sec with state := .error } }, true, by decide +kernel⟩
theorem Tests.witness_Island_3 :
    ∃ (s : State) (c : Channel) (r : State), (Takes s c) ∧ (s.isOfficer c = true) ∧ (s.sec.state = .locked) ∧ (s.sec.lastExcursion = none ∨ ∃ t, s.sec.lastExcursion = some t ∧ t + 48000000000 ≤ s.now) ∧ (r = ({ s with sec := { s.sec with state := .operational, alarm := 0 } } : State).event 0x6012 deviceHandle) :=
  ⟨{ Tests.served with sec := { Tests.served.sec with state := .locked } }, .p3, _, ⟨⟨by decide, by decide⟩, by decide⟩, by decide +kernel, by decide +kernel, .inl rfl, rfl⟩
theorem Tests.witness_Island_4 :
    ∃ (s : State) (c : Channel), (Takes s c) ∧ (s.isOfficer c = true) :=
  ⟨Tests.served, .p3, ⟨⟨by decide, by decide⟩, by decide⟩, by decide +kernel⟩
theorem Tests.witness_Island_5 :
    ∃ (s : State) (c : Channel), (Takes s c) ∧ (s.isOfficer c = true) ∧ (s.sec.floor ≤ s.accepted 0x270010) :=
  ⟨Tests.served, .p3, ⟨⟨by decide, by decide⟩, by decide⟩, by decide +kernel, by decide +kernel⟩
theorem Tests.witness_Island_6 :
    ∃ (s : State) (c : Channel) (key : Option Nat), (Takes s c) ∧ (s.isOfficer c = true) :=
  ⟨Tests.served, .p3, some 3, ⟨⟨by decide, by decide⟩, by decide⟩, by decide +kernel⟩
theorem Tests.witness_Island_7 :
    ∃ (s : State) (c : Channel) (key : Option Nat), (Takes s c) ∧ (s.isOfficer c = true) :=
  ⟨Tests.served, .p3, none, ⟨⟨by decide, by decide⟩, by decide⟩, by decide +kernel⟩
theorem Tests.witness_Island_8 :
    ∃ (s : State) (c : Channel) (k : Fin 4) (key : Option Nat), (Takes s c) ∧ (s.isOfficer c = true) :=
  ⟨Tests.served, .p3, 3, some 3, ⟨⟨by decide, by decide⟩, by decide⟩, by decide +kernel⟩
theorem Tests.witness_Island_9 :
    ∃ (s : State) (c : Channel) (token : Token) (s1 : State), (Serves s c) ∧ (s.sec.state = .unprovisioned ∨ s.sec.state = .zeroised) ∧ (s.sec.nextGeneration ≤ 3) ∧ (s.sec.disabled.contains s.sec.nextGeneration = false) ∧ (s.tokenOk token = true) ∧ (s1 = (if s.sec.state = .zeroised then s.forgetWeights else s)) :=
  ⟨Tests.fresh, .p3, Tests.token, _, ⟨by decide, by decide⟩, by decide +kernel, by decide +kernel, by decide +kernel, by decide +kernel, rfl⟩
theorem Tests.witness_Island_10 :
    ∃ (s : State) (c : Channel) (token : Token), (Serves s c) ∧ (s.sec.state = .unprovisioned ∨ s.sec.state = .zeroised) ∧ (s.sec.nextGeneration ≤ 3) ∧ (s.sec.disabled.contains s.sec.nextGeneration = false) ∧ (s.tokenOk token = false) :=
  ⟨Tests.fresh, .p3, { Tests.token with trailer := Tests.trailer 1 }, ⟨by decide, by decide⟩, by decide +kernel, by decide +kernel, by decide +kernel, by decide +kernel⟩
theorem Tests.witness_Island_11 :
    ∃ (s : State) (sensor : TamperSensor) (time cause : Nat), (s.power ≠ .off) ∧ (sensorCause sensor = some cause) :=
  ⟨Tests.served, .lid, 3, 3, by decide +kernel⟩
theorem Tests.witness_Island_12 :
    ∃ (s : State) (sensor : TamperSensor) (time : Nat), (s.power ≠ .off) ∧ (sensorCause sensor = none) :=
  ⟨Tests.served, .voltage, 3, by decide +kernel⟩
theorem Tests.witness_Island_13 :
    ∃ (s : State) (sensor : TamperSensor) (time cause : Nat), (s.power = .off) ∧ (sensorCause sensor = some cause) ∧ (sensor = .lid ∨ (sensor = .mesh ∧ s.vin = true)) :=
  ⟨State.reset, .lid, 3, 3, by decide +kernel⟩
theorem Tests.witness_Island_14 :
    ∃ (s : State) (sensor : TamperSensor), (s.power ≠ .off) ∧ ((s.sec.excursions.any fun x => decide (x.1 = sensor)) = true) :=
  ⟨{ Tests.served with sec := { Tests.served.sec with excursions := [(.clock, 5)] } }, .clock, by decide +kernel⟩
theorem Tests.witness_Endpoint_0 :
    ∃ (s : State) (offer : List Byte) (m : Nat), (s.endpointUp = true) ∧ (offeredMinor offer = some m) :=
  ⟨Tests.served, [0, 0, 0, 0], 0, by decide +kernel⟩
theorem Tests.witness_Endpoint_1 :
    ∃ (s : State) (offer : List Byte), (s.endpointUp = true) ∧ (offeredMinor offer = none) :=
  ⟨Tests.served, [0, 0, 0], by decide +kernel⟩
theorem Tests.witness_Endpoint_2 :
    ∃ (s : State), (s.endpointUp = true) :=
  ⟨Tests.served, by decide +kernel⟩
theorem Tests.witness_Endpoint_3 :
    ∃ (s : State) (tail : W32), (s.queuesUp = true) :=
  ⟨Tests.served, 0xFFFFFFFF, by decide +kernel⟩
theorem Tests.witness_Endpoint_4 :
    ∃ (s : State) (tail : W32), (s.queuesUp = true) :=
  ⟨Tests.served, 0xFFFFFFFF, by decide +kernel⟩
theorem Tests.witness_Endpoint_5 :
    ∃ (s : State) (head : W32), (s.queuesUp = true) :=
  ⟨Tests.served, 0xFFFFFFFF, by decide +kernel⟩
theorem Tests.witness_Endpoint_6 :
    ∃ (s : State) (tail : W32), (s.queuesUp = true) ∧ (s.pcie.hpver = 0x0301) :=
  ⟨{ Tests.served with pcie := { Tests.served.pcie with hpver := 0x0301 } }, 1, by decide +kernel⟩
theorem Tests.witness_Endpoint_7 :
    ∃ (s : State) (r : State), (s.queuesUp = true) ∧ (r = s.copyEvents 1024) :=
  ⟨Tests.served, _, by decide, rfl⟩
theorem Tests.witness_Endpoint_8 :
    ∃ (s : State) (head : W32) (k q : Nat), (s.queuesUp = true) ∧ (s.pcie.slotSeq.find? (fun p => decide (p.1 = (head.toNat % 1024 + 1023) % 1024)) = some (k, q)) :=
  ⟨{ Tests.logged with pcie := { Tests.logged.pcie with slotSeq := [(1023, 0)] } }, 0, 1023, 0, by decide +kernel⟩
theorem Tests.witness_Endpoint_9 :
    ∃ (s : State) (addr : Nat) (data : List Byte), (s.endpointUp = true) ∧ (addr + data.length ≤ 0x1000000000) ∧ (s.bar2Refused addr data.length = false) :=
  ⟨Tests.served, 0, [1, 2], by decide +kernel⟩
theorem Tests.witness_Endpoint_10 :
    ∃ (s : State) (addr : Nat) (data : List Byte), (s.endpointUp = true) ∧ (addr + data.length ≤ 0x1000000000) ∧ (s.bar2Refused addr data.length = true) :=
  ⟨{ Tests.served with pcie := { Tests.served.pcie with devbase := 0x100 } }, 0xFF, [1, 2], by decide +kernel⟩
theorem Tests.witness_Endpoint_11 :
    ∃ (s : State) (offset : Nat) (data : List Byte), (s.endpointUp = true) ∧ (0x400000 ≤ offset) ∧ (offset + data.length ≤ 0x800000) :=
  ⟨Tests.served, 0x67FFFF, [1], by decide +kernel⟩
theorem Tests.witness_Endpoint_12 :
    ∃ (s : State) (offset : Nat) (data : List Byte), (s.endpointUp = true) ∧ (offset < 0x100000) ∧ (offset % 4 = 0) ∧ (data.length = 4) :=
  ⟨Tests.served, 0x128, [1, 0, 0, 0], by decide +kernel⟩
theorem Tests.witness_Endpoint_13 :
    ∃ (s : State) (offset : Nat) (data : List Byte), (s.endpointUp = true) ∧ (msixWritable offset data.length = true) :=
  ⟨Tests.served, 0x10007C, [0, 0, 0, 0], by decide +kernel⟩
theorem Tests.witness_Endpoint_14 :
    ∃ (s : State), (s.pcie.perst = false) ∧ (s.power ≠ .off) :=
  ⟨Tests.served, by decide +kernel⟩
theorem Tests.witness_Endpoint_15 :
    ∃ (s : State) (rate width : Nat), (s.power ≠ .off) ∧ (s.power ≠ .doze) ∧ (s.pcie.perst = false) ∧ (s.loopHolds 8 = false) ∧ (1 ≤ rate) ∧ (rate ≤ 5) ∧ ([1, 2, 4, 8].contains width = true) :=
  ⟨Tests.served, 5, 8, by decide +kernel⟩
theorem Tests.witness_Endpoint_16 :
    ∃ (s : State), (s.endpointUp = true) :=
  ⟨Tests.served, by decide +kernel⟩
theorem Tests.witness_Endpoint_17 :
    ∃ (s : State), (s.endpointUp = true) ∧ (s.power ≠ .doze) :=
  ⟨Tests.served, by decide +kernel⟩
theorem Tests.witness_StartUp_0 :
    ∃ (s : State) (r : State), (r = s.powerOff) :=
  ⟨Tests.served, _, rfl⟩
theorem Tests.witness_StartUp_1 :
    ∃ (s : State) (f : StartFindings), (s.power = .off) ∧ (s.vin = true) ∧ (s.porst = true) :=
  ⟨Tests.held, Tests.findings, by decide +kernel⟩
theorem Tests.witness_StartUp_2 :
    ∃ (s : State) (ok : Bool) (ms : Nat) (s1 : State), (s.power ≠ .off) ∧ (s.svc.restoreDue = some (ok, ms)) ∧ (s1 = (if s.svc.boot.present then s.restoreSettings else s)) :=
  ⟨{ Tests.served with svc := { Tests.served.svc with restoreDue := some (true, 90) } }, true, 90, _, by decide, rfl, rfl⟩
theorem Tests.witness_StartUp_3 :
    ∃ (s : State), (s.power ≠ .off) :=
  ⟨Tests.served, by decide +kernel⟩
theorem Tests.witness_StartUp_4 :
    ∃ (s : State), (s.power = .off) :=
  ⟨Tests.held, by decide +kernel⟩
theorem Tests.witness_StartUp_5 :
    ∃ (s : State), (s.vin = false) :=
  ⟨{ State.reset with vin := false }, by decide +kernel⟩
theorem Tests.witness_StartUp_6 :
    ∃ (s : State) (p : PState), (s.power = .doze) ∧ (s.toward = none) ∧ (p = (if s.svc.boot.requested = 1 ∧ s.runConditions then .run else .idle)) :=
  ⟨{ Tests.served with power := .doze }, .idle, by decide, by decide, by decide⟩
theorem Tests.witness_StartUp_7 :
    ∃ (s : State) (p : PState) (s2 s3 : State), (s.power = .doze) ∧ (s.toward = some p) ∧ (s2 = forAll allDies (fun s d => s.modDie d Die.wake) s.reloadRoutines.takeEnis.requeueTasks) ∧ (s3 = { s2 with pcie := if s2.pcie.link then { s2.pcie with rate := s2.pcie.fullRate, width := s2.pcie.fullWidth } else s2.pcie }) :=
  ⟨{ Tests.served with power := .doze, toward := some .run }, .run, _, _, by decide, rfl, rfl, rfl⟩
theorem Tests.witness_TestPort_0 :
    ∃ (s : State), (s.vin = true) :=
  ⟨Tests.held, by decide +kernel⟩
theorem Tests.witness_TestPort_1 :
    ∃ (s : State), (s.vin = true) ∧ (s.testable true = true) :=
  ⟨Tests.held, by decide +kernel⟩
theorem Tests.witness_TestPort_2 :
    ∃ (s : State), (s.vin = true) ∧ (s.testable true = true) :=
  ⟨Tests.held, by decide +kernel⟩
theorem Tests.witness_TestPort_3 :
    ∃ (s : State), (s.vin = true) ∧ (s.testable true = true) :=
  ⟨Tests.held, by decide +kernel⟩
theorem Tests.witness_TestPort_4 :
    ∃ (s : State), (s.vin = true) ∧ (s.testable true = true) :=
  ⟨Tests.held, by decide +kernel⟩
theorem Tests.witness_TestPort_5 :
    ∃ (s : State) (d : Byte) (answers : Bool), (s.vin = true) ∧ (s.testable true = true) ∧ (s.keyless = true) :=
  ⟨Tests.held, 16, true, by decide +kernel⟩
theorem Tests.witness_TestPort_6 :
    ∃ (s : State) (mask : BitVec 17), (s.vin = true) ∧ (s.testable true = true) ∧ (s.keyless = true) :=
  ⟨Tests.held, 3, by decide +kernel⟩
theorem Tests.witness_TestPort_7 :
    ∃ (s : State) (testEn : Bool) (d : Byte) (answers : Bool) (mask : BitVec 17), (s.vin = true) ∧ (s.testable testEn = false) :=
  ⟨Tests.held, false, 0, true, 0, by decide +kernel⟩
theorem Tests.witness_TestPort_8 :
    ∃ (s : State) (failBits : Nat) (m : BitVec 17), (s.test.mbistMask = some m) :=
  ⟨{ Tests.held with test := { Tests.held.test with mbistMask := some 0x1FFFF } }, 0, 0x1FFFF, by decide +kernel⟩
theorem Tests.witness_VecConvert_0 :
    ∃ (s : State) (t : TileId) (w : WordTag) (f : VFmt) (vd va vb : Fin 32) (imm : Byte) (part : Fin 4),
      Acts s t w ∧
      imm.toNat < VFmt.count f :=
  ⟨Tests.running, 0, Tests.word, .fp32, 0, 1, 2, 63, 0, by decide, by decide⟩
theorem Tests.witness_VecConvert_1 :
    ∃ (s : State) (t : TileId) (w : WordTag) (f : VFmt) (vd va vb : Fin 32) (imm : Byte) (part : Fin 4) (src : Nat → Nat × Bool),
      Acts s t w ∧
      (src = (fun k => if k < 128 then (((s.tile t).vreg va).elem .int16 k, ((s.tile t).vreg va).elemPoison .int16 k)
      else (((s.tile t).vreg vb).elem .int16 (k - 128), ((s.tile t).vreg vb).elemPoison .int16 (k - 128)))) :=
  ⟨Tests.running, 0, Tests.word, .int16, 0, 1, 2, 255, 3, _, by decide, rfl⟩
theorem Tests.witness_VecConvert_2 :
    ∃ (s : State) (t : TileId) (w : WordTag) (f : VFmt) (vd va vb : Fin 32) (imm : Byte) (part : Fin 4),
      Acts s t w ∧
      f.macwOk part = true :=
  ⟨Tests.running, 0, Tests.word, .int16, 0, 1, 2, 0, 1, by decide, by decide⟩
theorem Tests.witness_VecConvert_3 :
    ∃ (s : State) (t : TileId) (w : WordTag), Acts s t w :=
  ⟨Tests.running, 0, Tests.word, by decide⟩
theorem Tests.witness_VecConvert_4 :
    ∃ (s : State) (t : TileId) (w : WordTag) (f : VFmt) (vd va vb vc : Fin 32) (dst : VFmt) (part : Fin 4) (entry : Fin 32),
      Acts s t w ∧
      f.cvtOk dst part = true :=
  ⟨Tests.running, 0, Tests.word, .int32, 0, 1, 2, 3, .int16, 1, 0, by decide, by decide⟩
theorem Tests.witness_VecConvert_5 :
    ∃ (s : State) (t : TileId) (w : WordTag), Acts s t w :=
  ⟨Tests.running, 0, Tests.word, by decide⟩
theorem Tests.witness_StatisticsOps_0 :
    ∃ (s : State) (t : TileId) (w : WordTag) (vd va : Fin 32) (reg : Fin 16) (latch : Fin 4) (y : _),
      Acts s t w ∧
      (y = { s.tile t with
      stats := mset Stat.reset (s.tile t).stats reg.val ((s.tile t).stat reg.val).clear
      statQ := (s.tile t).statQ.filter fun q => decide (q.2.1 ≠ reg.val) }) ∧
      ((s.tile t).lastObs = none ∨ ∃ c o rows, (s.tile t).lastObs = some (c, o, rows) ∧ c ≠ (s.tile t).pcyc) :=
  ⟨Tests.running, 0, Tests.word, 0, 1, 15, 3, _, by decide, rfl, .inl (by decide)⟩
theorem Tests.witness_StatisticsOps_0b :
    ∃ (s : State) (t : TileId) (w : WordTag), Acts s t w ∧ ∃ c o rows, (s.tile t).lastObs = some (c, o, rows) ∧ c ≠ (s.tile t).pcyc :=
  ⟨Tests.running.modTile 0 (fun x => { x with lastObs := some (1, ⟨0, [], true, false, none⟩, []) }), 0, Tests.word, by decide, 1, _, _, rfl, by decide⟩
theorem Tests.witness_StatisticsOps_1 :
    ∃ (s : State) (t : TileId) (w : WordTag) (vd va : Fin 32) (reg : Fin 16) (latch : Fin 4) (y : _) (o rows : _),
      Acts s t w ∧
      (y = { s.tile t with
      stats := mset Stat.reset (s.tile t).stats reg.val ((s.tile t).stat reg.val).clear
      statQ := (s.tile t).statQ.filter fun q => decide (q.2.1 ≠ reg.val) }) ∧
      ((s.tile t).lastObs = some ((s.tile t).pcyc, o, rows)) :=
  ⟨Tests.running.modTile 0 (fun x => { x with lastObs := some (0, ⟨0, [], true, false, none⟩, []) }), 0, Tests.word, 0, 1, 15, 3, _, _, _, by decide, rfl, rfl⟩
theorem Tests.witness_StatisticsOps_2 :
    ∃ (s : State) (t : TileId) (w : WordTag), Acts s t w :=
  ⟨Tests.running, 0, Tests.word, by decide⟩
theorem Tests.witness_StatisticsOps_3 :
    ∃ (s : State) (t : TileId) (w : WordTag) (f : VFmt) (vd va vb vc : Fin 32) (tag imm : Byte) (rs re : Bool) (e : FormatEntry) (a : VReg) (q : QntRule) (codes : List (Int × Bool × Bool)) (row : RowScale) (obs : Observation) (v : VReg),
      Acts s t w ∧
      VFmt.isInt f = false ∧
      s.format imm = some e ∧
      a = (s.tile t).vreg va ∧
      q = (s.tile t).qntRule e vb w.platch ∧
      (codes = (List.range (VFmt.count f)).map (fun k => quantise q f (a.elem f k))) ∧
      (row = ⟨BitVec.ofNat 32 (rowScaleOf ((s.tile t).statVisible (vb.val % 16)).val.toNat).1,
      (codes.all fun c => decide (c.1 = 0)) && (rs || (mget RowScale.zero (s.tile t).rowScales vc.val).flat)⟩) ∧
      (obs = ⟨tag.toNat, (List.range (VFmt.count f)).map (fun k => obsOf f (a.elem f k) (a.elemPoison f k)), rs, re,
      some (((List.range (VFmt.count f)).zip codes).all fun p => decide (p.2.1 = q.zp) && !p.2.2.1 && !a.elemPoison f p.1)⟩) ∧
      (v = VReg.ofElems 16
      ((List.range 128).map fun k => if decide (k < VFmt.count f) && a.elemPoison f k then Config.poisonedValue s.free k else
      (match codes[k]? with
      | some c => uint 16 c.1
      | none => 0))
      ((List.range 128).map fun k => decide (k < VFmt.count f) && a.elemPoison f k)) :=
  ⟨Tests.programmed, 0, Tests.word, .fp32, 0, 1, 2, 3, 0, 0, true, false, Tests.entry, _, _, _, _, _, _, by decide, rfl, rfl, rfl, rfl, rfl, rfl, rfl, rfl⟩
theorem Tests.witness_IntegerSaturation_0 :
    ∃ f : VFmt, VFmt.isInt f = true :=
  ⟨.int16, by decide⟩
theorem Tests.witness_StorevStores_0 :
    ∃ (s : State) (o : HdOrigin) (w : HdWidth) (a : Fin 32) (hbo : W32),
      HdIssues s o (.storev o w a hbo) ∧
      HdOrigin.regOk o a = true ∧
      hbo.toNat % 32 = 0 ∧
      hdWriteOk hbo.toNat (HdWidth.bits w / 8) = true :=
  ⟨Tests.running, .host, .w8192, 24, 0x67FC00, ⟨by decide, rfl, by decide, by decide⟩, by decide, by decide, by decide⟩
theorem Tests.witness_SequencerWords_0 :
    ∃ (s : State) (t : TileId) (w : WordTag) (trips : _),
      Issues s t w ∧
      trips ≠ 0 ∧
      ((s.tile t).loops.length < 4) :=
  ⟨Tests.running.modTile 0 (fun x => { x with loops := List.replicate 3 ⟨1, 2, 3, 0⟩ }), 0, Tests.word, 1, by decide⟩
theorem Tests.witness_SequencerWords_1 :
    ∃ (s : State) (t : TileId) (w : WordTag) (group : Fin 16) (a : _),
      Issues s t w ∧
      s.pathStart t group.val = some a :=
  ⟨Tests.programmed, 0, Tests.word, 0, 9, by decide⟩
theorem Tests.witness_SequencerWords_2 :
    ∃ (s : State) (t : TileId) (w : WordTag) (latch : Fin 4) (reg : Fin 16) (r : _),
      Issues s t w ∧
      r = (s.tile t).statVisible reg.val :=
  ⟨Tests.running, 0, Tests.word, 3, 15, _, by decide, rfl⟩
theorem Tests.witness_SequencerWords_3 :
    ∃ (s : State) (t : TileId) (w : WordTag),
      Issues s t w ∧
      Issues s t ⟨false, false, 0, true, false, 0⟩ :=
  ⟨Tests.running, 0, Tests.word, by decide, by decide⟩
theorem Tests.witness_SequencerWords_4 :
    ∃ (s : State) (t : TileId) (w : WordTag), Issues s t w :=
  ⟨Tests.running, 0, Tests.word, by decide⟩
theorem Tests.witness_SequencerWords_5 :
    ∃ (s : State) (t : TileId) (w : WordTag), Issues s t w :=
  ⟨Tests.running, 0, Tests.word, by decide⟩
theorem Tests.witness_SequencerWords_6 :
    ∃ (s : State) (t : TileId) (w : WordTag), Issues s t w :=
  ⟨Tests.running, 0, Tests.word, by decide⟩
theorem Tests.witness_TurnstileWords_0 :
    ∃ (s : State) (t : TileId) (w : WordTag) (sc : SynScope) (n : Byte) (value : BitVec 14),
      Issues s t w ∧
      sc.tsOk n = true ∧
      value ≠ 0 :=
  ⟨Tests.running, 0, Tests.word, .own, 63, 1, by decide⟩
theorem Tests.witness_TurnstileWords_1 :
    ∃ (s : State) (t : TileId) (w : WordTag) (sc : SynScope) (n : Byte) (value : BitVec 14),
      Issues s t w ∧
      sc.tsOk n = true :=
  ⟨Tests.running, 0, Tests.word, .global, 255, 1, by decide⟩
theorem Tests.witness_TurnstileWords_2 :
    ∃ (s : State) (t : TileId) (w : WordTag) (sc : SynScope) (n : Byte) (rel : Bool) (value : BitVec 14),
      Issues s t w ∧
      sc.tsOk n = true ∧
      ((s.tile t).phase = 0) ∧
      (s.waitHolds t sc n value = true ∨ s.codeWait t = some (sc, n, value)) :=
  ⟨{ Tests.running with frame := { Tests.running.frame with dieLost := true } }, 0, Tests.word, .own, 0, true, 1, by decide, by decide, by decide, .inl (by decide +kernel)⟩
theorem Tests.witness_TurnstileWords_3 :
    ∃ (s : State) (t : TileId) (w : WordTag) (sc : SynScope) (n : Byte) (rel : Bool) (value : BitVec 14),
      Issues s t w ∧
      sc.tsOk n = true ∧
      ((s.tile t).phase = 0) ∧
      s.waitHolds t sc n value = false ∧
      s.codeWait t ≠ some (sc, n, value) :=
  ⟨Tests.running, 0, Tests.word, .own, 0, true, 1, by decide, by decide, by decide, by decide +kernel, by decide +kernel⟩
theorem Tests.witness_MoveWord_0 :
    ∃ (s : State) (t : TileId) (w : WordTag) (n : BitVec 12) (row : BitVec 13) (str : BitVec 6) (upset : List (Nat × BitVec 32)) (d : MoveDesc) (u : TileId) (os : List Nat),
      Acts s t w ∧
      s.desc n = some d ∧
      d.kind = .move ∧
      Handle.tile? d.target = some u ∧
      (os = ((s.tile t).moves.map fun m => beatOverlap m.age (beats m.compress m.count) (beats d.compress d.count)).filter
      (fun o => decide (0 < o))) :=
  ⟨Tests.programmed, 0, Tests.word, 0, 8191, 0, [], Tests.descs[0], 1, _, by decide, rfl, rfl, by decide, rfl⟩
theorem Tests.witness_TransferWords_0 :
    ∃ (s : State) (t : TileId) (w : WordTag) (n : BitVec 12) (d : MoveDesc), Acts s t w ∧ (s.tile t).transfers.length < 16 ∧ s.desc n = some d ∧ d.kind = .load ∧ s.extentOk d.kind (s.remoteOf t d) d.count d.compress = true :=
  ⟨Tests.programmed, 0, Tests.word, 1, Tests.descs[1], by decide⟩
theorem Tests.witness_TransferWords_1 :
    ∃ (s : State) (t : TileId) (w : WordTag) (n : BitVec 12) (d : MoveDesc), Acts s t w ∧ (s.tile t).transfers.length < 16 ∧ s.desc n = some d ∧ d.kind = .store ∧ s.extentOk d.kind (s.remoteOf t d) d.count d.compress = true :=
  ⟨Tests.programmed, 0, Tests.word, 2, Tests.descs[2], by decide⟩
theorem Tests.witness_TransferWords_2 :
    ∃ (s : State) (t : TileId) (w : WordTag) (n : BitVec 12) (d : MoveDesc), Acts s t w ∧ (s.tile t).transfers.length < 16 ∧ s.desc n = some d ∧ d.kind = .hload ∧ s.extentOk d.kind (s.remoteOf t d) d.count d.compress = true :=
  ⟨Tests.programmed, 0, Tests.word, 3, Tests.descs[3], by decide⟩
theorem Tests.witness_TransferWords_3 :
    ∃ (s : State) (t : TileId) (w : WordTag) (n : BitVec 12) (d : MoveDesc), Acts s t w ∧ (s.tile t).transfers.length < 16 ∧ s.desc n = some d ∧ d.kind = .hstore ∧ s.extentOk d.kind (s.remoteOf t d) d.count d.compress = true :=
  ⟨Tests.programmed, 0, Tests.word, 4, Tests.descs[4], by decide⟩
theorem Tests.witness_TransferWords_4 :
    ∃ (s : State) (t : TileId) (w : WordTag) (n : BitVec 12) (row : BitVec 13) (str : BitVec 6) (d : MoveDesc) (r : State),
      Acts s t w ∧
      s.desc n = some d ∧
      r = (s.applyDone t (s.doneTo t d) true).event 0x5032 (tileHandle t) ∧
      (16 ≤ (s.tile t).transfers.length ∨ s.extentOk d.kind (s.remoteOf t d) d.count d.compress = false) ∧
      d.kind = .load :=
  ⟨(Tests.programmed.modTile 0 (fun x => { x with transfers := List.replicate 16 (Tests.programmed.newTransfer 0 0 Tests.descs[1]) })), 0, Tests.word, 1, 8191, 0, Tests.descs[1], _, by decide, rfl, rfl, .inl (by decide), rfl⟩
theorem Tests.witness_TransferWords_5 :
    ∃ (s : State) (t : TileId) (w : WordTag) (n : BitVec 12) (row : BitVec 13) (str : BitVec 6) (d : MoveDesc) (r : State),
      Acts s t w ∧
      s.desc n = some d ∧
      r = (s.applyDone t (s.doneTo t d) true).event 0x5032 (tileHandle t) ∧
      (16 ≤ (s.tile t).transfers.length ∨ s.extentOk d.kind (s.remoteOf t d) d.count d.compress = false) ∧
      d.kind = .store :=
  ⟨(Tests.programmed.modTile 0 (fun x => { x with transfers := List.replicate 16 (Tests.programmed.newTransfer 0 0 Tests.descs[1]) })), 0, Tests.word, 2, 8191, 0, Tests.descs[2], _, by decide, rfl, rfl, .inl (by decide), rfl⟩
theorem Tests.witness_TransferWords_6 :
    ∃ (s : State) (t : TileId) (w : WordTag) (n : BitVec 12) (row : BitVec 13) (str : BitVec 6) (d : MoveDesc) (r : State),
      Acts s t w ∧
      s.desc n = some d ∧
      r = (s.applyDone t (s.doneTo t d) true).event 0x5032 (tileHandle t) ∧
      (16 ≤ (s.tile t).transfers.length ∨ s.extentOk d.kind (s.remoteOf t d) d.count d.compress = false) ∧
      d.kind = .hload :=
  ⟨(Tests.programmed.modTile 0 (fun x => { x with transfers := List.replicate 16 (Tests.programmed.newTransfer 0 0 Tests.descs[1]) })), 0, Tests.word, 3, 8191, 0, Tests.descs[3], _, by decide, rfl, rfl, .inl (by decide), rfl⟩
theorem Tests.witness_TransferWords_7 :
    ∃ (s : State) (t : TileId) (w : WordTag) (n : BitVec 12) (row : BitVec 13) (str : BitVec 6) (d : MoveDesc) (r : State),
      Acts s t w ∧
      s.desc n = some d ∧
      r = (s.applyDone t (s.doneTo t d) true).event 0x5032 (tileHandle t) ∧
      (16 ≤ (s.tile t).transfers.length ∨ s.extentOk d.kind (s.remoteOf t d) d.count d.compress = false) ∧
      d.kind = .hstore :=
  ⟨(Tests.programmed.modTile 0 (fun x => { x with transfers := List.replicate 16 (Tests.programmed.newTransfer 0 0 Tests.descs[1]) })), 0, Tests.word, 4, 8191, 0, Tests.descs[4], _, by decide, rfl, rfl, .inl (by decide), rfl⟩
theorem Tests.witness_TransferWords_8 :
    ∃ (s : State) (t : TileId) (w : WordTag) (n : BitVec 12) (row : BitVec 13) (str : BitVec 6) (d : MoveDesc) (r : State),
      Acts s t w ∧
      s.desc n = some d ∧
      r = (s.applyDone t (s.doneTo t d) true).event 0x5032 (tileHandle t) ∧
      d.kind ≠ .move :=
  ⟨Tests.programmed, 0, Tests.word, 5, 8191, 0, Tests.descs[5], _, by decide, rfl, rfl, by decide⟩
theorem Tests.witness_TransferWords_9 :
    ∃ (s : State) (t : TileId) (w : WordTag) (n : BitVec 12) (row : BitVec 13) (str : BitVec 6) (d : MoveDesc) (r : State),
      Acts s t w ∧
      s.desc n = some d ∧
      r = (s.applyDone t (s.doneTo t d) true).event 0x5032 (tileHandle t) ∧
      d.kind ≠ .load :=
  ⟨Tests.programmed, 0, Tests.word, 5, 8191, 0, Tests.descs[5], _, by decide, rfl, rfl, by decide⟩
theorem Tests.witness_TransferWords_10 :
    ∃ (s : State) (t : TileId) (w : WordTag) (n : BitVec 12) (row : BitVec 13) (str : BitVec 6) (d : MoveDesc) (r : State),
      Acts s t w ∧
      s.desc n = some d ∧
      r = (s.applyDone t (s.doneTo t d) true).event 0x5032 (tileHandle t) ∧
      d.kind ≠ .store :=
  ⟨Tests.programmed, 0, Tests.word, 5, 8191, 0, Tests.descs[5], _, by decide, rfl, rfl, by decide⟩
theorem Tests.witness_TransferWords_11 :
    ∃ (s : State) (t : TileId) (w : WordTag) (n : BitVec 12) (row : BitVec 13) (str : BitVec 6) (d : MoveDesc) (r : State),
      Acts s t w ∧
      s.desc n = some d ∧
      r = (s.applyDone t (s.doneTo t d) true).event 0x5032 (tileHandle t) ∧
      d.kind ≠ .hload :=
  ⟨Tests.programmed, 0, Tests.word, 5, 8191, 0, Tests.descs[5], _, by decide, rfl, rfl, by decide⟩
theorem Tests.witness_TransferWords_12 :
    ∃ (s : State) (t : TileId) (w : WordTag) (n : BitVec 12) (row : BitVec 13) (str : BitVec 6) (d : MoveDesc) (r : State),
      Acts s t w ∧
      s.desc n = some d ∧
      r = (s.applyDone t (s.doneTo t d) true).event 0x5032 (tileHandle t) ∧
      d.kind ≠ .hstore :=
  ⟨Tests.programmed, 0, Tests.word, 5, 8191, 0, Tests.descs[5], _, by decide, rfl, rfl, by decide⟩
theorem Tests.witness_TransferWords_13 :
    ∃ (s : State) (t : TileId) (w : WordTag) (n : BitVec 12) (row : BitVec 13) (str : BitVec 6) (d : MoveDesc) (r : State),
      Acts s t w ∧
      s.desc n = some d ∧
      r = (s.applyDone t (s.doneTo t d) true).event 0x5032 (tileHandle t) ∧
      d.kind ≠ .ticket :=
  ⟨Tests.programmed, 0, Tests.word, 1, 8191, 0, Tests.descs[1], _, by decide, rfl, rfl, by decide⟩
theorem Tests.witness_TicketWord_0 :
    ∃ (s : State) (t : TileId) (w : WordTag) (n : BitVec 12) (d : MoveDesc) (u : TileId), Acts s t w ∧ s.desc n = some d ∧ d.kind = .ticket ∧ Handle.tile? d.target = some u ∧ u = t :=
  ⟨Tests.programmed, 0, Tests.word, 5, Tests.descs[5], 0, by decide⟩
theorem Tests.witness_TicketWord_1 :
    ∃ (s : State) (t : TileId) (w : WordTag) (n : BitVec 12) (d : MoveDesc) (u : TileId), Acts s t w ∧ s.desc n = some d ∧ d.kind = .ticket ∧ Handle.tile? d.target = some u ∧ u ≠ t ∧ (s.tile t).transfers.length < 16 :=
  ⟨Tests.programmed, 0, Tests.word, 6, Tests.descs[6], 1, by decide⟩
theorem Tests.witness_MemWords_0 :
    ∃ (s : State) (t : TileId) (w : WordTag) (row : BitVec 13) (str : BitVec 6) (v : Fin 32) (upset : BitVec 32) (n : Nat),
      Acts s t w ∧
      ((s.tile t).memFree = true) ∧
      n = s.operand t 8192 row.toNat str :=
  ⟨Tests.running, 0, Tests.word, 8191, 0, 3, 1, _, by decide, by decide, rfl⟩
theorem Tests.witness_MemWords_1 :
    ∃ (s : State) (t : TileId) (w : WordTag) (row : BitVec 13) (str : BitVec 6) (v : Fin 32) (upset : BitVec 32) (n : Nat) (tag fmt rs re x : _),
      Acts s t w ∧
      ((s.tile t).memFree = true) ∧
      n = s.operand t 8192 row.toNat str ∧
      x = (s.tile t).observe (wrObservation ((s.tile t).vreg v) tag fmt rs re) :=
  ⟨Tests.running, 0, Tests.word, 8191, 0, 3, 1, _, 5, .fp32, true, true, _, by decide, by decide, rfl, rfl⟩
theorem Tests.witness_MemWords_2 :
    ∃ (s : State) (t : TileId) (w : WordTag) (row : BitVec 13) (str : BitVec 6) (v : Fin 32) (upset : BitVec 32) (n : Nat) (r s1 : _) (part fidx e : _),
      Acts s t w ∧
      ((s.tile t).memFree = true) ∧
      n = s.operand t 8192 row.toNat str ∧
      r = { (s.tile t).row n with poison := ((s.tile t).row n).poison ||| upset } ∧
      (s1 = (if upset = 0 then s else (s.withTile t ((s.tile t).setRow n r)).event 0x3010 (tileHandle t)).usesWide t n) ∧
      s.format fidx = some e ∧
      feedOk (some e) part = true :=
  ⟨Tests.programmed, 0, Tests.word, 8191, 0, 3, 1, _, _, _, 1, 0, Tests.entry, by decide, by decide, rfl, rfl, rfl, by decide, by decide⟩
theorem Tests.witness_MemWords_3 :
    ∃ (s : State) (t : TileId) (w : WordTag) (row : BitVec 13) (str : BitVec 6) (v : Fin 32) (upset : BitVec 32) (n : Nat) (r s1 : _),
      Acts s t w ∧
      ((s.tile t).memFree = true) ∧
      n = s.operand t 8192 row.toNat str ∧
      r = { (s.tile t).row n with poison := ((s.tile t).row n).poison ||| upset } ∧
      (s1 = (if upset = 0 then s else (s.withTile t ((s.tile t).setRow n r)).event 0x3010 (tileHandle t)).usesWide t n) :=
  ⟨Tests.running, 0, Tests.word, 8191, 0, 3, 1, _, _, _, by decide, by decide, rfl, rfl, rfl⟩
theorem Tests.witness_MemWords_4 :
    ∃ (s : State) (t : TileId) (w : WordTag) (row dst count : BitVec 13) (str : BitVec 6) (v : Fin 32) (n : Nat),
      Acts s t w ∧
      ((s.tile t).memFree = true) ∧
      n = s.operand t 8192 row.toNat str ∧
      n + count.toNat < 8192 ∧
      dst.toNat + count.toNat < 8192 :=
  ⟨Tests.running, 0, Tests.word, 0, 0, 8191, 0, 3, 0, by decide, by decide, by decide, by decide, by decide⟩
theorem Tests.witness_MemWords_5 :
    ∃ (s : State) (t : TileId) (w : WordTag) (row dst count : BitVec 13) (str : BitVec 6) (v : Fin 32) (n : Nat),
      Acts s t w ∧
      ((s.tile t).memFree = true) ∧
      n = s.operand t 8192 row.toNat str ∧
      n + count.toNat < 8192 :=
  ⟨Tests.running, 0, Tests.word, 0, 0, 8191, 0, 3, 0, by decide, by decide, by decide, by decide⟩
theorem Tests.witness_EngWords_0 :
    ∃ (s : State) (t : TileId) (w : WordTag) (emask : BitVec 16) (str : BitVec 6) (pw m bipolar : _),
      Acts s t w ∧
      evalOk pw m bipolar = true ∧
      ((s.tile t).phase = 0) :=
  ⟨Tests.running, 0, Tests.word, 0xFFFF, 0, 3, false, false, by decide, by decide, by decide⟩
theorem Tests.witness_EngWords_1 :
    ∃ (s : State) (t : TileId) (w : WordTag) (emask : BitVec 16) (str : BitVec 6) (rows : Bool) (addr : BitVec 13) (a : Nat) (sums : List (Int × Bool × Bool × Bool)) (beat : Nat → VReg) (sat : Nat → TileFlags),
      Acts s t w ∧
      a = s.operand t 8192 addr.toNat str ∧
      engAddOk rows (BitVec.ofNat 13 a) = true ∧
      (sums = (List.range 256).map (fun k => s.laneSum (maskEngines t emask) k)) ∧
      (∀ i, beat i = VReg.ofElems 32 ((List.range 64).map fun k =>
      if (sums.getD (64 * i + k) (0, false, false, false)).2.1 then Config.poisonedValue s.free (64 * i + k)
      else uint 32 (sums.getD (64 * i + k) (0, false, false, false)).1)
      ((List.range 64).map fun k => (sums.getD (64 * i + k) (0, false, false, false)).2.1)) ∧
      (∀ i, sat i = if ((sums.drop (64 * i)).take 64).any (fun q => q.2.2.2) then TileFlags.satOnly else TileFlags.zero) :=
  ⟨Tests.running, 0, Tests.word, 0xFFFF, 0, true, 8188, 8188, _, _, _, by decide, by decide, by decide, rfl, fun _ => rfl, fun _ => rfl⟩
theorem Tests.witness_EngWords_2 :
    ∃ (s : State) (t : TileId) (w : WordTag) (emask : BitVec 16) (str : BitVec 6),
      Acts s t w :=
  ⟨Tests.running, 0, Tests.word, 0xFFFF, 0, by decide⟩
theorem Tests.witness_ResultLanding_0 :
    ∃ (s : State) (t : TileId) (l : Landing) (ls : List Landing) (x : Tile) (r v f : _),
      s.awake = true ∧
      s.frozen t = false ∧
      ((s.tile t).landings = l :: ls) ∧
      x = { s.tile t with landings := ls } ∧
      l.due ≤ (s.tile t).pcyc ∧
      l.what = .vreg r v f :=
  ⟨Tests.running.modTile 0 (fun x => { x with pcyc := 4, landings := [⟨4, .vreg 1 VReg.zero TileFlags.zero⟩] }), 0, ⟨4, .vreg 1 VReg.zero TileFlags.zero⟩, [], _, _, _, _, by decide, by decide, rfl, rfl, by decide, rfl⟩
theorem Tests.witness_ResultLanding_1 :
    ∃ (s : State) (t : TileId) (l : Landing) (ls : List Landing) (x : Tile) (n r f taint : _),
      s.awake = true ∧
      s.frozen t = false ∧
      ((s.tile t).landings = l :: ls) ∧
      x = { s.tile t with landings := ls } ∧
      l.due ≤ (s.tile t).pcyc ∧
      l.what = .row n r f taint :=
  ⟨Tests.running.modTile 0 (fun x => { x with pcyc := 4, landings := [⟨4, .row 1 Row.zero TileFlags.zero true⟩] }), 0, ⟨4, .row 1 Row.zero TileFlags.zero true⟩, [], _, _, _, _, _, by decide, by decide, rfl, rfl, by decide, rfl⟩
theorem Tests.witness_ResultLanding_2 :
    ∃ (s : State) (t : TileId) (l : Landing) (ls : List Landing) (x : Tile),
      s.awake = true ∧
      s.frozen t = false ∧
      ((s.tile t).landings = l :: ls) ∧
      x = { s.tile t with landings := ls } ∧
      l.due ≤ (s.tile t).pcyc ∧
      l.what = .flagClear :=
  ⟨Tests.running.modTile 0 (fun x => { x with pcyc := 4, landings := [⟨4, .flagClear⟩] }), 0, ⟨4, .flagClear⟩, [], _, by decide, by decide, rfl, rfl, by decide, rfl⟩
theorem Tests.witness_ResultLanding_3 :
    ∃ (s : State) (t : TileId) (l : Landing) (ls : List Landing) (x : Tile) (r : _),
      s.awake = true ∧
      s.frozen t = false ∧
      ((s.tile t).landings = l :: ls) ∧
      x = { s.tile t with landings := ls } ∧
      l.due ≤ (s.tile t).pcyc ∧
      l.what = .statClear r :=
  ⟨Tests.running.modTile 0 (fun x => { x with pcyc := 4, landings := [⟨4, .statClear 1⟩] }), 0, ⟨4, .statClear 1⟩, [], _, _, by decide, by decide, rfl, rfl, by decide, rfl⟩
theorem Tests.witness_ResultLanding_4 :
    ∃ (s : State) (t : TileId) (l : Landing) (ls : List Landing) (x : Tile) (r ctl clip bad f : _),
      s.awake = true ∧
      s.frozen t = false ∧
      ((s.tile t).landings = l :: ls) ∧
      x = { s.tile t with landings := ls } ∧
      l.due ≤ (s.tile t).pcyc ∧
      l.what = .statWrite r ctl clip bad ∧
      (f = (fun y : Stat => if bad then y.setBit 24 true else y.write ctl clip)) :=
  ⟨Tests.running.modTile 0 (fun x => { x with pcyc := 4, landings := [⟨4, .statWrite 1 2 3 true⟩] }), 0, ⟨4, .statWrite 1 2 3 true⟩, [], _, _, _, _, _, _, by decide, by decide, rfl, rfl, by decide, rfl, rfl⟩
theorem Tests.witness_ResultLanding_5 :
    ∃ (s : State) (t : TileId) (l : Landing) (ls : List Landing) (x : Tile) (e st : _),
      s.awake = true ∧
      s.frozen t = false ∧
      ((s.tile t).landings = l :: ls) ∧
      x = { s.tile t with landings := ls } ∧
      l.due ≤ (s.tile t).pcyc ∧
      l.what = .stage e st :=
  ⟨Tests.running.modTile 0 (fun x => { x with pcyc := 4, landings := [⟨4, .stage 1 ⟨8, [], []⟩⟩] }), 0, ⟨4, .stage 1 ⟨8, [], []⟩⟩, [], _, _, _, by decide, by decide, rfl, rfl, by decide, rfl⟩
theorem Tests.witness_ResultLanding_6 :
    ∃ (s : State) (t : TileId) (l : Landing) (ls : List Landing) (x : Tile),
      s.awake = true ∧
      s.frozen t = false ∧
      ((s.tile t).landings = l :: ls) ∧
      x = { s.tile t with landings := ls } ∧
      ((s.tile t).pcyc < l.due) :=
  ⟨Tests.running.modTile 0 (fun x => { x with pcyc := 4, landings := [⟨5, .flagClear⟩] }), 0, ⟨5, .flagClear⟩, [], _, by decide, by decide, rfl, rfl, by decide⟩
theorem Tests.witness_ArrayAndLanes_0 :
    ∃ (s : State) (e : EngineId) (c : TdcCapture) (i : Nat) (o : ArrayOp) (take : PlaneSums → Engine → Engine),
      s.awake = true ∧
      s.frozen (engineTile e) = false ∧
      ((s.engine e).ops.findIdx? (fun o => decide (o.planes.length < o.p)) = some i) ∧
      ((s.engine e).ops[i]? = some o) ∧
      o.captureAt o.planes.length ≤ (s.tile (engineTile e)).pcyc ∧
      (take = (fun p g => { g.issue (s.slotClock e) with ops := g.ops.set i { o with planes := o.planes ++ [p] } })) ∧
      o.bank = none :=
  ⟨((Tests.running.modTile 0 (fun x => { x with pcyc := 7 })).modEngine 0 (fun g => { g with ops := [⟨none, .bell, 1, false, true, false, [], false, [], 0⟩] })), 0, default, 0, _, _, by decide, by decide, by decide, rfl, by decide, rfl, rfl⟩
theorem Tests.witness_ArrayAndLanes_1 :
    ∃ (s : State) (e : EngineId) (c : TdcCapture) (i : Nat) (o : ArrayOp) (take : PlaneSums → Engine → Engine) (b rows p : _),
      s.awake = true ∧
      s.frozen (engineTile e) = false ∧
      ((s.engine e).ops.findIdx? (fun o => decide (o.planes.length < o.p)) = some i) ∧
      ((s.engine e).ops[i]? = some o) ∧
      o.captureAt o.planes.length ≤ (s.tile (engineTile e)).pcyc ∧
      (take = (fun p g => { g.issue (s.slotClock e) with ops := g.ops.set i { o with planes := o.planes ++ [p] } })) ∧
      o.bank = some b ∧
      rows = planeRows o.inputs o.planes.length ∧
      (p = slotSums c (s.bankTrims b) (if o.matchSense then 128 else popcount rows)
      (fun j => if o.set = .pair8 ∧ j % 2 = 1 then loBias rows ((s.bank b).contents.tempo.getD j []) else 0)) ∧
      p.poison = false ∧
      p.clamped = [] :=
  ⟨((Tests.running.modTile 0 (fun x => { x with pcyc := 7 })).modEngine 0 (fun g => { g with ops := [⟨some 0, .bell, 1, true, true, false, [], false, [], 0⟩] })), 0, ⟨1000, 3048, List.replicate 256 2024⟩, 0, _, _, 0, _, _, by decide, by decide, by decide, rfl, by decide, rfl, rfl, rfl, rfl, by decide +kernel, by decide +kernel⟩
theorem Tests.witness_ArrayAndLanes_2 :
    ∃ (s : State) (e : EngineId) (c : TdcCapture) (i : Nat) (o : ArrayOp) (take : PlaneSums → Engine → Engine) (b rows p : _),
      s.awake = true ∧
      s.frozen (engineTile e) = false ∧
      ((s.engine e).ops.findIdx? (fun o => decide (o.planes.length < o.p)) = some i) ∧
      ((s.engine e).ops[i]? = some o) ∧
      o.captureAt o.planes.length ≤ (s.tile (engineTile e)).pcyc ∧
      (take = (fun p g => { g.issue (s.slotClock e) with ops := g.ops.set i { o with planes := o.planes ++ [p] } })) ∧
      o.bank = some b ∧
      rows = planeRows o.inputs o.planes.length ∧
      (p = slotSums c (s.bankTrims b) (if o.matchSense then 128 else popcount rows)
      (fun j => if o.set = .pair8 ∧ j % 2 = 1 then loBias rows ((s.bank b).contents.tempo.getD j []) else 0)) :=
  ⟨((Tests.running.modTile 0 (fun x => { x with pcyc := 7 })).modEngine 0 (fun g => { g with ops := [⟨some 0, .bell, 1, true, true, false, [], false, [], 0⟩] })), 0, ⟨1, 2, []⟩, 0, _, _, 0, _, _, by decide, by decide, by decide, rfl, by decide, rfl, rfl, rfl, rfl⟩
theorem Tests.witness_ArrayAndLanes_3 :
    ∃ (s : State) (e : EngineId) (o : ArrayOp) (rest : List ArrayOp),
      s.awake = true ∧
      s.frozen (engineTile e) = false ∧
      ((s.engine e).ops = o :: rest) ∧
      (o.planes.length < o.p ∨ (s.tile (engineTile e)).pcyc < o.updateAt) :=
  ⟨((Tests.running.modTile 0 (fun x => { x with pcyc := 11 })).modEngine 0 (fun g => { g with ops := [⟨none, .bell, 1, false, true, false, [], false, [⟨[], false, []⟩], 0⟩] })), 0, _, [], by decide, by decide, rfl, .inr (by decide)⟩
theorem Tests.witness_ArrayAndLanes_3b :
    ∃ (s : State) (e : EngineId) (o : ArrayOp) (rest : List ArrayOp), s.awake = true ∧ s.frozen (engineTile e) = false ∧
      (s.engine e).ops = o :: rest ∧ o.planes.length < o.p :=
  ⟨((Tests.running.modTile 0 (fun x => { x with pcyc := 12 })).modEngine 0 (fun g => { g with ops := [⟨none, .bell, 1, false, true, false, [], false, [], 0⟩] })), 0, _, [], by decide, by decide, rfl, by decide⟩
theorem Tests.witness_ArrayAndLanes_4 :
    ∃ (s : State) (e : EngineId) (o : ArrayOp) (rest : List ArrayOp),
      s.awake = true ∧
      s.frozen (engineTile e) = false ∧
      ((s.engine e).ops = o :: rest) ∧
      o.p ≤ o.planes.length ∧
      o.updateAt ≤ (s.tile (engineTile e)).pcyc ∧
      o.bank = none :=
  ⟨((Tests.running.modTile 0 (fun x => { x with pcyc := 12 })).modEngine 0 (fun g => { g with ops := [⟨none, .bell, 1, false, true, false, [], false, [⟨[], false, []⟩], 0⟩] })), 0, _, [], by decide, by decide, rfl, by decide, by decide, rfl⟩
theorem Tests.witness_ArrayAndLanes_5 :
    ∃ (s : State) (e : EngineId) (o : ArrayOp) (rest : List ArrayOp) (b after : _),
      s.awake = true ∧
      s.frozen (engineTile e) = false ∧
      ((s.engine e).ops = o :: rest) ∧
      o.p ≤ o.planes.length ∧
      o.updateAt ≤ (s.tile (engineTile e)).pcyc ∧
      o.bank = some b ∧
      ((s.tile (engineTile e)).badPool = []) ∧
      after = s.operateLanes o b false (s.engine e).lanes :=
  ⟨((Tests.running.modTile 0 (fun x => { x with pcyc := 12 })).modEngine 0 (fun g => { g with ops := [⟨some 0, .bell, 1, false, true, false, [], false, [⟨[], false, []⟩], 0⟩] })), 0, _, [], 0, _, by decide, by decide, rfl, by decide, by decide, rfl, by decide, rfl⟩
theorem Tests.witness_SlotStart_0 :
    ∃ (s : State) (d : DieId) (free : List (EngineId × TdcCapture)) (bad : List TileId) (ds : List DieId) (s1 s2 : State),
      s.awake = true ∧
      s.dieIn d = true ∧
      ((s.die d).powered = true) ∧
      ds = s.throttleDies d ∧
      (s1 = (s.openSlot ds ((s.die d).clock + 4)).spoilWords (bad.filter fun t => ds.contains (tileDie t))) ∧
      s1.overruns = false ∧
      s2 = s1.markSlot ds false ∧
      ds.any s1.asksHold = true :=
  ⟨Tests.running.modDie 0 (fun x => { x with droopNext := true }), 0, [], [], _, _, _, by decide, by decide, by decide, rfl, rfl, by decide +kernel, rfl, by decide +kernel⟩
theorem Tests.witness_SlotStart_1 :
    ∃ (s : State) (d : DieId) (free : List (EngineId × TdcCapture)) (bad : List TileId) (ds : List DieId) (s1 s2 : State),
      s.awake = true ∧
      s.dieIn d = true ∧
      ((s.die d).powered = true) ∧
      ds = s.throttleDies d ∧
      (s1 = (s.openSlot ds ((s.die d).clock + 4)).spoilWords (bad.filter fun t => ds.contains (tileDie t))) ∧
      s1.overruns = false ∧
      s2 = s1.markSlot ds false ∧
      ds.any s1.asksHold = false ∧
      s2.waitsHold ds = false :=
  ⟨Tests.waiting, 0, [], [], _, _, _, by decide, by decide, by decide, rfl, rfl, by decide +kernel, rfl, by decide +kernel, by decide +kernel⟩
theorem Tests.witness_SlotStart_2 :
    ∃ (s : State) (d : DieId) (free : List (EngineId × TdcCapture)) (bad : List TileId) (ds : List DieId) (s1 s2 : State),
      s.awake = true ∧
      s.dieIn d = true ∧
      ((s.die d).powered = true) ∧
      ds = s.throttleDies d ∧
      (s1 = (s.openSlot ds ((s.die d).clock + 4)).spoilWords (bad.filter fun t => ds.contains (tileDie t))) ∧
      s1.overruns = false ∧
      s2 = s1.markSlot ds false ∧
      ds.any s1.asksHold = false ∧
      s2.waitsHold ds = true :=
  ⟨Tests.running, 0, [], [0], _, _, _, by decide, by decide, by decide, rfl, rfl, by decide +kernel, rfl, by decide +kernel, by decide +kernel⟩
theorem Tests.witness_HoldSlots_1 :
    ∃ (s : State) (c : Fin 17) (mV : Nat),
      s.awake = true ∧
      c.val = 0 ∧
      s.tableVoltage 0 ≤ mV + s.droopMargin :=
  ⟨Tests.running, 0, Tests.running.tableVoltage 0, by decide, by decide, by omega⟩
theorem Tests.witness_HoldSlots_4 :
    ∃ (s : State) (d : DieId), s.awake = true ∧ (s.die d).nextDr = none ∧ (s.die d).nDr < 16 :=
  ⟨Tests.running.modDie 0 (fun x => { x with nDr := 15 }), 0, by decide⟩
theorem Tests.witness_TurnstileRules_0 :
    ∃ (s : State) (t : TileId) (n : Byte) (op : TsOp) (poison : Bool) (vis : Nat) (old new : Ts) (k : _),
      s.tileIn t = true ∧
      n.toNat < 64 ∧
      (∀ u ∈ (s.tile t).tsQ, u.number ≠ n.toNat) ∧
      old = mget Ts.zero (s.tile t).tsSeen n.toNat ∧
      mget Ts.zero (s.tile t).turnstiles n.toNat = old ∧
      (new = (match op with
      | .add v => ⟨old.pois || poison, old.done || decide (old.target ≠ 0 ∧ old.target.toNat ≤ min 65535 (old.count.toNat + v)),
      old.target, BitVec.ofNat 16 (min 65535 (old.count.toNat + v))⟩
      | .reset target => ⟨poison, false, target, 0⟩
      | .poison => ⟨true, old.done, old.target, old.count⟩)) ∧
      k ≠ n.toNat :=
  ⟨Tests.running, 0, 63, .add 65535, true, 2, _, _, 62, by decide, by decide, by decide, rfl, rfl, rfl, by decide⟩
theorem Tests.witness_TurnstileRules_1 :
    ∃ (s : State) (t : TileId) (n : Byte) (op : TsOp) (poison : Bool) (vis : Nat) (old new : Ts) (u : _),
      s.tileIn t = true ∧
      n.toNat < 64 ∧
      (∀ u ∈ (s.tile t).tsQ, u.number ≠ n.toNat) ∧
      old = mget Ts.zero (s.tile t).tsSeen n.toNat ∧
      mget Ts.zero (s.tile t).turnstiles n.toNat = old ∧
      (new = (match op with
      | .add v => ⟨old.pois || poison, old.done || decide (old.target ≠ 0 ∧ old.target.toNat ≤ min 65535 (old.count.toNat + v)),
      old.target, BitVec.ofNat 16 (min 65535 (old.count.toNat + v))⟩
      | .reset target => ⟨poison, false, target, 0⟩
      | .poison => ⟨true, old.done, old.target, old.count⟩)) ∧
      u ≠ t :=
  ⟨Tests.running, 0, 63, .poison, true, 2, _, _, 1, by decide, by decide, by decide, rfl, rfl, rfl, by decide⟩
theorem Tests.witness_TurnstileRules_2 :
    ∃ (s : State) (t : TileId) (n : Byte) (op : TsOp) (poison : Bool) (vis : Nat) (old new : Ts),
      s.tileIn t = true ∧
      n.toNat < 64 ∧
      (∀ u ∈ (s.tile t).tsQ, u.number ≠ n.toNat) ∧
      old = mget Ts.zero (s.tile t).tsSeen n.toNat ∧
      mget Ts.zero (s.tile t).turnstiles n.toNat = old ∧
      (new = (match op with
      | .add v => ⟨old.pois || poison, old.done || decide (old.target ≠ 0 ∧ old.target.toNat ≤ min 65535 (old.count.toNat + v)),
      old.target, BitVec.ofNat 16 (min 65535 (old.count.toNat + v))⟩
      | .reset target => ⟨poison, false, target, 0⟩
      | .poison => ⟨true, old.done, old.target, old.count⟩)) :=
  ⟨Tests.running, 0, 63, .reset 0, true, 2, _, _, by decide, by decide, by decide, rfl, rfl, rfl⟩
theorem Tests.witness_GlobalUpdates_0 :
    ∃ (s : State) (u : GlobalUpdate) (old new : _),
      s.fabric.globals = [u] ∧
      u.op.isReset = false ∧
      old = mget Ts.zero s.globals.ts u.number.toNat ∧
      new = old.apply u.op u.poison ∧
      old.saturates u.op = false ∧
      (new.done = true → old.done = true) :=
  ⟨{ Tests.running with fabric := { Tests.running.fabric with globals := [⟨30, 255, .add 1, false, 0⟩] } }, ⟨30, 255, .add 1, false, 0⟩, _, _, by decide, by decide, rfl, rfl, by decide, by decide⟩
theorem Tests.witness_GlobalUpdates_1 :
    ∃ (s : State) (us mine : List GlobalUpdate) (h : GlobalUpdate),
      s.fabric.globals = us ∧
      (us.find? (fun u => decide (u.due = h.due)) = some h) ∧
      (∀ u ∈ us, h.due ≤ u.due) ∧
      (mine = us.filter (fun u => decide (u.due = h.due) && decide (u.number = h.number))) :=
  ⟨{ Tests.running with fabric := { Tests.running.fabric with globals := [⟨31, 0, .add 1, false, 0⟩, ⟨30, 255, .add 1, false, 0⟩, ⟨30, 255, .reset 2, false, 1⟩] } }, _, _, ⟨30, 255, .add 1, false, 0⟩, rfl, by decide, by decide, rfl⟩
theorem Tests.witness_GlobalUpdates_2 :
    ∃ (s : State) (d : DieId) (due n x rest : _),
      ((s.die d).shadowQ = (due, n, x) :: rest) :=
  ⟨Tests.running.modDie 0 (fun x => { x with shadowQ := [(30, 1, Ts.zero)] }), 0, 30, 1, Ts.zero, [], by decide⟩
theorem Tests.witness_TicketsAndRows_0 :
    ∃ (s : State) (t : TileId) (r : FabricRow),
      s.fabric.rows = [r] ∧
      r.dst = t ∧
      s.ownRow t r = true ∧
      s.ownDue t r = false :=
  ⟨{ Tests.running with fabric := { Tests.running.fabric with rows := [⟨30, 1, 0, 0, 0, 100, Row.zero, true, false, none, false, .tile 0 5 1⟩] } }, 0, ⟨30, 1, 0, 0, 0, 100, Row.zero, true, false, none, false, .tile 0 5 1⟩, by decide +kernel, by decide +kernel, by decide +kernel, by decide +kernel⟩
theorem Tests.witness_TicketsAndRows_1 :
    ∃ (s z s1 : State) (t : TileId) (r : FabricRow) (key : TileId × Nat),
      s.fabric.rows = [r] ∧
      r.dst = t ∧
      s.tileIn t = true ∧
      s.tileIn r.src = true ∧
      s.ringUp (tileDie r.src) (tileDie t) = true ∧
      key = (r.src, r.op) ∧
      r.lost = false ∧
      s.fabric.untrusted.contains key = false ∧
      (s.ownRow t r = true ∧ s.ownDue t r = true ∧ z = s ∨
      s.ownRow t r = false ∧ z = { s.withTile t { s.tile t with narrowPtr := r.src.val + 1 } with now := max s.now r.arrive }) ∧
      s1 = { z with fabric := { z.fabric with rows := [] } } ∧
      ((s.tile t).boothOf r.row = .held r.src.val) ∧
      r.data.anyPoison = false :=
  ⟨{ (Tests.running.modTile 0 fun x => { x with booth := [(100, .held 0)] }) with fabric := { Tests.running.fabric with rows := [⟨0, 1, 0, 0, 0, 100, Row.zero, true, false, none, false, .tile 0 5 1⟩] } }, _, _, 0, ⟨0, 1, 0, 0, 0, 100, Row.zero, true, false, none, false, .tile 0 5 1⟩, _, by decide +kernel, by decide +kernel, by decide +kernel, by decide +kernel, by decide +kernel, rfl, rfl, by decide +kernel, .inl ⟨by decide +kernel, by decide +kernel, rfl⟩, rfl, by decide +kernel, by decide +kernel⟩
theorem Tests.witness_TicketsAndRows_1b :
    ∃ (s : State) (t : TileId) (r : FabricRow), s.fabric.rows = [r] ∧ r.dst = t ∧ s.tileIn t = true ∧ s.tileIn r.src = true ∧
      s.ringUp (tileDie r.src) (tileDie t) = true ∧ r.lost = false ∧ s.fabric.untrusted.contains (r.src, r.op) = false ∧
      s.ownRow t r = false ∧ (s.tile t).boothOf r.row = .held r.src.val ∧ r.data.anyPoison = false :=
  ⟨{ (Tests.running.modTile 0 fun x => { x with booth := [(100, .held 32)] }) with fabric := { Tests.running.fabric with rows := [⟨30, 1, 32, 0, 0, 100, Row.zero, true, false, none, false, .tile 0 5 1⟩] } }, 0, ⟨30, 1, 32, 0, 0, 100, Row.zero, true, false, none, false, .tile 0 5 1⟩, by decide +kernel, by decide +kernel, by decide +kernel, by decide +kernel, by decide +kernel, rfl, by decide +kernel, by decide +kernel, by decide +kernel, by decide +kernel⟩
theorem Tests.witness_TicketsAndRows_2 :
    ∃ (s z s1 : State) (t : TileId) (r : FabricRow) (key : TileId × Nat),
      s.fabric.rows = [r] ∧
      r.dst = t ∧
      s.tileIn t = true ∧
      s.tileIn r.src = true ∧
      s.ringUp (tileDie r.src) (tileDie t) = true ∧
      key = (r.src, r.op) ∧
      r.lost = false ∧
      s.fabric.untrusted.contains key = false ∧
      (s.ownRow t r = true ∧ s.ownDue t r = true ∧ z = s ∨
      s.ownRow t r = false ∧ z = { s.withTile t { s.tile t with narrowPtr := r.src.val + 1 } with now := max s.now r.arrive }) ∧
      s1 = { z with fabric := { z.fabric with rows := [] } } ∧
      ((s.tile t).boothOf r.row ≠ .held r.src.val) :=
  ⟨{ Tests.running with fabric := { Tests.running.fabric with rows := [⟨30, 1, 32, 0, 0, 100, Row.zero, true, false, none, false, .tile 0 5 1⟩] } }, _, _, 0, ⟨30, 1, 32, 0, 0, 100, Row.zero, true, false, none, false, .tile 0 5 1⟩, _, by decide +kernel, by decide +kernel, by decide +kernel, by decide +kernel, by decide +kernel, rfl, rfl, by decide +kernel, .inr ⟨by decide +kernel, rfl⟩, rfl, by decide +kernel⟩
theorem Tests.witness_TicketsAndRows_3 :
    ∃ (s : State) (t : TileId) (r : TicketReq), s.fabric.wire.find? (fun p => decide (p.1 = t)) = some (t, r) ∧ s.tileIn t = true ∧ (s.tile t).regions.works r.first r.count = true ∧ (s.tile t).requests.length < 16 :=
  ⟨{ Tests.running.modTile 0 (fun x => { x with regions := { x.regions with workFirst := 0, workRows := 64 } }) with fabric := { Tests.running.fabric with wire := [(0, ⟨1, 62, 2, .none, none, none⟩)] } }, 0, ⟨1, 62, 2, .none, none, none⟩, by decide⟩
theorem Tests.witness_TicketsAndRows_4 :
    ∃ (s : State) (t : TileId) (r : _),
      (s.fabric.wire.find? (fun p => decide (p.1 = t)) = some (t, r)) ∧
      (s.tileIn t = false ∨ (s.tile t).regions.works r.first r.count = false ∨ 16 ≤ (s.tile t).requests.length) :=
  ⟨{ Tests.running.modTile 0 (fun x => { x with regions := { x.regions with workFirst := 0, workRows := 64 } }) with fabric := { Tests.running.fabric with wire := [(0, ⟨1, 63, 2, .none, none, none⟩)] } }, 0, ⟨1, 63, 2, .none, none, none⟩, by decide +kernel⟩
theorem Tests.witness_TicketsAndRows_5 :
    ∃ (s : State) (t : TileId) (r : _),
      s.tileIn t = true ∧
      ((s.tile t).requests.find? (s.tile t).grantable = some r) :=
  ⟨Tests.running.modTile 0 (fun x => { x with requests := [⟨1, 62, 1, .none, none, none⟩], booth := [(62, .opened)] }), 0, ⟨1, 62, 1, .none, none, none⟩, by decide +kernel⟩
theorem Tests.witness_TicketsAndRows_6 :
    ∃ (s : State) (t : TileId) (r rs : _),
      s.tileIn t = true ∧
      ((s.tile t).narrowIn = r :: rs) ∧
      r.writer = none :=
  ⟨Tests.running.modTile 0 (fun x => { x with narrowIn := [⟨3, Row.zero, none, .none⟩] }), 0, ⟨3, Row.zero, none, .none⟩, [], by decide +kernel, rfl, rfl⟩
theorem Tests.witness_TicketsAndRows_7 :
    ∃ (s : State) (t : TileId) (r rs w : _),
      s.tileIn t = true ∧
      ((s.tile t).narrowIn = r :: rs) ∧
      r.writer = some w ∧
      ((s.tile t).boothOf r.row = .held w) :=
  ⟨Tests.running.modTile 0 (fun x => { x with narrowIn := [⟨3, Row.zero, some 1, .none⟩], booth := [(3, .held 1)] }), 0, ⟨3, Row.zero, some 1, .none⟩, [], 1, by decide +kernel, rfl, rfl, by decide +kernel⟩
theorem Tests.witness_TransferDone_0 :
    ∃ (s : State) (t : TileId) (k : Nat) (tr : Transfer) (s1 : _),
      ((s.tile t).transfers[k]? = some tr) ∧
      s.tileIn t = true ∧
      (tr.kind = .load ∨ tr.kind = .hload) ∧
      s1 = s.landRest t tr.tag tr.count :=
  ⟨Tests.running.modTile 0 (fun x => { x with transfers := [{ Tests.running.newTransfer 0 3 Tests.descs[0] with kind := .load }] }), 0, 0, { Tests.running.newTransfer 0 3 Tests.descs[0] with kind := .load }, _, by decide, by decide, .inl rfl, rfl⟩
theorem Tests.witness_TransferDone_1 :
    ∃ (s : State) (t : TileId) (k : Nat) (tr : Transfer) (s1 : _),
      ((s.tile t).transfers[k]? = some tr) ∧
      s.tileIn t = true ∧
      (tr.kind = .store ∨ tr.kind = .hstore) ∧
      s1 = s.storeRows t tr :=
  ⟨Tests.running.modTile 0 (fun x => { x with transfers := [{ Tests.running.newTransfer 0 3 Tests.descs[0] with kind := .hstore }] }), 0, 0, { Tests.running.newTransfer 0 3 Tests.descs[0] with kind := .hstore }, _, by decide, by decide, .inr rfl, rfl⟩
theorem Tests.witness_TransferDone_2 :
    ∃ (s : State) (t : TileId) (k : Nat) (tr : Transfer),
      ((s.tile t).transfers[k]? = some tr) ∧
      (tr.kind = .ticket ∨ s.tileIn t = false) :=
  ⟨Tests.running.modTile 0 (fun x => { x with transfers := [{ Tests.running.newTransfer 0 3 Tests.descs[0] with kind := .ticket }] }), 0, 0, { Tests.running.newTransfer 0 3 Tests.descs[0] with kind := .ticket }, by decide, .inl rfl⟩
theorem Tests.witness_TransferDone_3 :
    ∃ (s : State) (t : TileId) (k : Nat) (tr : Transfer),
      ((s.tile t).transfers[k]? = some tr) ∧
      s.tileIn t = true :=
  ⟨Tests.running.modTile 0 (fun x => { x with transfers := [{ Tests.running.newTransfer 0 3 Tests.descs[0] with kind := .load }] }), 0, 0, { Tests.running.newTransfer 0 3 Tests.descs[0] with kind := .load }, by decide, by decide⟩
theorem Tests.witness_TransferDone_4 :
    ∃ (s : State) (t : TileId) (k : Nat) (tr : Transfer),
      ((s.tile t).transfers[k]? = some tr) ∧
      s.tileIn t = false :=
  ⟨(Tests.running.modTile 0 (fun x => { x with transfers := [{ Tests.running.newTransfer 0 3 Tests.descs[0] with kind := .load }] })).modDie 0 (fun d => { d with out := true }), 0, 0, { Tests.running.newTransfer 0 3 Tests.descs[0] with kind := .load }, by decide, by decide⟩
theorem Tests.witness_FrameStart_0 :
    ∃ (s : State) (edge : EdgeInput), (s.power = .run ∨ s.power = .idle) ∧ (s.ecat.stopped = false) :=
  ⟨Tests.running, ⟨0, 0, true, 0, [], []⟩, by decide +kernel⟩
theorem Tests.witness_FrameStart_1 :
    ∃ (s : State) (edge : EdgeInput), (s.frame.nextPeriod = none) :=
  ⟨Tests.running, ⟨0, 0, true, 0, [], []⟩, by decide +kernel⟩
theorem Tests.witness_FrameStart_2 :
    ∃ (s : State) (edge : EdgeInput), (s.power = .doze) ∧ (s.ecat.stopped = false) :=
  ⟨{ Tests.running with power := .doze }, ⟨0, 0, true, 0, [], []⟩, by decide +kernel⟩
theorem Tests.witness_FrameStart_3 :
    ∃ (s : State) (edge : EdgeInput), (s.power = .off) :=
  ⟨State.reset, ⟨0, 0, true, 0, [], []⟩, by decide +kernel⟩
theorem Tests.witness_CommitDeadline_0 :
    ∃ (s : State), (s.frame.deadlinePassed = false) ∧ (s.power = .run) ∧ (s.frame.started = true) ∧ (s.sec.state ≠ .zeroised) ∧ ((mget Ts.zero s.globals.ts s.commitTs.toNat).done = true) :=
  ⟨{ Tests.programmed with frame := { Tests.programmed.frame with started := true }, globals := { Tests.programmed.globals with ts := [(3, { Ts.zero with done := true })] } }, by decide +kernel⟩
theorem Tests.witness_CommitDeadline_1 :
    ∃ (s : State), (s.frame.deadlinePassed = false) ∧ (s.power = .run) ∧ (s.frame.started = false ∨ s.sec.state = .zeroised ∨ (mget Ts.zero s.globals.ts s.commitTs.toNat).done = false) :=
  ⟨Tests.programmed, by decide +kernel⟩
theorem Tests.witness_CommitDeadline_2 :
    ∃ (s : State), (s.frame.deadlinePassed = false) ∧ (s.power ≠ .run) :=
  ⟨State.reset, by decide +kernel⟩
theorem Tests.witness_CommitDeadline_3 :
    ∃ (s : State), (s.frame.deadlinePassed = true) :=
  ⟨{ State.reset with frame := { State.reset.frame with deadlinePassed := true } }, by decide +kernel⟩
theorem Tests.witness_CommitDeadline_4 :
    ∃ (s : State) (set : Fin 4) (f : FlipSet),
      s.flipSet set.val = f ∧
      f.committing = true ∧
      f.image = 0 ∧
      s.weights.loadSet ≠ some set :=
  ⟨{ State.reset with weights := { State.reset.weights with sets := [(0, { FlipSet.none with committing := true })] } }, 0, _, rfl, by decide +kernel⟩
theorem Tests.witness_CommitDeadline_5 :
    ∃ (s : State) (set : Fin 4) (f : FlipSet),
      s.flipSet set.val = f ∧
      f.committing = true ∧
      f.image ≠ 0 ∧
      s.weights.loadSet = some set :=
  ⟨{ State.reset with weights := { State.reset.weights with loadSet := some 0, sets := [(0, { FlipSet.none with committing := true, image := 7 })] } }, 0, _, rfl, by decide +kernel⟩
theorem Tests.witness_Goine_0 :
    ∃ (s : State) (d : DieId) (m : Fin 4) (toHub : Bool) (flit : BitVec 320) (bs : List Nat), (s.awake = true) ∧ (s.dieIn d = true) ∧ (s.moduleUp d m.val = true) ∧ (rsCorrect (unpackNat 8 flit.toNat 40) = some (bs, false)) :=
  ⟨Tests.linked, 0, 0, true, 0, List.replicate 40 0, by decide +kernel⟩
theorem Tests.witness_Goine_1 :
    ∃ (s : State) (d : DieId) (m : Fin 4) (toHub : Bool) (flit : BitVec 320) (bs : List Nat),
      s.awake = true ∧
      s.dieIn d = true ∧
      s.moduleUp d m.val = true ∧
      rsCorrect (unpackNat 8 flit.toNat 40) = some (bs, true) :=
  ⟨Tests.linked, 0, 0, true, 5, (List.replicate 40 0), by decide +kernel⟩
theorem Tests.witness_Goine_2 :
    ∃ (s : State) (d : DieId) (m : Fin 4) (toHub : Bool) (flit : BitVec 320), (s.awake = true) ∧ (s.dieIn d = true) ∧ (s.moduleUp d m.val = true) ∧ (rsCorrect (unpackNat 8 flit.toNat 40) = none) :=
  ⟨Tests.linked, 0, 0, true, 0x010302, by decide +kernel⟩
theorem Tests.witness_Goine_3 :
    ∃ (s : State) (d : DieId) (m : Fin 4) (toHub : Bool) (flit : BitVec 320), (s.awake = true) ∧ (s.dieIn d = true) ∧ ((Flit.parse flit.toNat).cls = 2) :=
  ⟨Tests.linked, 0, 0, true, BitVec.ofNat 320 (2 * 2 ^ 285), by decide +kernel⟩
theorem Tests.witness_Goine_4 :
    ∃ (s : State) (d : DieId) (m : Fin 4), (s.awake = true) ∧ (s.dieIn d = true) ∧ (s.moduleUp d m.val = true) ∧ ((s.die d).goineVersion = some 0x0102) :=
  ⟨Tests.linked, 0, 0, by decide +kernel⟩
theorem Tests.witness_Goine_5 :
    ∃ (s : State) (d : DieId) (m : Fin 4) (ok : Bool), (s.awake = true) ∧ (s.dieIn d = true) ∧ (s.moduleUp d m.val = true) ∧ (ok = false ∨ (s.die d).goineVersion ≠ some 0x0102) :=
  ⟨Tests.linked, 0, 0, false, by decide +kernel⟩
theorem Tests.witness_Goine_6 :
    ∃ (s : State) (d : DieId) (m : Fin 4), (s.awake = true) ∧ (s.dieIn d = true) ∧ (s.moduleUp d m.val = true) ∧ (s.test.looping = false) :=
  ⟨Tests.linked, 0, 0, by decide +kernel⟩
theorem Tests.witness_TokensAndTransfers_0 :
    ∃ (s : State),
      s.awake = true ∧
      s.kv.spillDue = true :=
  ⟨{ Tests.running with kv := { Tests.running.kv with spillDue := true } }, by decide, rfl⟩
theorem Tests.witness_TokensAndTransfers_1 :
    ∃ (s : State) (a : AgentWrite), (s.awake = true) ∧ (s.agents.find? (fun a => decide (a.holder = 0x102) && a.granted) = some a) ∧ ((s.agentWrite a false).agents.any (fun b => decide (b.holder = 0x102)) = false) :=
  ⟨{ Tests.running with agents := [Tests.gatherWrite] }, Tests.gatherWrite, by decide +kernel⟩
theorem Tests.witness_TokensAndTransfers_2 :
    ∃ (s : State) (seg : Fin 3) (a : AgentWrite), (s.agents.find? (fun a => decide (a.holder = 0x100) && decide (a.unit = seg.val) && a.granted) = some a) :=
  ⟨{ Tests.running with agents := [Tests.blockWrite] }, 1, Tests.blockWrite, by decide +kernel⟩
theorem Tests.witness_TokensAndTransfers_3 :
    ∃ (s : State) (entry : Fin 256) (m : OutMap) (t : TileId) (bs : List (Byte × Bool)) (s1 : State), (s.ecat.due.find? (fun p => decide (p.1 = entry.val)) = some (entry.val, false)) ∧ (OutMap.parse (s.octets (outMapKey entry.val)) = m) ∧ (Handle.tile? m.tile = some t) ∧ (s1 = { s with ecat := { s.ecat with due := s.ecat.due.erase (entry.val, false) } }) ∧ (bs = s1.outputBytes t m.row m.length) :=
  ⟨{ Tests.running with ecat := { Tests.running.ecat with due := [(5, false)] }, dict := { Tests.running.dict with octetsInForce := [(outMapKey 5, Tests.outMap)] } }, 5, _, 0, _, _, by decide, rfl, by decide, rfl, rfl⟩
theorem Tests.witness_TokensAndTransfers_4 :
    ∃ (s : State) (entry : Fin 256) (m : OutMap) (t : TileId),
      (s.ecat.due.find? (fun p => decide (p.1 = entry.val)) = some (entry.val, true)) ∧
      OutMap.parse (s.octets (outMapKey entry.val)) = m ∧
      Handle.tile? m.tile = some t :=
  ⟨{ Tests.running with ecat := { Tests.running.ecat with due := [(5, true)] }, dict := { Tests.running.dict with octetsInForce := [(outMapKey 5, Tests.outMap)] } }, 5, _, 0, by decide, rfl, by decide⟩

/-! The table voltages are constants of Config without a value. Where one lies above the droop margin, as R406 and R411 take for
granted, the clauses about a droop have these states, each with the highest sample that starts a droop. -/

theorem Tests.witness_HoldSlots_hub (h : Tests.running.droopMargin < Tests.running.tableVoltage 0) :
    ∃ (s : State) (c : Fin 17) (mV : Nat), s.awake = true ∧ c.val = 0 ∧ mV + s.droopMargin < s.tableVoltage 0 :=
  ⟨Tests.running, 0, Tests.running.tableVoltage 0 - Tests.running.droopMargin - 1, by decide, by decide, by omega⟩
theorem Tests.witness_HoldSlots_few (h : Tests.running.droopMargin < Tests.running.tableVoltage (15 + 1)) :
    ∃ (s : State) (c : Fin 17) (mV : Nat) (d : DieId), s.awake = true ∧ c.val = d.val + 1 ∧ s.dieIn d = true ∧
      (s.die d).droopActive = false ∧ (s.die d).droopDead = 0 ∧ mV + s.droopMargin < s.tableVoltage c.val ∧
      (((s.die d).droopStarts.filter fun t => decide ((s.die d).clock < t + 800000)) ++ [(s.die d).clock]).length ≤ 32 :=
  ⟨Tests.running, 16, Tests.running.tableVoltage (15 + 1) - Tests.running.droopMargin - 1, 15, by decide, by decide, by decide,
    by decide, by decide, by show _ < Tests.running.tableVoltage (15 + 1); omega, by decide⟩
def Tests.drooped : State := Tests.running.modDie 15 fun d => { d with droopStarts := List.replicate 32 0 }
theorem Tests.witness_HoldSlots_many (h : Tests.drooped.droopMargin < Tests.drooped.tableVoltage (15 + 1)) :
    ∃ (s : State) (c : Fin 17) (mV : Nat) (d : DieId), s.awake = true ∧ c.val = d.val + 1 ∧ s.dieIn d = true ∧
      (s.die d).droopActive = false ∧ (s.die d).droopDead = 0 ∧ mV + s.droopMargin < s.tableVoltage c.val ∧
      32 < (((s.die d).droopStarts.filter fun t => decide ((s.die d).clock < t + 800000)) ++ [(s.die d).clock]).length :=
  ⟨Tests.drooped, 16, Tests.drooped.tableVoltage (15 + 1) - Tests.drooped.droopMargin - 1, 15, by decide, by decide, by decide,
    by decide, by decide, by show _ < Tests.drooped.tableVoltage (15 + 1); omega, by decide⟩

/-! ### Ill-formed terms, one for each check of Instr.wf -/

/-- A word tag for the ill-formed terms. -/
def Tests.tag : WordTag := ⟨false, false, 0, true, false, 0⟩

theorem Tests.test_wf_accepts :
    Instr.wf (.loop 0 Tests.tag 5 1) = true ∧ Instr.wf (.fill 0 Tests.tag 8191 0 0 0) = true ∧
    Instr.wf (.bind .host .w8192 24 25 31) = true ∧ Instr.wf (.bind (.list 3) .w8192 0 1 23) = true := by decide
theorem Tests.test_wf_loop : Instr.wf (.loop 0 Tests.tag 5 0) = false := by decide
theorem Tests.test_wf_turnstile_number :
    Instr.wf (.arrive 0 Tests.tag .own 64) = false ∧ Instr.wf (.synAdd 0 Tests.tag .own 64 1) = false ∧
    Instr.wf (.wait 0 Tests.tag (.group 2) 64 false 1) = false ∧ Instr.wf (.reset 0 Tests.tag .own 64 1) = false ∧
    Instr.wf (.poison 0 Tests.tag .own 64) = false ∧ Instr.wf (.poison 0 Tests.tag .global 64) = true := by decide
theorem Tests.test_wf_add_value : Instr.wf (.synAdd 0 Tests.tag .own 3 0) = false ∧ Instr.wf (.addg .host 3 0) = false := by decide
theorem Tests.test_wf_fill : Instr.wf (.fill 0 Tests.tag 8191 0 0 1) = false := by decide
theorem Tests.test_wf_copy :
    Instr.wf (.memCopy 0 Tests.tag 8191 0 0 1 []) = false ∧ Instr.wf (.memCopy 0 Tests.tag 0 0 8191 1 []) = false := by decide
theorem Tests.test_wf_eval :
    Instr.wf (.eval 0 Tests.tag 1 0 0 false false false 0 0) = false ∧
    Instr.wf (.eval 0 Tests.tag 1 0 1 true false false 0 0) = false ∧
    Instr.wf (.eval 0 Tests.tag 1 0 1 false false true 0 0) = false := by decide
theorem Tests.test_wf_engAdd :
    Instr.wf (.engAdd 0 Tests.tag 1 true 8189 0) = false ∧ Instr.wf (.engAdd 0 Tests.tag 1 false 2 0) = false ∧
    Instr.wf (.engAdd 0 Tests.tag 1 false 32 0) = false := by decide
theorem Tests.test_wf_fma : Instr.wf (.fma 0 Tests.tag .int8 0 1 2 3) = false := by decide
theorem Tests.test_wf_integer_only :
    Instr.wf (.wadd 0 Tests.tag .fp16 0 1 2) = false ∧ Instr.wf (.and 0 Tests.tag .bf16 0 1 2) = false ∧
    Instr.wf (.or 0 Tests.tag .fp32 0 1 2) = false ∧ Instr.wf (.xor 0 Tests.tag .fp16 0 1 2) = false ∧
    Instr.wf (.shl 0 Tests.tag .fp16 0 1 2) = false ∧ Instr.wf (.shra 0 Tests.tag .fp16 0 1 2) = false := by decide
theorem Tests.test_wf_float_only :
    Instr.wf (.qnt 0 Tests.tag .int16 0 1 2 3 0 0 false false) = false ∧ Instr.wf (.rcp 0 Tests.tag .int8 0 1) = false ∧
    Instr.wf (.rsqrt 0 Tests.tag .int8 0 1) = false ∧ Instr.wf (.exp 0 Tests.tag .int32 0 1) = false := by decide
theorem Tests.test_wf_parts :
    Instr.wf (.cvt 0 Tests.tag .fp16 0 1 .bf16 1) = false ∧ Instr.wf (.macw 0 Tests.tag .int16 0 1 2 2) = false ∧
    Instr.wf (.macw 0 Tests.tag .fp16 0 1 2 0) = false := by decide
theorem Tests.test_wf_bcast : Instr.wf (.bcast 0 Tests.tag .int32 0 1 64) = false := by decide
theorem Tests.test_wf_hd_destination :
    Instr.wf (.gen .host .w2048 23 5 0) = false ∧ Instr.wf (.bind (.list 0) .w2048 24 0 1) = false ∧
    Instr.wf (.not .host .w2048 0 24) = false ∧ Instr.wf (.hdCopy .host .w2048 0 24) = false ∧
    Instr.wf (.hdRot .host .w2048 0 24 1) = false ∧ Instr.wf (.car .host .w2048 0 24 0 false) = false ∧
    Instr.wf (.bthr .host .w2048 0 3) = false ∧ Instr.wf (.level .host .w2048 0 0 0) = false ∧
    Instr.wf (.record .host .w2048 0 3 0) = false ∧ Instr.wf (.sign .host .w2048 0 .int8 0) = false ∧
    Instr.wf (.loadv .host .w2048 0 0) = false := by decide
theorem Tests.test_wf_hd_source :
    Instr.wf (.bind .host .w2048 24 0 25) = false ∧ Instr.wf (.bind .host .w2048 24 25 0) = false ∧
    Instr.wf (.not .host .w2048 24 0) = false ∧ Instr.wf (.hdCopy .host .w2048 24 0) = false ∧
    Instr.wf (.hdRot .host .w2048 24 0 1) = false ∧ Instr.wf (.car .host .w2048 24 0 0 false) = false ∧
    Instr.wf (.storev .host .w2048 0 0) = false ∧ Instr.wf (.ins .host .w2048 0 0 0) = false ∧
    Instr.wf (.upd .host .w2048 0 0 true 0 0) = false := by decide
theorem Tests.test_wf_reserved_item : Instr.wf (.gen .host .w2048 24 0xFFFFFFFF 0) = false := by decide
theorem Tests.test_wf_hd_rotation : Instr.wf (.hdRot .host .w2048 24 25 2048) = false := by decide
theorem Tests.test_wf_accumulator :
    Instr.wf (.bclr .host 2) = false ∧ Instr.wf (.badd .host .w2048 0 24 1 false) = false ∧
    Instr.wf (.baddx (.list 1) .w2048 3 0 1 1 false) = false ∧ Instr.wf (.bthr .host .w2048 24 0) = false ∧
    Instr.wf (.record .host .w2048 24 0 0) = false := by decide
theorem Tests.test_wf_bundle :
    Instr.wf (.badd .host .w2048 3 24 0 false) = false ∧ Instr.wf (.badd .host .w2048 3 0 1 false) = false ∧
    Instr.wf (.baddx .host .w2048 3 24 25 0 false) = false ∧ Instr.wf (.baddx .host .w2048 3 0 25 1 false) = false ∧
    Instr.wf (.baddx .host .w2048 3 24 0 1 false) = false := by decide
theorem Tests.test_wf_outv :
    Instr.wf (.outv .host .w2048 24 0x03080000 0 0 0) = false ∧ Instr.wf (.outv .host .w2048 0 0x03080000 0 0 1) = false := by decide
theorem Tests.test_wf_seq :
    Instr.wf (.seq .host .w2048 0 24 0 0 0 false) = false ∧ Instr.wf (.seq .host .w2048 24 0 0 0 0 false) = false ∧
    Instr.wf (.seq .host .w2048 24 31 0 1 0 false) = false ∧ Instr.wf (.seq (.list 0) .w2048 0 20 0 4 0 false) = false ∧
    Instr.wf (.seq .host .w2048 24 25 0 0 0 true) = false := by decide
theorem Tests.test_wf_srch :
    Instr.wf (.srch .host .w2048 0 24 1 12 false 0 false 0 5 0) = false ∧ Instr.wf (.srch .host .w2048 24 0 1 12 false 0 true 0 5 0) = false ∧
    Instr.wf (.srch .host .w2048 24 24 1 11 false 0 false 0 5 0) = false ∧ Instr.wf (.srch .host .w2048 24 24 0 12 false 0 false 0 5 0) = false ∧
    Instr.wf (.srch .host .w2048 24 24 1 12 false 0 false 6 5 0) = false ∧
    Instr.wf (.srch .host .w2048 24 24 1 12 false 0 false 0 2049 0) = false := by decide
theorem Tests.test_wf_cursor :
    Instr.wf (.cstep (.list 0) 12 false 0 0) = false ∧ Instr.wf (.cfree .host 11) = false ∧
    Instr.wf (.dcoll .host 11 false 0 0 5 0) = false ∧ Instr.wf (.dcoll .host 12 false 0 6 5 0) = false ∧
    Instr.wf (.dcoll .host 12 false 0 0 8193 0) = false := by decide

/-! ### Words of routines and HD lists (R214, R239, R341): each written from the tables of its fields -/

/-- CTL: COP 1 in bits 31:28, END 5 in bits 23:11, TRIPS 3 in bits 10:0. SYN: operation 3 in bits 31:29, scope 0, turnstile 5 in bits
22:15, VALUE 1 in bits 13:0. -/
theorem Tests.test_word_loop_wait :
    wordCommands 0 false (BitVec.ofNat 256 (((1 * 2 ^ 28 + 5 * 2 ^ 11 + 3) * 2 ^ 224) + ((3 * 2 ^ 29 + 5 * 2 ^ 15 + 1) * 2 ^ 192))) =
      some [.loop 0 ⟨false, false, 0, false, false, 0⟩ 5 3, .wait 0 ⟨false, false, 0, true, false, 0⟩ .own 5 false 1] := by
  decide +kernel
/-- Six operation codes of 0 make a NOP word. -/
theorem Tests.test_word_nop : wordCommands 0 false 0 = some [.nopWord 0 false] := by decide +kernel
/-- COP 7 is no operation; REL stands outside WAIT in an ADD. -/
theorem Tests.test_word_undefined :
    wordCommands 0 false (BitVec.ofNat 256 (7 * 2 ^ 252)) = none ∧
    wordCommands 0 false (BitVec.ofNat 256 ((2 * 2 ^ 29 + 5 * 2 ^ 15 + 2 ^ 14 + 1) * 2 ^ 192)) = none := by decide +kernel
/-- BIND: OP 0x02, W 2, D 5, A 6, B 7; a reserved bit makes the word undefined. -/
theorem Tests.test_hd_word :
    hdDecode (.list 0) (BitVec.ofNat 128 (0x02 * 2 ^ 120 + 2 * 2 ^ 118 + 5 * 2 ^ 113 + 6 * 2 ^ 108 + 7 * 2 ^ 103)) =
      some (.bind (.list 0) .w8192 5 6 7) ∧
    hdDecode (.list 0) (BitVec.ofNat 128 (0x02 * 2 ^ 120 + 2 * 2 ^ 118 + 2 ^ 96)) = none := by decide +kernel

/-! ### Worked examples of spec/ -/

/-- Handles of bank W3.t5.e2.a100.X, tile W15.t15, tile W3.t0 and the hub (worked examples of spec/02 and spec/18). -/
theorem Tests.test_handles :
    bankHandle (2048 * (16 * (16 * 3 + 5) + 2) + 2 * 100) = 0x062290C8 ∧ tileHandle 255 = 0x03878000 ∧
    tileHandle 48 = 0x03200000 ∧ deviceHandle = 0x01000000 ∧ hubHandle = 0x02000000 := by decide
/-- String 37 of the worked example of spec/03: 190,010 − 164,360 = 25,650, and 100 LSB. -/
theorem Tests.test_plane_sum : planeSum ⟨412, 3690, List.replicate 256 1006⟩ 40 4109 16384 0 0 37 = 100 := by decide +kernel
/-- A stage that reads S = 213 counts 77 matches, 26 in the bipolar form; 200 and 215 also count 77 (spec/03). -/
theorem Tests.test_match_count :
    planeValue ⟨none, .binary, 1, true, false, false, [], false, [], 0⟩ ⟨[213], false, []⟩ 0 = 77 ∧
    planeValue ⟨none, .binary, 1, true, false, true, [], false, [], 0⟩ ⟨[213], false, []⟩ 0 = 26 ∧
    planeValue ⟨none, .binary, 1, true, false, false, [], false, [], 0⟩ ⟨[200, 215], false, []⟩ 0 = 77 ∧
    planeValue ⟨none, .binary, 1, true, false, false, [], false, [], 0⟩ ⟨[200, 215], false, []⟩ 1 = 77 := by decide
/-- The row of the worked example of spec/09: header 0x701E_0C0F, 108 bytes. -/
def Tests.sparse : Row :=
  ⟨BitVec.ofNat 2048 (packNat 64 ((List.range 32).map fun w =>
    if w ∈ [0, 1, 2, 3, 10, 11, 17, 18, 19, 20, 28, 29, 30] then 1 else 0)), 0⟩
theorem Tests.test_compressed_row :
    (Row.compress Tests.sparse).length = 108 ∧ ((Row.compress Tests.sparse).take 4).map Prod.fst = [0x0F, 0x0C, 0x1E, 0x70] := by
  decide +kernel
/-- R404: no slot at 16, every odd slot at 8, the slots 7, 11 and 15 at 13. -/
theorem Tests.test_hold_slots :
    (List.range 16).filter (limitHolds 16) = [] ∧ (List.range 16).filter (limitHolds 8) = [1, 3, 5, 7, 9, 11, 13, 15] ∧
    (List.range 16).filter (limitHolds 13) = [7, 11, 15] := by decide

/-! ### One command on a small state -/

/-- The state that an outcome answers. -/
def Tests.after (o : Host.Outcome State Fault Refusal) : State :=
  match o with
  | .next t => t
  | _ => State.reset

/-- A LOOP of 3 trips over the words up to 5 is open after its word (R217). -/
theorem Tests.test_loop_opens :
    ((Tests.after (exec (.loop 0 Tests.tag 5 3) Tests.running)).tile 0).loops.length = 1 := by decide +kernel
/-- ARRIVE adds 1 on tile 0 at the end of its cycle: the update is on its way (R182). -/
theorem Tests.test_arrive_sends : (Tests.after (exec (.arrive 0 Tests.tag .own 9) Tests.running)) ≠ Tests.running := by decide +kernel
/-- A word of a tile in Off has no effect. -/
theorem Tests.test_off_word : Tests.after (exec (.arrive 0 Tests.tag .own 9) State.reset) = State.reset := by decide +kernel
/-- INT8 addition saturates at 127 and sets SAT; INT8 wrapping would give 0x82 (R110). -/
theorem Tests.test_add_saturates : elemAdd .int8 0x7F 0x03 = ⟨0x7F, false, true, false, false⟩ := by decide
/-- NOT of register 24 complements it; poison goes with it (R328, R346). -/
theorem Tests.test_hd_not :
    ((Tests.after (exec (.not .host .w8192 25 24) Tests.running)).hreg 25).bits = BitVec.allOnes 8192 := by decide +kernel
/-- No row of the table gives bits, so no word spells a command. -/
theorem Tests.test_no_table_words : decodeTableWord 32 0 = none ∧ decodeTableWord 128 0xFFFF = none := by decide

end Sys2Proof
end

section
/-!
PROOF. O24: the stepping in the revision number of the identity object (R2).
-/
namespace Sys2Proof.Machine

/-- An address without an abort code that no command takes answers the value of its object (R492, R496). -/
theorem exec_sdoAccess_upload_of_readable {s : State} {c : Channel} {a : ObjAddr} (hs : Serves s c)
    (ha : s.uploadAbort c a.index.toNat a.sub.toNat = 0)
    (hk : a.index.toNat * 256 + a.sub.toNat ∉ [0x240003, 0x270005, 0x270008, 0x2E0004, 0x2E0102]) :
    exec (.sdoAccess c a .upload) s = .next (s.answer c 0 (s.readObject c a.index.toNat a.sub.toNat)) := by
  have hup : s.upload c a.index.toNat a.sub.toNat = s.fetch c [] (s.readObject c a.index.toNat a.sub.toNat) id := by
    simp only [List.mem_cons, List.not_mem_nil, or_false, not_or] at hk
    obtain ⟨h1, h2, h3, h4, h5⟩ := hk
    simp [State.upload, ha]
  rw [exec_sdoAccess, execSdoAccess, State.access, hup, fetch_ok hs rfl, id]

/-- The identity object 0x1018 is listed, with four subindices that are read only (R501). -/
theorem objectSpec_identity (sub : Nat) : objectSpec 0x1018 sub = subs 4 sub (roObj 4) := rfl

/-- Nothing forbids a read of subindices 1 to 4 of the identity object, whatever the party's dictionary revision. -/
theorem uploadAbort_identity (s : State) (c : Channel) {sub : Nat} (h : 1 ≤ sub ∧ sub ≤ 4) :
    s.uploadAbort c 0x1018 sub = 0 := by
  have hw : windowIndex 0x1018 = false := by decide
  have h5 : revisionFive 0x1018 = false := by decide
  have hl : indexListed 0x1018 = true := by decide
  have hspec : objectSpec 0x1018 sub = some ⟨.ro, some 4⟩ := by rw [objectSpec_identity, subs, if_pos h, roObj]
  simp [State.uploadAbort, State.addressAbort, specAt, hw, h5, hl, hspec, Access.reads]

/-- The revision number: dictionary revision 5 in bits 31 to 16, stepping B1 in bits 7 to 0 (R2, R501). -/
theorem readObject_revisionNumber (s : State) (c : Channel) : s.readObject c 0x1018 3 = leBytes 4 0x000500B1 := rfl

end Sys2Proof.Machine

namespace Sys2Proof
open Sys2Proof.Machine

/-- Settles O24: the object is readable on every served channel, and its value is 0x0005_00B1. -/
theorem steppingReported : Obligations.SteppingReported := by
  unfold Obligations.SteppingReported
  intro s c hs
  have hread : exec (.sdoAccess c ⟨0x1018, 3⟩ .upload) s = .next (s.answer c 0 (s.readObject c 0x1018 3)) :=
    exec_sdoAccess_upload_of_readable hs (uploadAbort_identity s c (by decide)) (by decide)
  rw [readObject_revisionNumber] at hread
  exact ⟨0x000500B1, by decide, hread⟩

end Sys2Proof
end

section
/-!
PROOF. O29: writes of the dictionary that firmware slots, out marks, power requests, the frame period, group descriptors and
loop-backs answer to. Each command is one checked write (State.request): under its conditions no check holds, so its effect
takes place.
-/
namespace Sys2Proof.Machine

variable {s : State} {c : Channel}

/-! ### The checks that commands share -/

theorem notUser_of_isUser (hu : s.isUser c = true) : s.notUser c = (false, 0x08000022) := by
  rw [State.notUser, hu, Bool.not_true]

theorem dieFieldChecks_of_range {d : Byte} (h1 : 1 ≤ d.toNat) (h16 : d.toNat ≤ 16) :
    dieFieldChecks d = [(false, 0x06090032), (false, 0x06090031)] := by
  rw [dieFieldChecks, decide_eq_false (by omega), decide_eq_false (by omega)]

theorem moving_of_toward (h : s.toward = none) : s.moving = (false, 0x08000022) := by
  rw [State.moving, h, Option.isSome_none]

theorem runForbidden_of_run_or_conditions (h : s.power = .run ∨ s.runConditions = true) :
    s.runForbidden = (false, 0x08000022) := by
  rcases h with h | h <;> simp [State.runForbidden, h]

theorem dozeForbidden_of_doze_or_quiet (h : s.power = .doze ∨ s.dozeBusy = false) :
    s.dozeForbidden = (false, 0x08000022) := by
  rcases h with h | h <;> simp [State.dozeForbidden, h]

section
variable (ht : Takes s c)
include ht

/-! ### Firmware slots (R423 to R425) -/

theorem exec_firmwareImageWrite_ok (image : Firmware) (hu : s.isUser c = true) :
    exec (.firmwareImageWrite c image) s = .next ((s.writeFirmware (!s.svc.activeB) image).answer c 0 []) :=
  congrArg Host.Outcome.next (request_ok ht (by simp [notUser_of_isUser hu]))

theorem exec_firmwareSwitch_ok (hu : s.isUser c = true) (hvalid : s.inactiveSlot.valid = true)
    (hsw : s.svc.switchReq = false) (hrev : s.svc.revertReq = none) :
    exec (.firmwareSwitch c) s = .next (({ s with svc := { s.svc with switchReq := true } } : State).answer c 0 []) :=
  congrArg Host.Outcome.next (request_ok ht (by simp [notUser_of_isUser hu, hvalid, hsw, hrev]))

theorem exec_firmwareRevert_ok (hu : s.isUser c = true) (htrial : s.svc.trial = true) (hrev : s.svc.revertReq = none) :
    exec (.firmwareRevert c) s = .next (({ s with svc := { s.svc with revertReq := some 3 } } : State).answer c 0 []) :=
  congrArg Host.Outcome.next (request_ok ht (by simp [notUser_of_isUser hu, htrial, hrev]))

/-- A confirmed trial writes a new boot set (R425, R556). -/
theorem exec_firmwareConfirm_of_trial (hu : s.isUser c = true) (htrial : s.svc.trial = true)
    (hrev : s.svc.revertReq = none) :
    exec (.firmwareConfirm c 1) s =
      .next (({ s with svc := { s.svc with confirm := 1, trial := false } } : State).writeBoot.answer c 0 []) := by
  rw [exec_firmwareConfirm, execFirmwareConfirm, request_ok ht (by simp [notUser_of_isUser hu]),
    if_pos ⟨htrial, rfl, by rw [hrev, Option.isNone_none]⟩]

/-! ### Out marks (R432, R433) -/

section
variable {d : Byte} (hu : s.isUser c = true) (h1 : 1 ≤ d.toNat) (h16 : d.toNat ≤ 16)
include hu h1 h16

theorem exec_markOutDie_ok (hin : s.dieIn (dieOfField d) = true) :
    exec (.markOutDie c d) s = .next ((s.markOut (dieOfField d) 5).answer c 0 []) :=
  congrArg Host.Outcome.next
    (request_ok ht (by simp [notUser_of_isUser hu, dieFieldChecks_of_range h1 h16, hin]))

theorem exec_clearOutMark_ok (hidle : s.power = .idle) :
    exec (.clearOutMark c d) s = .next
      (((s.modDie (dieOfField d) fun x => { x with outMark := false }).acceptSetting 0x220003 d.toNat).answer c 0 []) :=
  congrArg Host.Outcome.next
    (request_ok ht (by simp [notUser_of_isUser hu, dieFieldChecks_of_range h1 h16, hidle]))

end

/-! ### The requested power state (R559, R560, R563) -/

theorem exec_requestRun_ok (htw : s.toward = none) (hrun : s.power = .run ∨ s.runConditions = true) :
    exec (.requestRun c) s = .next (((s.acceptRequest .run).head .run).answer c 0 []) :=
  congrArg Host.Outcome.next
    (request_ok ht (by simp [moving_of_toward htw, runForbidden_of_run_or_conditions hrun]))

theorem exec_requestIdle_ok (htw : s.toward = none) :
    exec (.requestIdle c) s = .next (((s.acceptRequest .idle).head .idle).answer c 0 []) :=
  congrArg Host.Outcome.next (request_ok ht (by simp [moving_of_toward htw]))

/-- From Idle the steps of Doze run at once; from any other state the device heads for it (R563). -/
theorem exec_requestDoze_ok (htw : s.toward = none) (hdoze : s.power = .doze ∨ s.dozeBusy = false) :
    exec (.requestDoze c) s = .next
      ((if (s.acceptRequest .doze).power = .idle then (s.acceptRequest .doze).enterDoze
        else (s.acceptRequest .doze).head .doze).answer c 0 []) :=
  congrArg Host.Outcome.next
    (request_ok ht (by simp [moving_of_toward htw, dozeForbidden_of_doze_or_quiet hdoze]))

/-! ### Frame period (R296) and group descriptors (R27, R29) -/

theorem exec_framePeriodWrite_ok {t : W32} (hidle : s.power = .idle) (hlow : 250 ≤ t.toNat) (hhigh : t.toNat ≤ 10000)
    (hcommit : s.accepted 0x200004 < t.toNat)
    (hfit : (s.keptProgrammes.any fun k => decide (frameCc t.toNat < longestOf k)) = false)
    (hdoze : s.dozeMisfit t.toNat = false) :
    exec (.framePeriodWrite c t) s = .next
      ((({ s with frame := { s.frame with nextPeriod := some (t.toNat, s.frame.number) } } : State).acceptSetting
        0x200003 t.toNat).answer c 0 []) :=
  congrArg Host.Outcome.next (request_ok ht (by
    rw [hfit, hdoze, decide_eq_false (not_not_intro hidle), decide_eq_false (by omega : ¬10000 < t.toNat),
      decide_eq_false (by omega : ¬t.toNat < 250), decide_eq_false (by omega : ¬t.toNat ≤ s.accepted 0x200004)]
    rfl))

theorem exec_groupDescriptorWrite_none (hfree : s.groupLocked (s.accepted 0x220101) = false)
    (hnamed : s.groupNamed (s.accepted 0x220101) = false) :
    exec (.groupDescriptorWrite c none) s = .next
      (({ s with prog := { s.prog with groups := mdel s.prog.groups (s.accepted 0x220101) } } : State).answer c 0 []) :=
  congrArg Host.Outcome.next (request_ok ht (by simp [hfree, hnamed]))

theorem exec_groupDescriptorWrite_some {g : GroupDesc} (hfree : s.groupLocked (s.accepted 0x220101) = false)
    (hnum : g.number = s.accepted 0x220101) (hfit : s.groupFits g = true) :
    exec (.groupDescriptorWrite c (some g)) s = .next
      (({ s with prog := { s.prog with groups := s.withGroup g } } : State).answer c 0 []) :=
  congrArg Host.Outcome.next (request_ok ht (by simp [hfree, hnum, hfit]))

/-! ### Loop-backs (R570) -/

theorem exec_loopbackStart_ok {i depth : Nat} (hi : s.accepted 0x2A0001 = i) (hd : s.accepted 0x2A0002 = depth)
    (hloop : s.test.looping = false) (h0 : depth ≠ 0) (hallow : s.loopAllowed i depth = true)
    (hchan : loopChannelOk c i depth = true) :
    exec (.loopbackStart c) s = .next ((({ s with test := { s.test with
      loopIface := some i, loopDepth := depth, loopState := if depth = 4 then 2 else 1, loopErrors := 0 } } :
        State).takeIface i depth).answer c 0 []) := by
  subst hi hd
  exact congrArg Host.Outcome.next (request_ok ht (by simp [hloop, h0, hallow, hchan]))

theorem exec_loopbackStop_ok (hloop : s.test.looping = true) :
    exec (.loopbackStop c) s = .next ((s.endLoop 5).answer c 0 []) :=
  congrArg Host.Outcome.next (request_ok ht (by simp [hloop]))

end

/-- Without lock in 10 ms the test ends with code 3 (R570). -/
theorem exec_loopbackLockTimeout_of_training (h : s.test.loopState = 1) :
    exec .loopbackLockTimeout s = .next (s.endLoop 3) := by
  rw [exec_loopbackLockTimeout, execLoopbackLockTimeout, if_pos h]

end Sys2Proof.Machine

namespace Sys2Proof
open Sys2Proof.Machine

/-- Settles O29: one lemma a command. -/
theorem firmwareAndDies : Obligations.FirmwareAndDies := by
  unfold Obligations.FirmwareAndDies
  intro s
  refine ⟨fun _ image ht => exec_firmwareImageWrite_ok ht image, fun _ ht => exec_firmwareSwitch_ok ht,
    fun _ ht => exec_firmwareRevert_ok ht, fun _ ht => exec_firmwareConfirm_of_trial ht,
    fun _ _ ht hu h1 h16 => exec_markOutDie_ok ht hu h1 h16,
    fun _ _ ht hu hidle h1 h16 => exec_clearOutMark_ok ht hu h1 h16 hidle,
    fun _ ht => exec_requestRun_ok ht, fun _ ht => exec_requestIdle_ok ht,
    fun _ ht htw hdoze hidle => ?_, fun _ ht htw hdoze hidle => ?_,
    fun _ _ ht => exec_framePeriodWrite_ok ht, fun _ ht => exec_groupDescriptorWrite_none ht,
    fun _ _ ht => exec_groupDescriptorWrite_some ht, fun _ _ _ ht => exec_loopbackStart_ok ht,
    fun _ ht => exec_loopbackStop_ok ht, exec_loopbackLockTimeout_of_training⟩
  · rw [exec_requestDoze_ok ht htw hdoze, if_pos hidle]
  · rw [exec_requestDoze_ok ht htw hdoze, if_neg hidle]

end Sys2Proof
end

section
/-!
PROOF. O30: the selectors of the unit windows (R43).
-/
namespace Sys2Proof.Machine

/-- An answer leaves the window selectors as they are. -/
theorem selected_answer (s : State) (c : Channel) (a : W32) (data : List Byte) (w : Fin 16) :
    (s.answer c a data).selected w = s.selected w := by
  cases c <;> rfl

section
variable {s : State} {c : Channel} {w : Fin 16} {h : Handle} (ht : Takes s c) (hp : windowPath w c = true)
include ht hp

/-- Over the window's path an invalid handle is refused (R43). -/
theorem exec_windowSelectorWrite_invalid (hv : Handle.valid s.prog.groups h = false) :
    exec (.windowSelectorWrite c w h) s = .next (s.answer c 0x06090030 []) :=
  congrArg Host.Outcome.next (request_abort ht (b := true) (by simp [hp, hv]))

/-- Over the window's path a valid handle is selected (R43). -/
theorem exec_windowSelectorWrite_valid (hv : Handle.valid s.prog.groups h = true) :
    exec (.windowSelectorWrite c w h) s =
      .next (({ s with dict := { s.dict with windows := s.dict.windows.set w.val h } } : State).answer c 0 []) :=
  congrArg Host.Outcome.next (request_ok ht (by simp [hp, hv]))

end

/-- After reset every window selects the device (R43). -/
theorem selected_reset : ∀ w, State.reset.selected w = 0x01000000 := by decide

end Sys2Proof.Machine

namespace Sys2Proof
open Sys2Proof.Machine

/-- Settles O30: the validity of the handle is the only check that stands against a write over the window's path. -/
theorem windowSelectors : Obligations.WindowSelectors := by
  unfold Obligations.WindowSelectors
  refine ⟨fun s c w h ht hp => ⟨fun hv => ?_, fun hv => ?_⟩, selected_reset⟩
  · exact ⟨exec_windowSelectorWrite_invalid ht hp hv, selected_answer s c _ _ w⟩
  · exact exec_windowSelectorWrite_valid ht hp hv

end Sys2Proof
end

section
/-!
PROOF. O51: the slot that SLOT_START opens (R184, R189, R190, R404, R410). Its shape: markSlot writes the hold decision into
every die of the throttle group, so enterSlot, which reads the marks back, takes the branch of that decision.
-/
namespace Sys2Proof.Machine

variable {s : State} {ds : List DieId}

/-- A feature of die d that holds already stays, when every change made to a die gives it. -/
theorem die_forAll_modDie_of_eq {α : Type} {π : Die → α} {v : α} {f : Die → Die} (hf : ∀ x, π (f x) = v) {d : DieId}
    (h : π (s.die d) = v) : π ((forAll ds (fun r c => r.modDie c f) s).die d) = v := by
  induction ds generalizing s with
  | nil => exact h
  | cons c ds ih =>
    apply ih
    by_cases hcd : d = c
    · rw [hcd, State.die_modDie, hf]
    · rw [State.die_modDie_other _ _ _ _ hcd, h]

/-- A change made to every die of a list gives its feature to each of them. -/
theorem die_forAll_modDie_of_mem {α : Type} {π : Die → α} {v : α} {f : Die → Die} (hf : ∀ x, π (f x) = v) {d : DieId}
    (hd : d ∈ ds) : π ((forAll ds (fun r c => r.modDie c f) s).die d) = v := by
  induction ds generalizing s with
  | nil => cases hd
  | cons c ds ih =>
    rcases List.mem_cons.mp hd with rfl | hmem
    · exact die_forAll_modDie_of_eq (s := s.modDie d f) hf (by rw [State.die_modDie, hf])
    · exact ih hmem

@[simp] theorem dies_forAll_modTile (ts : List TileId) (f : Tile → Tile) :
    (forAll ts (fun r t => r.modTile t f) s).dies = s.dies := by
  induction ts generalizing s with
  | nil => rfl
  | cons t ts ih => exact ih

/-- Every die of the group carries the hold decision of its slot (R184). -/
theorem held_markSlot {d : DieId} (hd : d ∈ ds) (hold : Bool) : ((s.markSlot ds hold).die d).held = hold := by
  have hmark := die_forAll_modDie_of_mem (s := s) (π := Die.held) (v := hold)
    (f := fun x => { x with held := hold, slot := x.slot + 1, droopNext := false, droopDead := x.droopDead - 1 })
    (fun _ => rfl) hd
  cases hold with
  | false => exact hmark
  | true =>
    rw [State.markSlot, if_pos rfl, State.die, dies_forAll_modTile]
    exact hmark

/-- A group with a die that asks for a hold reads back a hold slot. -/
theorem any_held_markSlot_true {p : DieId → Bool} (h : ds.any p = true) :
    (ds.any fun d => ((s.markSlot ds true).die d).held) = true := by
  obtain ⟨d, hd, -⟩ := List.any_eq_true.mp h
  exact List.any_eq_true.mpr ⟨d, hd, held_markSlot hd true⟩

theorem any_held_markSlot_false : (ds.any fun d => ((s.markSlot ds false).die d).held) = false := by
  rw [List.any_eq_false]
  intro d hd
  rw [held_markSlot hd false]
  exact Bool.false_ne_true

/-- A hold slot is counted, with the narrow writes that it lets take effect, and takes no unscheduled work (R184). -/
theorem enterSlot_of_held (free : List (EngineId × TdcCapture)) (h : (ds.any fun d => (s.die d).held) = true) :
    s.enterSlot ds free = s.countSlot ds true false := by
  simp [State.enterSlot, State.countSlot, h]

/-- Any other slot is a wait slot unless every wait condition holds, and its dies take unscheduled work (R189, R410). -/
theorem enterSlot_of_not_held (free : List (EngineId × TdcCapture)) (h : (ds.any fun d => (s.die d).held) = false) :
    s.enterSlot ds free = forAll ds (fun r c => r.fillSlot c free) (s.countSlot ds false (!s.waitsHold ds)) := by
  simp [State.enterSlot, State.countSlot, h]

/-- SLOT_START of a powered die in service, while no group overruns (R37, R404). -/
theorem exec_slotStart_of_running {d : DieId} {free : List (EngineId × TdcCapture)} {bad : List TileId} {s1 : State}
    (hawake : s.awake = true) (hin : s.dieIn d = true) (hpow : (s.die d).powered = true) (hds : ds = s.throttleDies d)
    (h1 : s1 = (s.openSlot ds ((s.die d).clock + 4)).spoilWords (bad.filter fun t => ds.contains (tileDie t)))
    (hrun : s1.overruns = false) :
    exec (.slotStart d free bad) s = .next ((s1.markSlot ds (ds.any s1.asksHold)).enterSlot ds free) := by
  subst hds h1
  simp only [exec_slotStart, execSlotStart, hawake, hin, hpow, hrun, Bool.not_true, Bool.or_self, Bool.false_eq_true, if_false]

end Sys2Proof.Machine

namespace Sys2Proof
open Sys2Proof.Machine

/-- Settles O51: the marks that markSlot leaves decide which slot enterSlot makes. -/
theorem slotStart : Obligations.SlotStart := by
  unfold Obligations.SlotStart
  intro s d free bad ds s1 s2 hawake hin hpow hds h1 hrun h2
  have hexec := exec_slotStart_of_running (free := free) hawake hin hpow hds h1 hrun
  subst h2
  refine ⟨fun hask => ?_, fun hask hwait => ?_, fun hask hwait => ?_⟩ <;> rw [hexec, hask]
  · rw [enterSlot_of_held free (any_held_markSlot_true hask)]
  · rw [enterSlot_of_not_held free any_held_markSlot_false, hwait, Bool.not_false]
  · rw [enterSlot_of_not_held free any_held_markSlot_false, hwait, Bool.not_true]

end Sys2Proof
end

section
/-!
PROOF. O50: the capture of a plane (R57, R60 to R63, R72) and the entry of an operation into the lanes (R65, R68, R73, R131).
Its shape: the events of a slot change the log and one counter of the engine, so the capture that follows them finds the slot
clock, the queue and every other engine as they stood before.
-/
namespace Sys2Proof.Machine

variable {s : State} {e : EngineId}

/-! ### Events of another class than 3 -/

/-- An event changes the service record alone, unless its class is 3, which its die records too. -/
theorem event_eq_of_class_ne {code : W16} (hc : code.toNat / 0x1000 ≠ 3) (h : Handle) :
    s.event code h = { s with svc := (s.event code h).svc } := by
  simp [State.event, State.raise, hc]

@[simp] theorem engine_event (code : W16) (h : Handle) (g : EngineId) : (s.event code h).engine g = s.engine g :=
  State.raise_engine s code h 0 0xFFFF g

/-- What an engine holds does not matter to the log. -/
theorem svc_event_modEngine (code : W16) (h : Handle) (f : Engine → Engine) :
    ((s.modEngine e f).event code h).svc = (s.event code h).svc := by
  simp only [State.event, State.raise]
  split
  · split <;> rfl
  · rfl

/-! ### The events of a slot (R62, R63) -/

/-- The state with the event of a replica fault, when the slot has one (R62). -/
def State.logFault (s : State) (h : Handle) (p : PlaneSums) : State := if p.poison then s.event 0x2010 h else s

section
variable (s e) (h : Handle) (p : PlaneSums)

theorem slotEvents_of_unclamped (hc : p.clamped = []) : s.slotEvents e h p = s.logFault h p := by
  simp [State.slotEvents, State.logFault, hc]

theorem slotEvents_of_clamped (hc : p.clamped ≠ []) :
    s.slotEvents e h p = ((s.logFault h p).modEngine e fun g =>
      { g with acc := { g.acc with clamped := satAdd32 g.acc.clamped p.clamped.length } }).event 0x2011 h := by
  simp [State.slotEvents, State.logFault, hc]

theorem logFault_frame : ∃ v, s.logFault h p = { s with svc := v } := by
  rw [State.logFault]
  split
  · exact ⟨_, event_eq_of_class_ne (by decide) h⟩
  · exact ⟨s.svc, rfl⟩

@[simp] theorem engine_logFault (g : EngineId) : (s.logFault h p).engine g = s.engine g := by
  obtain ⟨v, hv⟩ := logFault_frame s h p
  rw [hv]
  rfl

/-- A replica fault and clamped sums change engines and the service record alone. -/
theorem slotEvents_frame : ∃ m v, s.slotEvents e h p = { s with engines := m, svc := v } := by
  obtain ⟨v, hv⟩ := logFault_frame s h p
  by_cases hc : p.clamped = []
  · exact ⟨s.engines, v, (slotEvents_of_unclamped s e h p hc).trans hv⟩
  · rw [slotEvents_of_clamped s e h p hc, hv]
    exact ⟨_, _, event_eq_of_class_ne (by decide) h⟩

theorem slotClock_slotEvents : (s.slotEvents e h p).slotClock e = s.slotClock e := by
  obtain ⟨m, v, hframe⟩ := slotEvents_frame s e h p
  rw [hframe]
  rfl

theorem svc_slotEvents : (s.slotEvents e h p).svc =
    (if p.clamped = [] then s.logFault h p else (s.logFault h p).event 0x2011 h).svc := by
  split
  next hc => rw [slotEvents_of_unclamped s e h p hc]
  next hc => rw [slotEvents_of_clamped s e h p hc, svc_event_modEngine]

/-- Clamped sums are counted on their engine (R63). -/
theorem engine_slotEvents :
    (s.slotEvents e h p).engine e = { s.engine e with acc := { (s.engine e).acc with
      clamped := if p.clamped = [] then (s.engine e).acc.clamped
        else satAdd32 (s.engine e).acc.clamped p.clamped.length } } := by
  split
  next hc => rw [slotEvents_of_unclamped s e h p hc, engine_logFault]
  next hc => rw [slotEvents_of_clamped s e h p hc, engine_event, State.engine_modEngine, engine_logFault]

theorem engine_slotEvents_other {g : EngineId} (hg : g ≠ e) : (s.slotEvents e h p).engine g = s.engine g := by
  by_cases hc : p.clamped = []
  · rw [slotEvents_of_unclamped s e h p hc, engine_logFault]
  · rw [slotEvents_of_clamped s e h p hc, engine_event, State.engine_modEngine_other _ _ _ _ hg, engine_logFault]

end

/-! ### The capture of a plane (R57, R61, R182) -/

/-- Operation i of engine e, which is o, takes the sums of its next plane, in the slot that the engine is in. -/
def State.takePlane (s : State) (e : EngineId) (i : Nat) (o : ArrayOp) (p : PlaneSums) : State :=
  s.modEngine e fun g => { g.issue (s.slotClock e) with ops := g.ops.set i { o with planes := o.planes ++ [p] } }

/-- The sums that a capture gives the next plane of operation o on bank b (R60, R61, R72). -/
def State.nextPlane (s : State) (o : ArrayOp) (b : Nat) (c : TdcCapture) : PlaneSums :=
  slotSums c (s.bankTrims b) (if o.matchSense then 128 else popcount (planeRows o.inputs o.planes.length)) fun j =>
    if o.set = .pair8 ∧ j % 2 = 1 then
      loBias (planeRows o.inputs o.planes.length) ((s.bank b).contents.tempo.getD j [])
    else 0

/-- A capture with its events changes engines and the service record alone. -/
theorem takePlane_slotEvents_frame {i : Nat} {o : ArrayOp} {h : Handle} {p : PlaneSums} {u : State}
    (hu : u = (s.slotEvents e h p).takePlane e i o p) : u = { s with engines := u.engines, svc := u.svc } := by
  obtain ⟨m, v, hframe⟩ := slotEvents_frame s e h p
  rw [hu, hframe]
  rfl

section
variable {c : TdcCapture} {i : Nat} {o : ArrayOp} (hawake : s.awake = true) (hfrozen : s.frozen (engineTile e) = false)

section
variable (hfirst : (s.engine e).ops.findIdx? (fun o => decide (o.planes.length < o.p)) = some i)
  (hop : (s.engine e).ops[i]? = some o) (hdue : o.captureAt o.planes.length ≤ (s.tile (engineTile e)).pcyc)
include hawake hfrozen hfirst hop hdue

theorem exec_arraySlot_unbound (hbank : o.bank = none) :
    exec (.arraySlot e c) s = .next (s.takePlane e i o ⟨List.replicate 256 0, true, []⟩) := by
  simp [execArraySlot, State.takePlane, hawake, hfrozen, hfirst, hop, Nat.not_lt.mpr hdue, hbank, -List.reduceReplicate]

theorem exec_arraySlot_bound {b : Nat} (hbank : o.bank = some b) :
    exec (.arraySlot e c) s = .next
      ((s.slotEvents e (arrayHandle e (b % 2048 / 2)) (s.nextPlane o b c)).takePlane e i o (s.nextPlane o b c)) := by
  simp [execArraySlot, State.takePlane, State.nextPlane, hawake, hfrozen, hfirst, hop, Nat.not_lt.mpr hdue, hbank]

end

/-! ### The lanes (R65, R68, R73, R131) -/

section
variable {rest : List ArrayOp} (hops : (s.engine e).ops = o :: rest)
include hawake hfrozen hops

theorem exec_laneUpdate_waits (hwait : o.planes.length < o.p ∨ (s.tile (engineTile e)).pcyc < o.updateAt)
    (bad : List Nat) : exec (.laneUpdate e bad) s = .next s := by
  simp [execLaneUpdate, hawake, hfrozen, hops, hwait]

section
variable (hall : o.p ≤ o.planes.length) (hdue : o.updateAt ≤ (s.tile (engineTile e)).pcyc)
include hall hdue

theorem exec_laneUpdate_unbound (hbank : o.bank = none) (bad : List Nat) :
    exec (.laneUpdate e bad) s = .next (s.setEngine e { s.engine e with
      ops := rest, pairLanes := false, lanes := o.unboundLanes (s.engine e).lanes }) := by
  simp [execLaneUpdate, hawake, hfrozen, hops, Nat.not_lt.mpr hall, Nat.not_lt.mpr hdue, hbank]

/-- With a bank and a pool without uncorrectable entries, no entry of the list is bad (R131). -/
theorem exec_laneUpdate_bound {b : Nat} (hbank : o.bank = some b) (hpool : (s.tile (engineTile e)).badPool = []) :
    exec (.laneUpdate e []) s = .next (
      let s1 := s.setEngine e { s.engine e with
        ops := rest, lanes := s.operateLanes o b false (s.engine e).lanes, pairLanes := decide (o.set = .pair8) }
      let s2 := if s.operationSaturates o b false (s.engine e).lanes then s1.event 0x2012 (engineHandle e) else s1
      if o.poison then s2.takeFree else s2) := by
  simp [execLaneUpdate, hawake, hfrozen, hops, Nat.not_lt.mpr hall, Nat.not_lt.mpr hdue, hbank, hpool]

end
end
end

end Sys2Proof.Machine

namespace Sys2Proof
open Sys2Proof.Machine

/-- Settles O50: each command takes the branch that its conditions name, and what the events of a slot leave of the state is
read back through their laws. -/
theorem arrayAndLanes : Obligations.ArrayAndLanes := by
  unfold Obligations.ArrayAndLanes
  refine ⟨fun s e c i o take hawake hfrozen hfirst hop hdue htake => ⟨fun hbank => ?_, ?_⟩,
    fun s e o rest hawake hfrozen hops => ⟨fun hwait => exec_laneUpdate_waits hawake hfrozen hops hwait,
      fun hall hdue hbank => exec_laneUpdate_unbound hawake hfrozen hops hall hdue hbank, ?_⟩⟩
  · subst htake
    exact exec_arraySlot_unbound hawake hfrozen hfirst hop hdue hbank
  · intro b rows p hbank hrows hp
    have hexec := exec_arraySlot_bound (c := c) hawake hfrozen hfirst hop hdue hbank
    have hplane : s.nextPlane o b c = p := by rw [hp, hrows, State.nextPlane]
    rw [hplane] at hexec
    subst htake
    refine ⟨fun hpoison hclamped => ?_, _, _, hexec, rfl, svc_slotEvents s e _ p,
      takePlane_slotEvents_frame rfl, fun g hg => ?_, ?_⟩
    · rw [hexec, slotEvents_of_unclamped s e _ p hclamped, State.logFault, hpoison]
      rfl
    · rw [State.takePlane, State.engine_modEngine_other _ _ _ _ hg, engine_slotEvents_other s e _ p hg]
    · rw [State.takePlane, State.engine_modEngine, slotClock_slotEvents, engine_slotEvents]
  · intro hall hdue b after hbank hpool hafter
    subst hafter
    exact exec_laneUpdate_bound hawake hfrozen hops hall hdue hbank hpool

end Sys2Proof
end

section
/-!
PROOF. O40: integer ADD, SUB and MUL saturate (R110, R235). Each is satRes of the exact value, and satRes clamps: within its
bounds a clamped value is max of the lower bound and min of the upper, and it differs exactly for a value beyond one of them.
-/
namespace Sys2Proof.Machine

theorem clampInt_eq_max_min {lo hi : Int} (h : lo ≤ hi) (x : Int) : clampInt lo hi x = max lo (min hi x) := by
  unfold clampInt
  split
  next => omega
  next => split <;> omega

/-- Clamping acts on the values beyond its bounds only. -/
theorem clampInt_ne_iff (lo hi x : Int) : clampInt lo hi x ≠ x ↔ x < lo ∨ hi < x := by
  unfold clampInt
  split
  next => omega
  next => split <;> omega

/-- The bounds of a two's-complement pattern, and the flag of a value beyond them (R110). -/
theorem satRes_eq (w : Nat) (x : Int) :
    satRes w x = ⟨(max (-2 ^ (w - 1)) (min (2 ^ (w - 1) - 1) x) % 2 ^ w).toNat,
      ⟨false, decide (x < -2 ^ (w - 1) ∨ 2 ^ (w - 1) - 1 < x), false, false⟩⟩ := by
  have hpos : (0 : Int) < 2 ^ (w - 1) := Int.pow_pos (by decide)
  have hbounds : (-2 ^ (w - 1) : Int) ≤ 2 ^ (w - 1) - 1 := by omega
  simp only [satRes, uint, Int.natCast_pow, Int.cast_ofNat_Int, clampInt_ne_iff]
  rw [clampInt_eq_max_min hbounds]

/-- An integer operation of two patterns saturates the value of its exact form (R110). -/
theorem arith2_of_isInt {f : VFmt} (hf : VFmt.isInt f = true) (fi : Int → Int → Int) (ff : FpFmt → Nat → Nat → FRes)
    (a b : Nat) : arith2 fi ff f a b = satRes (VFmt.bits f) (fi (sint (VFmt.bits f) a) (sint (VFmt.bits f) b)) := by
  rw [arith2, if_pos hf]

end Sys2Proof.Machine

namespace Sys2Proof
open Sys2Proof.Machine

/-- Settles O40: the three operations are the integer forms of one shape, which saturates. -/
theorem integerSaturation : Obligations.IntegerSaturation := by
  unfold Obligations.IntegerSaturation
  intro f a b hf
  refine ⟨?_, ?_, ?_⟩
  · rw [elemAdd, arith2_of_isInt hf, satRes_eq]
  · rw [elemSub, arith2_of_isInt hf, satRes_eq]
  · rw [elemMul, arith2_of_isInt hf, satRes_eq]

end Sys2Proof
end

section
/-!
PROOF. O32: writes and reads of lists, deep groups, the recall store, the event log and the counters. Each command is one
checked access; under its conditions no check holds, so its effect takes place.
-/
namespace Sys2Proof.Machine

variable {s : State} {c : Channel}

/-! ### Writes of the HD part (R347, R348) -/

section
variable {lengthOk ok : Bool} {aux : Nat} {f : State → State} (ht : Takes s c)
include ht

/-- Good contents of the right length have their effect. -/
theorem hdWrite_ok (hlen : lengthOk = true) (hok : ok = true) :
    s.hdWrite c lengthOk ok aux f = (f s).answer c 0 [] := by
  subst hlen hok
  rw [State.hdWrite, Bool.not_true, Bool.and_false, Bool.false_and, if_neg Bool.false_ne_true]
  exact request_ok ht rfl

/-- Other contents of the right length raise 0x7013 and nothing else. -/
theorem hdWrite_refused (hlen : lengthOk = true) (hok : ok = false) :
    s.hdWrite c lengthOk ok aux f = (s.deviceEvent 0x7013 aux).answer c 0x06090030 [] := by
  obtain ⟨⟨hserves, hrestart⟩, hwiped⟩ := ht
  simp [State.hdWrite, State.refuseHd, hserves, hrestart, hwiped, hlen, hok]

section
variable {n : Fin 16} {entry : List Byte} (hlen : entry.length = 16)
include hlen

theorem exec_listTableWrite_ok (hok : listEntryOk entry = true) :
    exec (.listTableWrite c n entry) s = .next (({ s.acceptOctets (0x250301 + n.val) entry with
      hd := { s.hd with
        nextLists := some (mset HdList.zero (s.hd.nextLists.getD s.hd.lists) n.val (HdList.parse entry)) } } :
          State).answer c 0 []) :=
  congrArg Host.Outcome.next (hdWrite_ok ht (decide_eq_true hlen) hok)

theorem exec_listTableWrite_refused (hok : listEntryOk entry = false) :
    exec (.listTableWrite c n entry) s = .next ((s.deviceEvent 0x7013 n.val).answer c 0x06090030 []) :=
  congrArg Host.Outcome.next (hdWrite_refused ht (decide_eq_true hlen) hok)

end

section
variable {data : List Byte} (h1 : 1 ≤ data.length) (hmax : data.length ≤ 16384)
include h1 hmax

theorem exec_listWrite_ok (halign : s.accepted 0x250401 % 16 = 0) (hlow : 0x600000 ≤ s.accepted 0x250401)
    (hhigh : s.accepted 0x250401 + data.length ≤ 0x680000)
    (hdata : s.commandsOk data = true ∨ s.descriptorsOk 1024 data = true) :
    exec (.listWrite c data) s =
      .next (((s.acceptOctets 0x250402 data).hubWrite (s.accepted 0x250401) data false).answer c 0 []) :=
  congrArg Host.Outcome.next
    (hdWrite_ok ht (by simp only [h1, hmax, decide_true, Bool.and_self]) (by simp [halign, hlow, hhigh, hdata]))

/-- Contents that stand at a wrong place, or are neither commands nor descriptors, are refused (R348). -/
theorem exec_listWrite_refused
    (hbad : s.accepted 0x250401 % 16 ≠ 0 ∨ s.accepted 0x250401 < 0x600000 ∨
      0x680000 < s.accepted 0x250401 + data.length ∨
      (s.commandsOk data = false ∧ s.descriptorsOk 1024 data = false)) :
    exec (.listWrite c data) s = .next ((s.deviceEvent 0x7013 0xFF).answer c 0x06090030 []) := by
  refine congrArg Host.Outcome.next
    (hdWrite_refused ht (by simp only [h1, hmax, decide_true, Bool.and_self]) ?_)
  rcases hbad with halign | hlow | hhigh | ⟨hcommands, hdescriptors⟩
  · simp [halign]
  · simp [Nat.not_le.mpr hlow]
  · simp [Nat.not_le.mpr hhigh]
  · simp [hcommands, hdescriptors]

end

end

/-! ### The recall store (R376, R383, R387) -/

section
variable (ht : Takes s c)
include ht

theorem exec_deepGroupWrite_ok {entry : List Byte} (hrev : 5 ≤ s.revision c) (hlen : entry.length = 8)
    (hok : deepGroupOk entry = true) :
    exec (.deepGroupWrite c entry) s = .next (({ s with
      rcl := { s.rcl with deepNext := s.rcl.deepNext ++
        [(s.accepted 0x250701, ⟨BitVec.ofNat 32 (fieldAt entry 0 4), fieldAt entry 4 2⟩)] }
      svc := { s.svc with settingsChanged := true } } : State).answer c 0 []) :=
  congrArg Host.Outcome.next (request_ok ht (by simp [State.newObject, Nat.not_lt.mpr hrev, hlen, hok]))

/-- A range of a bank of the widest entries whose deep groups are present is consolidated (R387). -/
theorem exec_startConsolidation_ok {bank : Byte} {first count group : W16} (hawake : s.awake = true)
    (hidle : s.rcl.consolidation ≠ 1) (hbank : bank.toNat < 16) (hgroup : group.toNat < 4096) (hcount : count ≠ 0)
    (hrange : first.toNat + count.toNat ≤ (s.rbank bank.toNat).size) (hwidth : (s.rbank bank.toNat).width = 2)
    (hpresent : s.groupsPresent group.toNat (((s.rbank bank.toNat).entries.filter fun q =>
      q.2.isValid && decide (first.toNat ≤ q.1) && decide (q.1 < first.toNat + count.toNat)).length) = true) :
    exec (.startConsolidation c bank first count group) s =
      .next ((s.consolidate bank.toNat first.toNat count.toNat group.toNat).answer c 0 []) := by
  rw [exec_startConsolidation, execStartConsolidation, request_ok ht (by
    simpa [hawake, hidle, Nat.not_le.mpr hbank, Nat.not_le.mpr hgroup, Nat.not_lt.mpr hrange] using hcount),
    if_neg (not_not_intro hwidth), hpresent, Bool.not_true, if_neg Bool.false_ne_true]

theorem exec_requestRespread_ok {bank : Byte} (hbank : bank.toNat < 16) (hawake : s.awake = true)
    (hnone : (s.rbank bank.toNat).respread = none) :
    exec (.requestRespread c bank) s = .next ((s.startRespread bank.toNat).answer c 0 []) :=
  congrArg Host.Outcome.next (request_ok ht (by simp [Nat.not_le.mpr hbank, hawake, hnone]))

end

/-! ### The event log (R435, R437, R513) -/

section
variable (hs : Serves s c)
include hs

theorem exec_eventEntryRead_some {e : LogEntry} (he : s.logEntry (s.accepted 0x2E0003) = some e) :
    exec (.eventEntryRead c) s = .next
      ((s.acceptSetting 0x2E0003 ((s.accepted 0x2E0003 + 1) % 0x100000000)).answer c 0 e.bytes) := by
  rw [exec_eventEntryRead, execEventEntryRead, fetch_ok hs (by simp [he]), he]

theorem exec_eventEntryRead_none (he : s.logEntry (s.accepted 0x2E0003) = none) :
    exec (.eventEntryRead c) s = .next (s.answer c 0x08000024 []) :=
  congrArg Host.Outcome.next (fetch_abort hs (b := true) (by simp [he]))

theorem exec_eventAcknowledge_of_readable {q : W32} {n : Nat} (hn : s.svc.readable = some n) :
    exec (.eventAcknowledge c q) s = .next (({ s with svc := { s.svc with
      acked := some (max (min q.toNat n) (s.svc.acked.getD 0)) } } : State).answer c 0 []) := by
  rw [exec_eventAcknowledge, execEventAcknowledge, requestOpen_ok hs rfl, State.acknowledge, hn]

end

/-! ### Counters and the registers of tiles (R102, R494, R497) -/

/-- No counter of an event class is an object of a window. -/
theorem counterIndex_lt {ix : Nat} (h : counterIndex ix = true) : ix < 0x4000 := by
  simp only [counterIndex, List.contains_iff_mem, List.mem_cons, List.not_mem_nil, or_false] at h
  omega

/-- Each window takes 256 indices from 0x4000 on (R41). -/
theorem windowOf_index {w : Fin 16} {off : Nat} (h : off < 256) : windowOf (0x4000 + 256 * w.val + off) = w := by
  apply Fin.ext
  simp only [windowOf, Fin.ofNat]
  omega

section
variable (ht : Takes s c)
include ht

/-- An event counter is cleared (R494). -/
theorem exec_counterClear_event {a : ObjAddr} (hix : counterIndex a.index.toNat = true) (hsub : a.sub ≠ 0) :
    exec (.counterClear c a 0) s =
      .next (({ s with svc := { s.svc with counters := mset 0 s.svc.counters a.key 0 } } : State).answer c 0 []) := by
  have hwin : ¬(0x4000 ≤ a.index.toNat ∧ a.index.toNat < 0x5000) := fun h => absurd (counterIndex_lt hix) (by omega)
  have hnum : a.sub.toNat ≠ 0 := fun h => hsub (BitVec.eq_of_toNat_eq h)
  rw [exec_counterClear, execCounterClear, if_neg hwin, request_ok ht (by simp [hix, hnum]), State.clearEvents]

section
variable {w : Fin 16} {h : Handle} (hsel : s.selected w = h) (hpath : windowPath w c = true)
  (hin : s.unitOut h = false)
include hsel hpath hin

/-- A counter of the units that a window reaches is cleared (R494). -/
theorem exec_counterClear_window {a : ObjAddr} {off sub : Nat} (hix : a.index.toNat = 0x4000 + 256 * w.val + off)
    (hoff : off < 256) (hsub : a.sub.toNat = sub) (habort : subtreeAbort h off sub = 0)
    (hrwc : (subtreeSpec off sub).access = .rwc) :
    exec (.counterClear c a 0) s = .next ((forAll (s.reached h) (fun s u => s.clearUnit u off sub) s).answer c 0 []) := by
  have hwin : 0x4000 ≤ a.index.toNat ∧ a.index.toNat < 0x5000 := by omega
  have hmod : a.index.toNat % 256 = off := by omega
  have hof : windowOf a.index.toNat = w := hix ▸ windowOf_index hoff
  rw [exec_counterClear, execCounterClear, if_pos hwin]
  simp only [hof, hmod, hsub, hsel]
  rw [request_ok ht (by simp [hpath, habort, hrwc, hin])]

/-- The two words of a tile's statistics registers wait for the next frame boundary (R102). -/
theorem exec_statRegisterWrite_ok {sub : Byte} {ctl clip : W32} (habort : subtreeAbort h 0x20 sub.toNat = 0) :
    exec (.statRegisterWrite c w sub ctl clip) s =
      .next ((forAll ((s.reached h).filterMap Handle.tile?) (fun s t => s.modTile t fun x =>
        { x with statPend := x.statPend ++ [(Fin.ofNat 16 (sub.toNat - 1), ctl, clip)] }) s).answer c 0 []) := by
  subst hsel
  exact congrArg Host.Outcome.next (request_ok ht (by simp [hpath, habort, hin]))

end

end

end Sys2Proof.Machine

namespace Sys2Proof
open Sys2Proof.Machine

/-- Settles O32: one lemma a command. -/
theorem storesAndLogs : Obligations.StoresAndLogs := by
  unfold Obligations.StoresAndLogs
  intro s
  refine ⟨fun c n entry r ht hlen hok hr => hr ▸ exec_listTableWrite_ok ht hlen hok,
    fun _ _ _ ht => exec_listTableWrite_refused ht,
    fun c data r ht h1 hmax halign hlow hhigh hdata hr => hr ▸ exec_listWrite_ok ht h1 hmax halign hlow hhigh hdata,
    fun _ _ ht => exec_listWrite_refused ht,
    fun _ _ ht => exec_deepGroupWrite_ok ht,
    fun _ _ _ _ _ ht => exec_startConsolidation_ok ht,
    fun _ _ ht => exec_requestRespread_ok ht,
    fun _ _ hs => exec_eventEntryRead_some hs, fun _ hs => exec_eventEntryRead_none hs,
    fun _ _ _ hs => exec_eventAcknowledge_of_readable hs,
    fun _ _ ht => exec_counterClear_event ht,
    fun _ _ _ _ _ _ ht hix hoff hsub hsel hpath habort hrwc hin =>
      exec_counterClear_window ht hsel hpath hin hix hoff hsub habort hrwc,
    fun _ _ _ _ _ _ ht hsel hpath habort hin => exec_statRegisterWrite_ok ht hsel hpath hin habort⟩

end Sys2Proof
end

section
/-!
PROOF. O27: maintenance of the engines: drift scans, drift refresh, calibration, the strongman's misses and the end of a bank
write, and the three dictionary accesses that go with them. One lemma a case of a command: its conditions name the branch that
the command takes.
-/
namespace Sys2Proof.Machine

variable {s : State} {e : EngineId}

/-! ### Drift scans (R135, R138, R141, R142) -/

/-- The engine's scan is over; its banks, maps and lists stand as they stood. -/
def State.endScan (s : State) (e : EngineId) : State := s.setEngine e { s.engine e with scan := none }

@[simp] theorem State.endScan_bank (b : Nat) : (s.endScan e).bank b = s.bank b := rfl
@[simp] theorem State.endScan_stuckOf (b : Nat) : (s.endScan e).stuckOf b = s.stuckOf b := rfl
@[simp] theorem State.endScan_newlyStuck (b : Nat) (cells : List FailedCell) :
    (s.endScan e).newlyStuck b cells = s.newlyStuck b cells := rfl

theorem BankState.scanned_and_ne_live_of_waiting {k : BankState} (h : k = .ready ∨ k = .pending) :
    k.scanned = true ∧ k ≠ .live := by
  rcases h with rfl | rfl <;> exact ⟨rfl, by decide⟩

section
variable {b : Fin 8388608} (he : e = bankEngine b.val) (hm : s.maintains e = true)
include he hm

theorem exec_driftScan_of_no_scan (hscanned : (s.bank b.val).state.scanned = true) (hnone : (s.engine e).scan = none) :
    exec (.driftScan b) s = .next (s.setEngine e { s.engine e with scan := some (Scan.start b.val) }) := by
  subst he
  simp [execDriftScan, State.modEngine, hm, hscanned, hnone]

section
variable {x : Scan} (hx : (s.engine e).scan = some x) (hb : x.bank = b.val) (htaken : x.total ≤ x.taken)
include hx hb htaken

theorem exec_driftScan_of_taken (hscanned : (s.bank b.val).state.scanned = true) :
    exec (.driftScan b) s = .next ((s.endScan e).finishScan x) := by
  subst he
  simp [execDriftScan, State.modEngine, State.endScan, hm, hscanned, hx, hb, Nat.not_lt.mpr htaken]

theorem exec_driftScan_of_live (hlive : (s.bank b.val).state = .live) :
    exec (.driftScan b) s = .next ((s.endScan e).scanLive b.val (x.confirmed (s.bank b.val).contents)
      (x.drift (s.bank b.val).contents fun i j =>
        (s.stuckOf b.val).any fun c => decide (c.row.val = i) && decide (c.string.val = j))) := by
  rw [exec_driftScan_of_taken he hm hx hb htaken (by rw [hlive]; rfl)]
  simp only [State.finishScan, hb, State.endScan_bank, State.endScan_stuckOf, if_pos hlive]

/-- A newly stuck cell of a ready or pending bank cancels the flip set of the bank (R160). -/
theorem exec_driftScan_of_waiting {c : FailedCell} {cs : List FailedCell} {j : Fin 4}
    (hwait : (s.bank b.val).state = .ready ∨ (s.bank b.val).state = .pending)
    (hstuck : s.newlyStuck b.val (x.confirmed (s.bank b.val).contents) = c :: cs)
    (hset : (s.bank b.val).fset = some j) :
    exec (.driftScan b) s = .next
      ((forAll (c :: cs) (fun r c => r.recordStuck b.val c 1) (s.endScan e)).cancelSet j.val).startLanes := by
  obtain ⟨hscanned, hlive⟩ := BankState.scanned_and_ne_live_of_waiting hwait
  rw [exec_driftScan_of_taken he hm hx hb htaken hscanned]
  simp only [State.finishScan, State.scanWaiting, hb, State.endScan_bank, State.endScan_newlyStuck, if_neg hlive,
    hstuck, hset]

end

end

/-! ### Drift refresh (R142, R143) -/

section
variable {b : Fin 8388608} {t : Task} (he : e = bankEngine b.val) (hm : s.maintains e = true)
  (herr : s.sec.state ≠ .error) (hlive : (s.bank b.val).state = .live)
  (hheld : s.setBlocks.contains (engineHandle e, (s.bank b.val).block) = false)
  (ht : (s.engine e).nextRewrite b.val = some t)
include he hm herr hlive hheld ht

theorem exec_driftRefresh_of_worn (hworn : (s.bank (otherBank b.val)).worn = true) :
    exec (.driftRefresh b) s = .next
      (((s.modBank b.val fun k => { k with blocked := true }).modEngine e fun g => g.dropRewrites b.val).event 0x8014
        (arrayHandle e (b.val % 2048 / 2))) := by
  subst he
  simp only [exec_driftRefresh, execDriftRefresh, hm, herr, hlive, hheld, ht, hworn]
  rfl

theorem exec_driftRefresh_of_qualified {j : Nat} {r : BlockRecord} (hworn : (s.bank (otherBank b.val)).worn = false)
    (hj : s.freeSet = some j) (hr : s.sourceOf b.val = some r) (hq : s.bankQualifies false (otherBank b.val) = true) :
    exec (.driftRefresh b) s = .next
      ((((s.modEngine e fun g => { g with begun := g.begun ++ [t] }).setFlip j
        { FlipSet.none with
          used := true, refresh := true
          bindings := [(e, (s.bank b.val).block, otherBank b.val, true)] }).queueWrites j
            [(otherBank b.val, r)]).finishSet j) := by
  subst he
  simp only [exec_driftRefresh, execDriftRefresh, hm, herr, hlive, hheld, ht, hworn, hj, hr, hq]
  rfl

end

/-! ### Calibration (R121 to R124, R128) -/

theorem exec_periodicRecalibration_of_maintains (hm : s.maintains e = true) :
    exec (.periodicRecalibration e) s = .next (s.modEngine e fun g =>
      (s.liveBanks e).foldl (fun g b => g.addTask (.recalBank b)) (g.addTask .recalEngine)) := by
  rw [exec_periodicRecalibration, execPeriodicRecalibration, hm, Bool.not_true, if_neg Bool.false_ne_true]

section
variable {c : Calib} (hm : s.maintains e = true) (hc : (s.engine e).cal = some c) (htaken : c.total ≤ c.taken)
  (hslopes : c.open? = false)
include hm hc htaken hslopes

theorem exec_calibrationComplete_of_engine (hb : c.bank = none) :
    exec (.calibrationComplete e) s = .next (s.setEngine e
      ({ s.engine e with
        nextParts := mset EnginePart.nominal (s.engine e).nextParts c.band (s.measuredPart e c) }.endPart c
          (s.slotClock e))) := by
  simp [execCalibrationComplete, State.modEngine, hm, hc, Nat.not_lt.mpr htaken, hslopes, hb]

theorem exec_calibrationComplete_of_bank {b : Nat} (hb : c.bank = some b) :
    exec (.calibrationComplete e) s = .next (s.endArray e b c) := by
  simp [execCalibrationComplete, hm, hc, Nat.not_lt.mpr htaken, hslopes, hb]

end

/-- A calibration of an engine and its task are over. -/
def State.endCal (s : State) (e : EngineId) (c : Calib) : State :=
  s.setEngine e { s.engine e with cal := none, tasks := (s.engine e).tasks.erase c.task }

section
variable {b : Nat} {c : Calib}

/-- A re-calibration stores its part for the next frame boundary (R123). -/
theorem State.endArray_of_recalibration (h : c.task ≠ .fresh b) :
    s.endArray e b c = (s.endCal e c).modBank b fun k => { k with nextPart := some (s.measuredArray b c) } :=
  if_neg fun hf => h hf.1

/-- The calibration after a write makes the bank ready, and may complete its flip set (R150). -/
theorem State.endArray_of_written {j : Fin 4} (htask : c.task = .fresh b) (hwriting : (s.bank b).state = .writing)
    (hset : (s.bank b).fset = some j) :
    s.endArray e b c =
      ((s.endCal e c).modBank b fun k => { k with state := .ready, part := s.measuredArray b c }).finishSet j.val := by
  simp only [State.endArray, if_pos (And.intro htask hwriting), hset]
  rfl

end

/-! ### Misses of the strongman (R128) -/

/-- The misses of an engine are reported, and their count begins again. -/
def State.reportStrongmanMisses (s : State) (e : EngineId) : State :=
  (s.event 0x2032 (engineHandle e)).setEngine e { s.engine e with misses := [] }

section
variable (ha : s.awake = true) (hin : s.dieIn (engineDie e) = true)
  (hmiss : 16 < ((s.engine e).misses.filter fun t => decide (s.slotClock e < t + 800000000)).length)
include ha hin hmiss

/-- Above 16 misses the re-calibrations that did not end them decide. -/
theorem exec_strongmanMissLimit_of_misses :
    exec (.strongmanMissLimit e) s = .next
      (let runs := if (s.engine e).persists then (s.engine e).recalRuns else 0
       if 2 ≤ runs then (s.reportStrongmanMisses e).markOut (engineDie e) 2
       else (s.reportStrongmanMisses e).modEngine e fun g =>
         { g with recalRuns := runs, missRecal := true }.addTask .recalEngine) := by
  simp [execStrongmanMissLimit, State.reportStrongmanMisses, ha, hin, Nat.not_le.mpr hmiss]

theorem exec_strongmanMissLimit_recalibrates (h : (s.engine e).recalRuns < 2 ∨ (s.engine e).persists = false) :
    exec (.strongmanMissLimit e) s = .next
      ((s.reportStrongmanMisses e).modEngine e fun g =>
        { g with
          recalRuns := if (s.engine e).persists then (s.engine e).recalRuns else 0
          missRecal := true }.addTask .recalEngine) := by
  have hruns : ¬2 ≤ (if (s.engine e).persists then (s.engine e).recalRuns else 0) := by
    rcases h with h | h
    · split <;> omega
    · simp [h]
  rw [exec_strongmanMissLimit_of_misses ha hin hmiss]
  exact congrArg Host.Outcome.next (if_neg hruns)

theorem exec_strongmanMissLimit_marksOut (hruns : 2 ≤ (s.engine e).recalRuns) (hp : (s.engine e).persists = true) :
    exec (.strongmanMissLimit e) s = .next ((s.reportStrongmanMisses e).markOut (engineDie e) 2) := by
  rw [exec_strongmanMissLimit_of_misses ha hin hmiss]
  exact congrArg Host.Outcome.next (if_pos (by rwa [if_pos hp]))

end

/-! ### The end of a bank write (R124, R150, R152) -/

/-- A write ends once its lane has had the write slots and the length of R152. -/
theorem State.writeEnds_of_length {b : Nat} (hlane : (s.bank b).lane = true) (hslots : 183000 ≤ (s.bank b).laneSlots)
    (hlength : (s.bank b).laneFrom + 976000 ≤ (s.die (bankDie b)).clock) : s.writeEnds b = true := by
  simp [State.writeEnds, hlane, hslots, hlength]

/-- The bank of a finished write: its failed cells in the map, its contents, its manifest entry and its record. -/
def State.bankWritten (s : State) (b : Nat) (r : BlockRecord) (j : Nat) (failed : List FailedCell) : State :=
  let s1 := forAll failed (fun s c => s.recordStuck b c 2) s
  ((s1.fillBank b r failed).writtenBank b r (s1.imageOf j b r)).keepRecord b r

theorem exec_bankWriteComplete_of_ends {bank : Fin 8388608} {w : Nat × BlockRecord} {j : Fin 4} (failed : List FailedCell)
    (ha : s.awake = true) (hw : s.weights.waitingWrites.find? (fun w => decide (w.1 = bank.val)) = some w)
    (hset : (s.bank bank.val).fset = some j) (hends : s.writeEnds bank.val = true) :
    exec (.bankWriteComplete bank failed) s = .next
      (let s2 := s.bankWritten bank.val w.2 j.val failed
       (({ s2 with weights := { s2.weights with
          waitingWrites := s2.weights.waitingWrites.erase w
          blocksWritten := if decide (s2.weights.loadSet = some j) then s2.weights.blocksWritten + 1
            else s2.weights.blocksWritten } } : State).modEngine (bankEngine bank.val) fun g =>
              g.addTask (.fresh bank.val)).startLanes) := by
  simp only [exec_bankWriteComplete, execBankWriteComplete, hw, hset, hends, ha]
  rfl

/-! ### Accesses to the dictionary (R506, R574) -/

section
variable {c : Channel} {h : Handle}

section
variable (ht : Takes s c) (hv : Handle.physValid h = true)
include ht hv

theorem exec_queueRecalibration_of_engine (hk : Handle.kind h = 4) (hin : s.handleIn h = true)
    (he : Handle.inEngine? h = some e) :
    exec (.queueRecalibration c h) s = .next ((s.modEngine e fun g => g.addTask .recalEngine).answer c 0 []) := by
  rw [exec_queueRecalibration, execQueueRecalibration, request_ok ht (by simp [hv, hk, hin]), he]
  exact congrArg (fun r : State => Host.Outcome.next (r.answer c 0 [])) (if_pos hk)

theorem exec_queueRecalibration_of_array (hk : Handle.kind h = 5) (hin : s.handleIn h = true)
    (he : Handle.inEngine? h = some e) :
    exec (.queueRecalibration c h) s = .next
      ((s.modEngine e fun g =>
        ([e.val * 2048 + 2 * Handle.arrayField h, e.val * 2048 + 2 * Handle.arrayField h + 1].filter
          fun b => decide ((s.bank b).state = .live)).foldl (fun g b => g.addTask (.recalBank b)) g).answer c 0 []) := by
  rw [exec_queueRecalibration, execQueueRecalibration, request_ok ht (by simp [hv, hk, hin]), he]
  exact congrArg (fun r : State => Host.Outcome.next (r.answer c 0 [])) (if_neg (by omega))

theorem exec_strongmanRun_ok (hk : Handle.kind h = 4) (he : Handle.engine? h = some e) (ha : s.awake = true)
    (hin : s.handleIn h = true) :
    exec (.strongmanRun c h) s = .next ((s.setEngine e { s.engine e with run := some ⟨0, 0, 0⟩ }).answer c 0 []) := by
  rw [exec_strongmanRun, execStrongmanRun, request_ok ht (by simp [hv, hk, he, ha, hin]), he]
  rfl

end

theorem exec_stuckMapRead_of_entry {x : StuckEntry} (hs : Serves s c)
    (hx : (s.die (Fin.ofNat 16 (s.accepted 0x240001 - 1))).stuck[s.accepted 0x240002]? = some x) :
    exec (.stuckMapRead c) s = .next
      ((s.acceptSetting 0x240002 ((s.accepted 0x240002 + 1) % 0x100000000)).answer c 0 x.bytes) := by
  simp only [exec_stuckMapRead, execStuckMapRead, hx]
  exact congrArg Host.Outcome.next (fetch_ok hs rfl)

end

end Sys2Proof.Machine

namespace Sys2Proof
open Sys2Proof.Machine

/-- Settles O27: one lemma a case of a command. -/
theorem maintenance : Obligations.Maintenance := by
  unfold Obligations.Maintenance
  intro s
  refine ⟨fun _ _ => exec_driftScan_of_no_scan, ?liveScan, ?waitingScan, ?worn, ?rewrite,
    fun _ => exec_periodicRecalibration_of_maintains, ?enginePart, ?arrayPart, ?misses, ?written,
    fun _ _ _ => exec_queueRecalibration_of_engine, ?recalArray,
    fun _ _ => exec_stuckMapRead_of_entry,
    fun _ _ _ => exec_strongmanRun_ok⟩
  case liveScan =>
    intro b e x k cells drift s0 s1 s2 he hk hm hlive hx hb htaken hcells hdrift hs0 hs1 hs2
    subst hk hcells hdrift hs0 hs1 hs2
    exact exec_driftScan_of_live he hm hx hb htaken hlive
  case waitingScan =>
    intro b e x c cs j s0 he hm hwait hx hb htaken hstuck hset hs0
    subst hs0
    exact exec_driftScan_of_waiting he hm hx hb htaken hwait hstuck hset
  case worn =>
    intro b e k t he hk hm herr hlive hheld ht hworn
    subst hk
    exact exec_driftRefresh_of_worn he hm herr hlive hheld ht hworn
  case rewrite =>
    intro b e k t o j r he hk ho hm herr hlive hheld ht hworn hj hr hq
    subst hk ho
    exact exec_driftRefresh_of_qualified he hm herr hlive hheld ht hworn hj hr hq
  case enginePart =>
    intro e c part g old hm hc htaken hb hslopes hold hpart hg
    subst hold hpart hg
    exact exec_calibrationComplete_of_engine hm hc htaken hslopes hb
  case arrayPart =>
    intro e c b part s1 hm hc htaken hb hslopes hpart hs1
    subst hpart hs1
    rw [exec_calibrationComplete_of_bank hm hc htaken hslopes hb]
    exact ⟨fun h => congrArg _ (State.endArray_of_recalibration h),
      fun htask hwriting j hset => congrArg _ (State.endArray_of_written htask hwriting hset)⟩
  case misses =>
    intro e g s1 ha hin hg hmiss hs1
    subst hg hs1
    exact ⟨exec_strongmanMissLimit_recalibrates ha hin hmiss, exec_strongmanMissLimit_marksOut ha hin hmiss⟩
  case written =>
    intro bank failed w j s1 s2 ha hw hset hlane hslots hlength hs1 hs2
    subst hs1 hs2
    exact exec_bankWriteComplete_of_ends failed ha hw hset (State.writeEnds_of_length hlane hslots hlength)
  case recalArray =>
    intro c h e live ht hv hk hin he hlive
    subst hlive
    exact exec_queueRecalibration_of_array ht hv hk hin he

end Sys2Proof
end

section
/-!
PROOF. O31: weight images, plan sets, containers and programme switches. Each command is one checked write (State.request):
under its conditions no check holds, so its effect takes place.
-/
namespace Sys2Proof.Machine

variable {s : State} {c : Channel}

/-- A User of an awake device with no load running passes what every image command needs (R166, R174). -/
theorem imageChecks_none (hu : s.isUser c = true) (hawake : s.awake = true) (h1 : s.weights.status ≠ 1)
    (h2 : s.weights.status ≠ 2) : (s.imageChecks c).find? (fun p => p.1) = none := by
  simp [State.imageChecks, notUser_of_isUser hu, hawake, h1, h2]

section
variable (ht : Takes s c)
include ht

/-! ### Image loads and plan sets (R166, R171 to R174) -/

section
variable {trailer : Trailer} (hu : s.isUser c = true) (hawake : s.awake = true) (h1 : s.weights.status ≠ 1)
  (h2 : s.weights.status ≠ 2)
include hu hawake h1 h2

theorem exec_loadImage_ok (image : Image) :
    exec (.loadImage c image trailer) s = .next ((s.loadImage image trailer false).answer c 0 []) :=
  congrArg Host.Outcome.next (request_ok ht (imageChecks_none hu hawake h1 h2))

theorem exec_loadImageHold_ok (image : Image) :
    exec (.loadImageHold c image trailer) s = .next ((s.loadImage image trailer true).answer c 0 []) :=
  congrArg Host.Outcome.next (request_ok ht (imageChecks_none hu hawake h1 h2))

section
variable {plans : List Plan} (htrailer : s.trailerOk 4 trailer = true)
include htrailer

/-- Plans that the checks pass are stored, and remapped programmes that no plan names are dropped (R174). -/
theorem exec_loadPlanSet_ok {r : State} (hok : s.planSetOk plans = true) (hr : r = s.reserveTargets plans) :
    exec (.loadPlanSet c plans trailer) s = .next (({ r with
      weights := { r.weights with plans := plans, plansStale := false }
      prog := { r.prog with
        remapped := r.prog.remapped.filter fun k => plans.any fun p => decide (p.programme = k.digest) } } :
          State).answer c 0 []) := by
  subst hr
  rw [exec_loadPlanSet, execLoadPlanSet, request_ok ht (imageChecks_none hu hawake h1 h2), htrailer, hok, Bool.not_true,
    if_neg Bool.false_ne_true, if_neg Bool.false_ne_true]

theorem exec_loadPlanSet_refused (hbad : s.planSetOk plans = false) :
    exec (.loadPlanSet c plans trailer) s = .next ((s.event 0x8018 deviceHandle).answer c 0 []) := by
  rw [exec_loadPlanSet, execLoadPlanSet, request_ok ht (imageChecks_none hu hawake h1 h2), htrailer, hbad, Bool.not_true,
    if_neg Bool.false_ne_true, Bool.not_false, if_pos rfl]

end

end

/-! ### Flip sets and remaps (R159, R161, R176) -/

/-- The held set is armed, tied to its container; where it belongs to the load, the load status becomes 4. -/
theorem exec_armHeldSet_of_held {container : Option (BitVec 384)} {j : Nat} {r : State} (hu : s.isUser c = true)
    (hheld : s.heldSet = some j)
    (hr : r = (s.setFlip j { s.flipSet j with container := container }).armSet j) :
    exec (.armHeldSet c container) s =
      .next ((if r.weights.loadSet = some (Fin.ofNat 4 j) then { r with weights := { r.weights with status := 4 } }
        else r).answer c 0 []) := by
  subst hr
  rw [exec_armHeldSet, execArmHeldSet, request_ok ht (by simp [notUser_of_isUser hu, hheld]), hheld]

theorem exec_cancelFlipSet_of_armed {set : Fin 4} (hu : s.isUser c = true) (harmed : (s.flipSet set.val).armed = true) :
    exec (.cancelFlipSet c set) s = .next ((s.cancelSet set.val).answer c 0 []) :=
  congrArg Host.Outcome.next (request_ok ht (by simp [notUser_of_isUser hu, harmed]))

theorem exec_selectPlan_of_plan {d : Byte} {p : Plan} (h1 : 1 ≤ d.toNat) (h16 : d.toNat ≤ 16)
    (hmanual : s.accepted 0x230007 = 1) (hlost : s.dieIn (dieOfField d) = false)
    (hidle : s.weights.remapRunning = false) (hawake : s.awake = true) (hplan : s.planFor (dieOfField d) = some p) :
    exec (.selectPlan c d) s = .next ((s.startRemap (dieOfField d) p).answer c 0 []) := by
  simp only [exec_selectPlan, execSelectPlan]
  rw [request_ok ht (by simp [dieFieldChecks_of_range h1 h16, hmanual, hlost, hidle, hawake, hplan]), hplan]

/-! ### Containers (R245, R426, R429) -/

section
variable {k : Container} {trailer : Trailer} (hu : s.isUser c = true) (hawake : s.awake = true)
include hu hawake

theorem exec_loadContainer_of_sound (hflaw : s.containerFlaw k trailer = none) :
    exec (.loadContainer c k trailer) s = .next ((s.stage k).answer c 0 []) := by
  rw [exec_loadContainer, execLoadContainer, request_ok ht (by simp [notUser_of_isUser hu, hawake]), hflaw]

/-- The first check that fails is the cause that the event carries; a bad trailer raises an event of its own as well. -/
theorem exec_loadContainer_of_flaw {ev : W16} {cause index : Nat} {s1 : State}
    (hflaw : s.containerFlaw k trailer = some (ev, cause, index))
    (h1 : s1 = if cause = 2 then s.event 0x6015 deviceHandle else s) :
    exec (.loadContainer c k trailer) s =
      .next (((({ s1 with prog := { s1.prog with status := 4 } } : State).raise ev deviceHandle
        (openParam ev cause index) 0xFFFF).history 2 1 k.digest).answer c 0 []) := by
  subst h1
  rw [exec_loadContainer, execLoadContainer, request_ok ht (by simp [notUser_of_isUser hu, hawake]), hflaw]

end

/-! ### Switches (R427 to R429) -/

/-- A programme of the live model, staged or retained, is switched to while no other switch is requested. -/
theorem switchCommand_ok {toStaged : Bool} {k : Container} (hu : s.isUser c = true)
    (hk : (if toStaged then s.prog.staged else s.prog.retained) = some k)
    (hlive : k.modelDigest = s.weights.liveDigest) (hreq : s.prog.switchReq = none) :
    s.switchCommand c toStaged = (s.requestSwitch c toStaged).answer c 0 [] := by
  simp only [State.switchCommand, hk, hlive, ne_eq, not_true_eq_false, decide_false, Bool.false_and, Bool.false_eq_true,
    if_false]
  exact request_ok ht (by simp [notUser_of_isUser hu, hreq])

end

end Sys2Proof.Machine

namespace Sys2Proof
open Sys2Proof.Machine

/-- Settles O31: one lemma a command. -/
theorem imagesAndProgrammes : Obligations.ImagesAndProgrammes := by
  unfold Obligations.ImagesAndProgrammes
  intro s
  refine ⟨fun _ image _ ht hu ha h1 h2 => exec_loadImage_ok ht hu ha h1 h2 image,
    fun _ image _ ht hu ha h1 h2 => exec_loadImageHold_ok ht hu ha h1 h2 image,
    fun _ _ _ _ ht => exec_armHeldSet_of_held ht,
    fun _ _ _ _ ht hu ha h1 h2 htrailer hok hr => exec_loadPlanSet_ok ht hu ha h1 h2 htrailer hok hr,
    fun _ _ _ ht hu ha h1 h2 => exec_loadPlanSet_refused ht hu ha h1 h2,
    fun _ _ ht => exec_cancelFlipSet_of_armed ht,
    fun _ _ _ ht => exec_selectPlan_of_plan ht,
    fun _ _ _ ht => exec_loadContainer_of_sound ht,
    fun _ _ _ _ _ _ _ ht hu ha hflaw hs1 => exec_loadContainer_of_flaw ht hu ha hflaw hs1,
    fun _ _ ht hu hk hlive hreq => congrArg Host.Outcome.next (switchCommand_ok ht hu hk hlive hreq),
    fun _ _ ht hu hk hlive hreq => congrArg Host.Outcome.next (switchCommand_ok ht hu hk hlive hreq)⟩

end Sys2Proof
end

section
/-!
PROOF. O58: the commit deadline of a frame (R203, R204, R463) and the end of the commit records of a flip set (R160).
-/
namespace Sys2Proof.Machine

variable {s : State}

/-! ### The commit deadline -/

/-- What a frame in Run needs at its deadline for its pending images to become the committed ones (R203, R463). -/
def State.commitsInTime (s : State) : Bool :=
  s.frame.started && decide (s.sec.state ≠ .zeroised) && (mget Ts.zero s.globals.ts s.commitTs.toNat).done

theorem commitsInTime_iff : s.commitsInTime = true ↔
    s.frame.started = true ∧ s.sec.state ≠ .zeroised ∧ (mget Ts.zero s.globals.ts s.commitTs.toNat).done = true := by
  simp [State.commitsInTime, and_assoc]

theorem commitsInTime_eq_false_iff : s.commitsInTime = false ↔
    s.frame.started = false ∨ s.sec.state = .zeroised ∨ (mget Ts.zero s.globals.ts s.commitTs.toNat).done = false := by
  rw [State.commitsInTime, Bool.and_eq_false_iff, Bool.and_eq_false_iff, decide_eq_false_iff_not, Decidable.not_not, or_assoc]

section
variable (hfirst : s.frame.deadlinePassed = false)
include hfirst

/-- A frame in Run commits its images, or misses with event 0x5021 (R203, R204). -/
theorem exec_commitDeadline_of_run (hrun : s.power = .run) :
    exec .commitDeadline s = .next
      (if s.commitsInTime then
        ({ s with frame := { s.frame with deadlinePassed := true } } : State).commitImages false
      else
        (({ s with frame := { s.frame with deadlinePassed := true } } : State).commitImages true).event
          0x5021 deviceHandle) := by
  rw [exec_commitDeadline, execCommitDeadline, hfirst, if_neg Bool.false_ne_true]
  exact congrArg Host.Outcome.next (if_neg (not_not_intro hrun))

/-- Outside Run the deadline passes and no image moves. -/
theorem exec_commitDeadline_of_not_run (hrun : s.power ≠ .run) :
    exec .commitDeadline s = .next { s with frame := { s.frame with deadlinePassed := true } } := by
  simp [execCommitDeadline, hfirst, hrun]

end

theorem exec_commitDeadline_of_passed (h : s.frame.deadlinePassed = true) : exec .commitDeadline s = .next s := by
  simp [execCommitDeadline, h]

/-! ### The commit records (R160) -/

section
variable {set : Fin 4} {f : FlipSet} (hset : s.flipSet set.val = f) (hcommitting : f.committing = true)
include hset hcommitting

/-- A set without an image that is not the load's: only its bindings are recorded. -/
theorem exec_commitRecordsComplete_of_no_image (himage : f.image = 0) (hload : s.weights.loadSet ≠ some set) :
    exec (.commitRecordsComplete set) s = .next
      (let s1 := (s.setFlip set.val FlipSet.none).event 0x8012 deviceHandle
       { s1 with weights := { s1.weights with lastCommitted := f.recorded s1.weights.lastCommitted } }).writeBoot := by
  simp only [exec_commitRecordsComplete, execCommitRecordsComplete, hset, hcommitting, Bool.not_true, Bool.false_eq_true,
    if_false, if_pos himage, decide_eq_false hload]

/-- The load's set with an image: the load ends with status 5, and the image is the live model. -/
theorem exec_commitRecordsComplete_of_load (himage : f.image ≠ 0) (hload : s.weights.loadSet = some set) :
    exec (.commitRecordsComplete set) s = .next
      (let s1 := (s.setFlip set.val FlipSet.none).event 0x8012 deviceHandle
       ({ s1 with weights := { s1.weights with
         status := 5, loadSet := none, liveDigest := f.image,
         lastCommitted := f.recorded s1.weights.lastCommitted } }.history 3 0 f.image).writeBoot) := by
  simp only [exec_commitRecordsComplete, execCommitRecordsComplete, hset, hcommitting, Bool.not_true, Bool.false_eq_true,
    if_false, if_neg himage, decide_eq_true hload, if_true]

end

end Sys2Proof.Machine

namespace Sys2Proof
open Sys2Proof.Machine

/-- Settles O58: each command takes the branch that its conditions name. -/
theorem commitDeadline : Obligations.CommitDeadline := by
  unfold Obligations.CommitDeadline
  intro s
  refine ⟨fun hfirst hrun hstarted hsec hdone => ?commits, fun hfirst hrun hmiss => ?misses,
    exec_commitDeadline_of_not_run, exec_commitDeadline_of_passed,
    fun _ _ => exec_commitRecordsComplete_of_no_image, fun _ _ => exec_commitRecordsComplete_of_load⟩
  case commits => rw [exec_commitDeadline_of_run hfirst hrun, if_pos (commitsInTime_iff.mpr ⟨hstarted, hsec, hdone⟩)]
  case misses =>
    rw [exec_commitDeadline_of_run hfirst hrun, commitsInTime_eq_false_iff.mpr hmiss, if_neg Bool.false_ne_true]

end Sys2Proof
end

section
/-!
PROOF. O43: the SYN field (R182, R188, R189, R283, R284, R290). Each operation is a plain field of its word, so it goes through
the laws of an issue; a wait has two outcomes, which its condition and the routine store decide.
-/
namespace Sys2Proof.Machine

variable {s : State} {t : TileId} {w : WordTag} {sc : SynScope} {n : Byte} {rel : Bool} {value : BitVec 14}

/-- An update that a tile sends is the one that the rules give for its scope. -/
theorem sendUpdate_eq_sent (op : TsOp) : s.sendUpdate t sc n op = s.sent t sc n op := by
  cases sc <;> rfl

/-- A wait that completes: the sampled turnstiles give the tile their poison (R290). -/
theorem exec_wait_of_completes (hi : Issues s t w) (hn : sc.tsOk n = true) (hphase : (s.tile t).phase = 0)
    (h : s.waitHolds t sc n value = true ∨ s.codeWait t = some (sc, n, value)) :
    exec (.wait t w sc n rel value) s = .next ((s.completeWait t sc n).endWord t w) := by
  have hgo : (s.waitHolds t sc n value || (s.tile t).wordBad w || decide (s.codeWait t = some (sc, n, value))) = true := by
    rcases h with h | h <;> simp [h]
  simp only [exec_wait, execWait, if_pos hgo]
  rw [issue_plain hi (by simp [hn, hphase])]

/-- A wait that the slot's sample did not cover and whose condition fails: its throttle group waits (R189). -/
theorem exec_wait_of_fails (hi : Issues s t w) (hn : sc.tsOk n = true) (hphase : (s.tile t).phase = 0)
    (hfails : s.waitHolds t sc n value = false) (hcode : s.codeWait t ≠ some (sc, n, value)) :
    exec (.wait t w sc n rel value) s = .next (s.enterWait t) := by
  obtain ⟨hissue, hgood⟩ := hi
  simp [execWait, hissue, hgood, hn, hphase, hfails, hcode]

end Sys2Proof.Machine

namespace Sys2Proof
open Sys2Proof.Machine

/-- Settles O43: the updates by the law of a plain issue, the waits by their two outcomes. -/
theorem turnstileWords : Obligations.TurnstileWords := by
  unfold Obligations.TurnstileWords
  refine ⟨fun s t w sc n value hi hn => ⟨?arrive, fun hvalue => ?add, ?reset, ?poison⟩,
    fun s t w sc n rel value hi hn hphase => ⟨exec_wait_of_completes hi hn hphase, exec_wait_of_fails hi hn hphase⟩⟩
  case arrive => rw [exec_arrive, execArrive, issue_plain hi hn, sendUpdate_eq_sent]
  case add => rw [exec_synAdd, execSynAdd, issue_plain hi (by rw [hn, decide_eq_true hvalue, Bool.and_self]), sendUpdate_eq_sent]
  case reset => rw [exec_reset, execReset, issue_plain hi hn, sendUpdate_eq_sent]
  case poison => rw [exec_poison, execPoison, issue_plain hi hn, sendUpdate_eq_sent]

end Sys2Proof
end

section
/-!
PROOF. O54: updates of the global turnstiles (R182, R195, R287, R288). The batch that reaches the hub is that of the oldest
cycle on its way; a batch of one add or poison is one update of its turnstile, whose change goes to each die once.
-/
namespace Sys2Proof.Machine

variable {s : State}

/-! ### A change made to each die of a list -/

/-- It changes the dies alone. -/
theorem forAll_modDie_frame (ds : List DieId) (f : Die → Die) :
    forAll ds (fun r d => r.modDie d f) s = { s with dies := (forAll ds (fun r d => r.modDie d f) s).dies } := by
  induction ds generalizing s with
  | nil => rfl
  | cons d ds ih => exact ih

theorem die_forAll_modDie_of_not_mem {ds : List DieId} (f : Die → Die) {d : DieId} (h : d ∉ ds) :
    (forAll ds (fun r c => r.modDie c f) s).die d = s.die d := by
  induction ds generalizing s with
  | nil => rfl
  | cons c ds ih =>
    have hne : d ≠ c := fun he => h (he ▸ List.mem_cons_self)
    have hds : d ∉ ds := fun hmem => h (List.mem_cons_of_mem c hmem)
    exact (ih hds).trans (State.die_modDie_other _ _ _ _ hne)

/-- A die that stands in the list once is changed once. -/
theorem die_forAll_modDie_of_nodup {ds : List DieId} (hnodup : ds.Nodup) (f : Die → Die) {d : DieId} (hd : d ∈ ds) :
    (forAll ds (fun r c => r.modDie c f) s).die d = f (s.die d) := by
  induction ds generalizing s with
  | nil => cases hd
  | cons c ds ih =>
    obtain ⟨hc, hrest⟩ := List.nodup_cons.mp hnodup
    rcases List.mem_cons.mp hd with rfl | hmem
    · exact (die_forAll_modDie_of_not_mem f hc).trans (State.die_modDie ..)
    · have hne : d ≠ c := fun h => hc (h ▸ hmem)
      exact (ih hrest hmem).trans (congrArg f (State.die_modDie_other _ _ _ _ hne))

/-- The dies that a change to each die of a list leaves. -/
theorem forAll_modDie_eq {ds : List DieId} (hnodup : ds.Nodup) (f : Die → Die) :
    ∃ m, forAll ds (fun r d => r.modDie d f) s = { s with dies := m } ∧ ∀ d ∈ ds, mget Die.init m d.val = f (s.die d) :=
  ⟨_, forAll_modDie_frame ds f, fun _ hd => die_forAll_modDie_of_nodup hnodup f hd⟩

theorem nodup_allDies : allDies.Nodup := by decide

theorem mem_allDies : ∀ d : DieId, d ∈ allDies := by decide

/-! ### The broadcast of a change (R287) -/

/-- The change as it waits at a die: it acts on the shadow 30 cc from now. -/
def Die.queueShadow (now n : Nat) (x : Ts) (y : Die) : Die := { y with shadowQ := y.shadowQ ++ [(now + 30, n, x)] }

/-- The dies are changed one after the other, and the cycle stays. -/
theorem broadcast_eq (n : Nat) (x : Ts) :
    s.broadcast n x = forAll allDies (fun r d => r.modDie d (Die.queueShadow s.now n x)) s := by
  have hfold : ∀ (ds : List DieId) (r : State), r.now = s.now →
      forAll ds (fun r d => r.modDie d (Die.queueShadow r.now n x)) r =
        forAll ds (fun r d => r.modDie d (Die.queueShadow s.now n x)) r := by
    intro ds
    induction ds with
    | nil => exact fun _ _ => rfl
    | cons d ds ih =>
      intro r hr
      simp only [forAll, List.foldl_cons, hr]
      exact ih _ hr
  exact hfold allDies s rfl

/-- Only the dies change, and each takes the change once. -/
theorem broadcast_frame (n : Nat) (x : Ts) :
    ∃ m, s.broadcast n x = { s with dies := m } ∧ ∀ d : DieId, mget Die.init m d.val = (s.die d).queueShadow s.now n x := by
  obtain ⟨m, hframe, hdies⟩ := forAll_modDie_eq (s := s) nodup_allDies (Die.queueShadow s.now n x)
  exact ⟨m, (broadcast_eq n x).trans hframe, fun d => hdies d (mem_allDies d)⟩

/-! ### Updates at the hub (R288) -/

/-- Global turnstile n becomes x. -/
def State.setGlobal (s : State) (n : Nat) (x : Ts) : State :=
  { s with globals := { s.globals with ts := mset Ts.zero s.globals.ts n x } }

/-- An update that neither saturates its turnstile nor completes it raises nothing and triggers nothing. -/
theorem globalUpdate_of_quiet {n : Byte} {op : TsOp} {poison : Bool} {old new : Ts} (hold : old = mget Ts.zero s.globals.ts n.toNat)
    (hnew : new = old.apply op poison) (hsat : old.saturates op = false) (hdone : new.done = true → old.done = true) :
    s.globalUpdate n op poison =
      if new = old then s.setGlobal n.toNat new else (s.setGlobal n.toNat new).broadcast n.toNat new := by
  have hedge : (new.done && !old.done) = false := by
    cases hd : new.done with
    | false => rfl
    | true => rw [hdone hd]; rfl
  subst hnew hold
  simp only [State.globalUpdate, hsat, hedge, Bool.false_eq_true, if_false, State.setGlobal]

def State.setArrived (s : State) (a : List (Nat × TileId)) : State := { s with globals := { s.globals with arrived := a } }

/-- A source that has sent an update of turnstile n counts once. -/
def noteArrival (n : Nat) (src : TileId) (a : List (Nat × TileId)) : List (Nat × TileId) :=
  if a.contains (n, src) then a else a ++ [(n, src)]

theorem noteArrival_eq_append (n : Nat) (u : GlobalUpdate) (a : List (Nat × TileId)) :
    a ++ ([u].filter fun v => !a.contains (n, v.src)).map (fun v => (n, v.src)) = noteArrival n u.src a := by
  cases h : a.contains (n, u.src) <;> simp [noteArrival, -List.contains_eq_mem, h]

/-- A batch of one update that is no reset: its source has arrived, and the update acts. -/
theorem applyBatch_singleton {u : GlobalUpdate} (n : Byte) (hreset : u.op.isReset = false) :
    s.applyBatch n [u] = (s.setArrived (noteArrival n.toNat u.src s.globals.arrived)).globalUpdate n u.op u.poison := by
  rw [← noteArrival_eq_append]
  obtain ⟨due, number, op, poison, src⟩ := u
  cases op with
  | reset v => cases hreset
  | add v => rfl
  | poison => rfl

/-! ### The oldest cycle -/

theorem foldl_min_due {u0 h : GlobalUpdate} {us0 : List GlobalUpdate} (hmem : h ∈ u0 :: us0)
    (hmin : ∀ u ∈ u0 :: us0, h.due ≤ u.due) : us0.foldl (fun m u => min m u.due) u0.due = h.due := by
  have hleast : ((u0 :: us0).map GlobalUpdate.due).min? = some h.due :=
    List.min?_eq_some_iff.mpr ⟨List.mem_map_of_mem hmem, List.forall_mem_map.mpr hmin⟩
  rw [List.map_cons, List.min?_cons', List.foldl_map] at hleast
  exact Option.some.inj hleast

/-- The updates on their way that arrive with h. -/
def GlobalUpdate.sameBatch (h u : GlobalUpdate) : Bool := decide (u.due = h.due) && decide (u.number = h.number)

/-- The hub stands at the cycle of an arrival, and `rest` stays on its way. -/
def State.arriveAt (s : State) (due : Nat) (rest : List GlobalUpdate) : State :=
  { s with now := max s.now due, fabric := { s.fabric with globals := rest } }

/-- The first update of the oldest cycle takes with it those of its cycle for its turnstile (R195). -/
theorem arriveGlobal_of_oldest {h : GlobalUpdate} (hfind : s.fabric.globals.find? (fun u => decide (u.due = h.due)) = some h)
    (hmin : ∀ u ∈ s.fabric.globals, h.due ≤ u.due) :
    s.arriveGlobal = (s.arriveAt h.due (s.fabric.globals.filter fun u => !h.sameBatch u)).applyBatch h.number
      (s.fabric.globals.filter h.sameBatch) := by
  have hmem := List.mem_of_find?_eq_some hfind
  unfold State.arriveGlobal
  split
  next hnone => rw [hnone] at hmem; cases hmem
  next u0 us0 hcons =>
    have hdue : us0.foldl (fun m u => min m u.due) u0.due = h.due := foldl_min_due (hcons ▸ hmem) (hcons ▸ hmin)
    simp only [hdue, hfind]
    rfl

/-- The hub as the one update on its way reaches it: its source has arrived. -/
def State.atArrivalOf (s : State) (u : GlobalUpdate) : State :=
  (s.arriveAt u.due []).setArrived (noteArrival u.number.toNat u.src s.globals.arrived)

theorem arriveGlobal_singleton {u : GlobalUpdate} (hone : s.fabric.globals = [u]) (hreset : u.op.isReset = false) :
    s.arriveGlobal = (s.atArrivalOf u).globalUpdate u.number u.op u.poison := by
  have hown : u.sameBatch u = true := by simp [GlobalUpdate.sameBatch]
  have hbatch := arriveGlobal_of_oldest (s := s) (h := u) (by simp [hone]) (by simp [hone])
  rw [hone, List.filter_cons_of_pos hown, List.filter_cons_of_neg (by simp [hown])] at hbatch
  exact hbatch.trans (applyBatch_singleton _ hreset)

/-! ### The shadow of a die (R287) -/

/-- The oldest change on its way acts on the shadow. -/
def Die.takeShadow (n : Nat) (x : Ts) (rest : List (Nat × Nat × Ts)) (y : Die) : Die :=
  { y with shadow := mset Ts.zero y.shadow n x, shadowQ := rest }

theorem exec_shadowUpdate_of_cons {d : DieId} {due n : Nat} {x : Ts} {rest : List (Nat × Nat × Ts)}
    (hq : (s.die d).shadowQ = (due, n, x) :: rest) :
    exec (.shadowUpdate d) s = .next { s.modDie d (Die.takeShadow n x rest) with now := max s.now due } := by
  rw [exec_shadowUpdate, execShadowUpdate, hq]
  rfl

end Sys2Proof.Machine

namespace Sys2Proof
open Sys2Proof.Machine

/-- Settles O54: the batch of the oldest cycle, the quiet update that a batch of one is, and the shadow of one die. -/
theorem globalUpdates : Obligations.GlobalUpdates := by
  unfold Obligations.GlobalUpdates
  intro s
  refine ⟨fun u old new hone hreset hold hnew hsat hdone => ?single, fun us mine h hus hfind hmin hmine => ?batch,
    fun d due n x rest hq => ?shadow⟩
  case single =>
    refine ⟨s.arriveGlobal, rfl, ?_⟩
    rw [arriveGlobal_singleton hone hreset, globalUpdate_of_quiet (s := s.atArrivalOf u) hold hnew hsat hdone]
    by_cases hsame : new = old
    · rw [if_pos hsame]
      exact ⟨rfl, rfl, rfl, fun _ => rfl, fun hne => absurd hsame hne⟩
    · obtain ⟨m, hframe, hdies⟩ := broadcast_frame (s := (s.atArrivalOf u).setGlobal u.number.toNat new) u.number.toNat new
      rw [if_neg hsame, hframe]
      exact ⟨rfl, rfl, rfl, fun h => absurd h hsame, fun _ => hdies⟩
  case batch =>
    subst hus hmine
    rw [exec_globalUpdateArrival, execGlobalUpdateArrival, arriveGlobal_of_oldest hfind hmin]
    rfl
  case shadow =>
    exact ⟨_, exec_shadowUpdate_of_cons hq, rfl, State.die_modDie .., fun c hc => State.die_modDie_other _ _ _ _ hc⟩

end Sys2Proof
end

section
/-!
PROOF. O55: rows of MOVEs (R183, R195, R238, R259, R262), ticket requests and grants (R256 to R258) and rows at the narrow port
(R250). A row that lands meets its ticket or not, and what follows depends on whether it is the last of its MOVE.
-/
namespace Sys2Proof.Machine

variable {s z : State} {t : TileId} {r : FabricRow}

/-! ### Writes under a ticket (R259) -/

theorem remoteWrite_of_held {writer row : Nat} {data : Row} (h : (s.tile t).boothOf row = .held writer) :
    s.remoteWrite t writer row data =
      ((s.withTile t { s.tile t with booth := mset Booth.closed (s.tile t).booth row .closed }).narrowWrite t row data, true) := by
  rw [State.remoteWrite, if_pos h]
  rfl

theorem remoteWrite_of_not_held {writer row : Nat} {data : Row} (h : (s.tile t).boothOf row ≠ .held writer) :
    s.remoteWrite t writer row data = (s.event 0x5030 (tileHandle t), false) := by
  rw [State.remoteWrite, if_neg h]

/-- Whether it is written or discarded, the dies and the fabric stay as they are. -/
theorem remoteWrite_keeps (s : State) (t : TileId) (writer row : Nat) (data : Row) :
    (s.remoteWrite t writer row data).1.dies = s.dies ∧ (s.remoteWrite t writer row data).1.fabric = s.fabric := by
  by_cases h : (s.tile t).boothOf row = .held writer
  · rw [remoteWrite_of_held h]
    exact ⟨rfl, rfl⟩
  · rw [remoteWrite_of_not_held h, event_eq_of_class_ne (by decide)]
    exact ⟨rfl, rfl⟩

/-! ### A row that lands -/

/-- The fabric after the one row on its way has left it. -/
def State.takeRow (s : State) : State := { s with fabric := { s.fabric with rows := [] } }

/-- What follows the write of a row of MOVE `key` (R238, R262): the last row forgets what went wrong with the earlier ones and
applies the done add; any other that went wrong is remembered. -/
def State.endRow (s : State) (r : FabricRow) (key : TileId × Nat) (bad poison : Bool) : State :=
  if r.last then
    { s with fabric := { s.fabric with tainted := s.fabric.tainted.filter fun k => decide (k ≠ key) } }.landDone r.src r.done
      (bad || s.fabric.tainted.contains key || poison)
  else if bad then { s with fabric := { s.fabric with tainted := s.fabric.tainted ++ [key] } } else s

section
variable {key : TileId × Nat} (hrows : s.fabric.rows = [r]) (hin : s.tileIn t = true) (hsrc : s.tileIn r.src = true)
  (hring : s.ringUp (tileDie r.src) (tileDie r.dst) = true) (hkey : key = (r.src, r.op)) (hlost : r.lost = false)
  (htrust : s.fabric.untrusted.contains key = false)
include hrows hin hsrc hring hkey hlost htrust

/-- The one row on its way, with a trusted header and a ring that is up, is a write under its sender's ticket. -/
theorem landRow_of_trusted :
    s.landRow t r =
      (s.takeRow.remoteWrite t r.src.val r.row r.data).1.endRow r key
        (!(s.takeRow.remoteWrite t r.src.val r.row r.data).2 || r.data.anyPoison) (s.tile r.src).framePoison := by
  have hdata : s.delivered r = r.data := if_pos hring
  have huntrusted : s.fabric.untrusted.filter (fun k => decide (k ≠ key)) = s.fabric.untrusted := by
    refine List.filter_eq_self.mpr fun k hk => decide_eq_true ?_
    rintro rfl
    rw [List.contains_iff_mem.mpr hk] at htrust
    cases htrust
  have hin' : s.takeRow.tileIn t = true := hin
  have hfabric : ({ s with fabric := { s.fabric with rows := s.fabric.rows.erase r, untrusted := s.fabric.untrusted } } : State)
      = s.takeRow := by rw [hrows, List.erase_cons_head]; rfl
  have hsrc' : ∀ f : Fabric,
      ({ (s.takeRow.remoteWrite t r.src.val r.row r.data).1 with fabric := f } : State).tileIn r.src = true := by
    intro f
    rw [State.tileIn, State.dieIn, State.die]
    exact (congrArg (fun m => !(mget Die.init m (tileDie r.src).val).out) (remoteWrite_keeps ..).1).trans hsrc
  simp only [State.landRow, ← hkey, hlost, htrust, hdata, huntrusted, hfabric, hin', hsrc', Bool.false_or, Bool.false_and,
    Bool.false_eq_true, if_false, if_true, State.endRow]

/-- With the ticket of its sender the row is written and its booth entry closes; the done add takes the poison of the earlier rows
and of the sender. -/
theorem landRow_of_held (hheld : (s.tile t).boothOf r.row = .held r.src.val) (hclean : r.data.anyPoison = false) :
    s.landRow t r =
      ((s.takeRow.withTile t { s.tile t with booth := mset Booth.closed (s.tile t).booth r.row .closed }).narrowWrite t r.row
        r.data).endRow r key false (s.tile r.src).framePoison := by
  have hwrite := remoteWrite_of_held (s := s.takeRow) (t := t) (data := r.data) hheld
  rw [landRow_of_trusted hrows hin hsrc hring hkey hlost htrust, hwrite, hclean]
  rfl

/-- Without it the row is discarded with event 0x5030. -/
theorem landRow_of_not_held (hheld : (s.tile t).boothOf r.row ≠ .held r.src.val) :
    s.landRow t r = (s.takeRow.event 0x5030 (tileHandle t)).endRow r key true (s.tile r.src).framePoison := by
  have hwrite := remoteWrite_of_not_held (s := s.takeRow) (t := t) (data := r.data) hheld
  rw [landRow_of_trusted hrows hin hsrc hring hkey hlost htrust, hwrite]
  rfl

end

/-- A row that was written clean: the last one hands on the poison of earlier rows and of the sender. -/
theorem endRow_of_clean (key : TileId × Nat) (poison : Bool) :
    s.endRow r key false poison =
      if r.last then
        { s with fabric := { s.fabric with tainted := s.fabric.tainted.filter fun k => decide (k ≠ key) } }.landDone r.src r.done
          (s.fabric.tainted.contains key || poison)
      else s := rfl

theorem endRow_of_bad (key : TileId × Nat) (poison : Bool) :
    s.endRow r key true poison =
      if r.last then
        { s with fabric := { s.fabric with tainted := s.fabric.tainted.filter fun k => decide (k ≠ key) } }.landDone r.src r.done
          true
      else { s with fabric := { s.fabric with tainted := s.fabric.tainted ++ [key] } } := rfl

/-! ### MOVE_ROW_LANDING (R183, R195) -/

section
variable (hrows : s.fabric.rows = [r]) (hdst : r.dst = t)
include hrows hdst

/-- An own row waits for its programme cycle, and no row from outside passes it: there is none. -/
theorem exec_moveRowLanding_of_not_due (hown : s.ownRow t r = true) (hdue : s.ownDue t r = false) :
    exec (.moveRowLanding t) s = .next s := by
  simp [execMoveRowLanding, hrows, hdst, hown, hdue, firstRow, State.outsideRow, oldestRows]

/-- An own row that is due lands; it is its own only rival. -/
theorem exec_moveRowLanding_of_due (hown : s.ownRow t r = true) (hdue : s.ownDue t r = true) :
    exec (.moveRowLanding t) s = .next (s.landRow t r) := by
  have halone : s.landOwn t r = s.landRow t r := by simp [State.landOwn, hrows]
  simp [execMoveRowLanding, hrows, hdst, hown, hdue, firstRow, halone]

/-- A row from outside lands in its cycle, and the pointer of the narrow port passes its source. -/
theorem exec_moveRowLanding_of_outside (hown : s.ownRow t r = false) :
    exec (.moveRowLanding t) s = .next
      (({ s.withTile t { s.tile t with narrowPtr := r.src.val + 1 } with now := max s.now r.arrive } : State).landRow t r) := by
  have hrow : s.outsideRow t [r] = some (r, max s.now r.arrive) := by
    have hheads : oldestRows ([r].filter fun q => !s.ownRow t q) = [r] := by
      rw [List.filter_cons_of_pos (by rw [hown, Bool.not_false])]
      rfl
    have harrived : [r].filter (fun q => decide (q.arrive ≤ max s.now r.arrive)) = [r] :=
      List.filter_cons_of_pos (decide_eq_true (Nat.le_max_right ..))
    simp only [State.outsideRow, hheads]
    exact congrArg (fun rs => (roundRobin (s.tile t).narrowPtr rs).map fun q => (q, max s.now r.arrive)) harrived
  simp only [exec_moveRowLanding, execMoveRowLanding, hrows, hdst, hown, hrow, decide_true, Bool.false_and, firstRow,
    List.filter_cons, List.filter_nil, Bool.false_eq_true, if_false, if_true, List.foldl_nil]
  rfl

end

/-- The state z in which row r lands on tile t: s, for an own row that is due; for a row from outside, s at the cycle of the
landing with the pointer past the row's source. -/
def LandsIn (s z : State) (t : TileId) (r : FabricRow) : Prop :=
  s.ownRow t r = true ∧ s.ownDue t r = true ∧ z = s ∨
    s.ownRow t r = false ∧ z = { s.withTile t { s.tile t with narrowPtr := r.src.val + 1 } with now := max s.now r.arrive }

theorem exec_moveRowLanding_of_landsIn (hrows : s.fabric.rows = [r]) (hdst : r.dst = t) (hz : LandsIn s z t r) :
    exec (.moveRowLanding t) s = .next (z.landRow t r) := by
  rcases hz with ⟨hown, hdue, rfl⟩ | ⟨hown, rfl⟩
  · exact exec_moveRowLanding_of_due hrows hdst hown hdue
  · exact exec_moveRowLanding_of_outside hrows hdst hown

/-- The dies, the fabric, the booths and the frame poison are those of s. -/
theorem LandsIn.keeps (hz : LandsIn s z t r) :
    z.dies = s.dies ∧ z.fabric = s.fabric ∧ (z.tile t).booth = (s.tile t).booth ∧
      ∀ u, (z.tile u).framePoison = (s.tile u).framePoison := by
  rcases hz with ⟨-, -, rfl⟩ | ⟨-, rfl⟩
  · exact ⟨rfl, rfl, rfl, fun _ => rfl⟩
  · have hself := State.tile_setTile s t { s.tile t with narrowPtr := r.src.val + 1 }
    have hbooth := congrArg Tile.booth hself
    have hpoison := congrArg Tile.framePoison hself
    refine ⟨rfl, rfl, hbooth, fun u => ?_⟩
    by_cases hu : u = t
    · rw [hu]
      exact hpoison
    · exact congrArg Tile.framePoison (State.tile_setTile_other _ _ _ _ hu)

/-! ### Requests and grants (R257, R258) -/

theorem exec_ticketRequestReceived_of_room {q : TicketReq}
    (hq : s.fabric.wire.find? (fun p => decide (p.1 = t)) = some (t, q)) (hin : s.tileIn t = true)
    (hworks : (s.tile t).regions.works q.first q.count = true) (hroom : (s.tile t).requests.length < 16) :
    exec (.ticketRequestReceived t) s = .next
      (({ s with fabric := { s.fabric with wire := s.fabric.wire.erase (t, q) } } : State).withTile t
        { s.tile t with requests := (s.tile t).requests ++ [q] }) := by
  rw [exec_ticketRequestReceived, execTicketRequestReceived, hq]
  exact congrArg Host.Outcome.next (if_pos ⟨hin, hworks, hroom⟩)

theorem exec_ticketRequestReceived_of_refused {q : TicketReq}
    (hq : s.fabric.wire.find? (fun p => decide (p.1 = t)) = some (t, q))
    (hbad : s.tileIn t = false ∨ (s.tile t).regions.works q.first q.count = false ∨ 16 ≤ (s.tile t).requests.length) :
    exec (.ticketRequestReceived t) s = .next
      ((({ s with fabric := { s.fabric with wire := s.fabric.wire.erase (t, q) } } : State).refusalEvents t q).endTicket q
        true) := by
  have hnot : ¬(s.tileIn t = true ∧ (s.tile t).regions.works q.first q.count = true ∧ (s.tile t).requests.length < 16) := by
    rintro ⟨hin, hworks, hroom⟩
    rcases hbad with h | h | h
    · rw [hin] at h; cases h
    · rw [hworks] at h; cases h
    · omega
  rw [exec_ticketRequestReceived, execTicketRequestReceived, hq]
  exact congrArg Host.Outcome.next (if_neg hnot)

theorem exec_ticketGrant_of_grantable {q : TicketReq} (hin : s.tileIn t = true)
    (hq : (s.tile t).requests.find? (s.tile t).grantable = some q) :
    exec (.ticketGrant t) s = .next ((s.withTile t { s.tile t with
      requests := (s.tile t).requests.erase q
      booth := setBooth (s.tile t).booth q.first q.count fun _ => .held q.holder }).endTicket q false) := by
  simp only [exec_ticketGrant, execTicketGrant, hin, Bool.not_true, Bool.false_eq_true, if_false, hq]
  rfl

/-! ### Rows at the narrow port (R250) -/

theorem mput_mput {α : Type} (m : SMap α) (a : Nat) (v w : α) : mput (mput m a v) a w = mput m a w := by
  induction m with
  | nil => simp [mput]
  | cons p m ih =>
    obtain ⟨k, x⟩ := p
    by_cases hlt : a < k
    · simp [mput, hlt]
    · by_cases heq : a = k <;> simp [mput, hlt, heq, ih]

theorem mdel_mput {α : Type} (m : SMap α) (a : Nat) (v : α) : mdel (mput m a v) a = mdel m a := by
  induction m with
  | nil => simp [mput, mdel]
  | cons p m ih =>
    obtain ⟨k, x⟩ := p
    by_cases hlt : a < k
    · simp [mput, mdel, hlt]
    · by_cases heq : a = k <;> simp [mput, mdel, hlt, heq, ih]

/-- Of two writes at one address the later one stands, where the earlier one left an entry. -/
theorem mset_mset_of_ne {α : Type} [DecidableEq α] {d v : α} (hv : v ≠ d) (m : SMap α) (a : Nat) (w : α) :
    mset d (mset d m a v) a w = mset d m a w := by
  simp only [mset, if_neg hv, mput_mput, mdel_mput]

theorem setTile_setTile_of_ne {x : Tile} (hx : x ≠ Tile.init) (y : Tile) : (s.setTile t x).setTile t y = s.setTile t y := by
  simp only [State.setTile, mset_mset_of_ne hx]

section
variable {q : NarrowRow} {qs : List NarrowRow} (hin : s.tileIn t = true) (hq : (s.tile t).narrowIn = q :: qs)
include hin hq

theorem exec_narrowRowWrite_of_no_writer (hwriter : q.writer = none) :
    exec (.narrowRowWrite t none) s = .next
      (((s.withTile t { s.tile t with narrowIn := qs, narrowPtr := t.val + 1 }).narrowWrite t q.row q.data).landHubDone q.done
        q.data.anyPoison) := by
  simp only [exec_narrowRowWrite, execNarrowRowWrite, hin, hq, hwriter, Bool.not_true, Bool.false_eq_true, if_false]
  rfl

/-- The writer holds the row: the booth entry closes with the write (R259). -/
theorem exec_narrowRowWrite_of_held {w : Nat} (hwriter : q.writer = some w) (hheld : (s.tile t).boothOf q.row = .held w) :
    exec (.narrowRowWrite t none) s = .next
      (((s.withTile t { s.tile t with
        narrowIn := qs, narrowPtr := w + 1, booth := mset Booth.closed (s.tile t).booth q.row .closed }).narrowWrite t q.row
          q.data).landHubDone q.done q.data.anyPoison) := by
  have hpassed : ({ s.tile t with narrowIn := qs, narrowPtr := w + 1 } : Tile) ≠ Tile.init := fun h =>
    Nat.succ_ne_zero w (congrArg Tile.narrowPtr h)
  have hwrite := remoteWrite_of_held (s := s.setTile t { s.tile t with narrowIn := qs, narrowPtr := w + 1 }) (t := t)
    (writer := w) (row := q.row) (data := q.data) (by rw [State.tile_setTile]; exact hheld)
  rw [State.tile_setTile, State.withTile, ← State.setTile, setTile_setTile_of_ne hpassed] at hwrite
  simp only [exec_narrowRowWrite, execNarrowRowWrite, hin, hq, hwriter, Bool.not_true, Bool.false_eq_true, if_false,
    State.modTile, Option.getD_some, hwrite, Bool.false_or]
  rfl

end

end Sys2Proof.Machine

namespace Sys2Proof
open Sys2Proof.Machine

/-- Settles O55: a row that waits, a row that meets its ticket or not, and one lemma a case of the other commands. -/
theorem ticketsAndRows : Obligations.TicketsAndRows := by
  unfold Obligations.TicketsAndRows
  refine ⟨fun s t r => exec_moveRowLanding_of_not_due, ?rows, fun s t => ⟨fun r => exec_ticketRequestReceived_of_room,
    fun r => exec_ticketRequestReceived_of_refused, fun hin => ⟨fun r => exec_ticketGrant_of_grantable hin,
      fun r rs => exec_narrowRowWrite_of_no_writer hin, fun r rs w hq => exec_narrowRowWrite_of_held hin hq⟩⟩⟩
  case rows =>
    intro s z s1 t r key hrows hdst hin hsrc hring hkey hlost htrust hz hs1
    have hlands : LandsIn s z t r := hz
    obtain ⟨hdies, hfabric, hbooth, hpoison⟩ := hlands.keeps
    have hring' : z.ringUp (tileDie r.src) (tileDie r.dst) = true := by
      simpa only [State.ringUp, State.die, hdies, hdst] using hring
    have hin' : ∀ {u : TileId}, s.tileIn u = true → z.tileIn u = true := by
      intro u hu
      simpa only [State.tileIn, State.dieIn, State.die, hdies] using hu
    have hexec := exec_moveRowLanding_of_landsIn hrows hdst hlands
    rw [← hfabric] at hrows htrust
    rw [hexec, ← hfabric, ← hpoison]
    refine ⟨fun hheld hclean => ?_, fun hfree => ?_⟩
    · rw [landRow_of_held hrows (hin' hin) (hin' hsrc) hring' hkey hlost htrust (by rwa [Tile.boothOf, hbooth]) hclean,
        endRow_of_clean, hbooth, hs1]
      rfl
    · rw [landRow_of_not_held hrows (hin' hin) (hin' hsrc) hring' hkey hlost htrust (by rwa [Tile.boothOf, hbooth]),
        endRow_of_bad, hs1]
      rfl

end Sys2Proof
end

section
/-!
PROOF. O1, O2, O5: a step takes the command at the front of the queue. O5's shape: every meaning keeps the queue (Laws/Kept*.lean);
the commands that may enter or leave Off, and those of the test port, have laws of their own there.
-/
namespace Sys2Proof.Machine

/-- Whatever command runs on a sound state, its next state has the same queue and is sound. -/
theorem exec_fine (i : Instr) {s : State} (h : s.Sound) : Fine s (exec i s) := by
  have hkept := Kept.start h
  cases i with
  | porstNAssert => exact execPorstNAssert_fine s h
  | thermalTrip channel => exact execThermalTrip_fine channel s h
  | vinUndervoltage => exact execVinUndervoltage_fine s h
  | vinApply => exact execVinApply_fine s h
  | bootSetRestore => exact (execBootSetRestore_kept s hkept).fine
  | dozeWake => exact (execDozeWake_kept s hkept).fine
  | coldStart f => exact execColdStart_fine f s h
  | extest testEn => exact execExtest_fine testEn s h
  | samplePreload testEn => exact execSamplePreload_fine testEn s h
  | clamp testEn => exact execClamp_fine testEn s h
  | highz testEn => exact execHighz_fine testEn s h
  | wsel testEn die answers => exact execWsel_fine testEn die answers s h
  | mbist testEn mask => exact execMbist_fine testEn mask s h
  | _ => exact KeptO.fine (o := decide (s.power = .off)) (by simp [hkept])

/-! ### The queue -/

theorem step_of_cons {s : State} {c : Instr} {q : List Instr} (h : s.pending = c :: q) :
    step s = exec c { s with pending := q } := by
  rw [step, h]

theorem step_of_nil {s : State} (h : s.pending = []) : step s = .next s := by
  rw [step, h]

end Sys2Proof.Machine

namespace Sys2Proof
open Sys2Proof.Machine

/-- Settles O1: a queue with c in front is a queue that is not empty. -/
theorem stepRunsFront : Obligations.StepRunsFront := by
  unfold Obligations.StepRunsFront
  intro c q s
  exact step_of_cons rfl

/-- Settles O2: nothing is taken from an empty queue. -/
theorem emptyQueueIdles : Obligations.EmptyQueueIdles := by
  unfold Obligations.EmptyQueueIdles
  exact fun s => step_of_nil

/-- Settles O5: the command runs on the rest of the queue, and its meaning keeps the queue that it finds. -/
theorem oneCommandAStep : Obligations.OneCommandAStep := by
  unfold Obligations.OneCommandAStep
  intro s t hs hstep
  cases hq : s.pending with
  | nil =>
    rw [step_of_nil hq] at hstep
    cases hstep
    exact hq
  | cons c q =>
    rw [step_of_cons hq] at hstep
    have hsound : ({ s with pending := q } : State).Sound := hs
    exact (exec_fine c hsound t hstep).1

end Sys2Proof
end

section
/-!
PROOF. O8, O9, O10, O38: the operations of the vector unit (R235, R236). Every one is a data field of its word whose result is a
vector on its way (State.landVec), so one law of an issue serves them all; the element-wise ones have it by their number of sources.
-/
namespace Sys2Proof.Machine

variable {s : State} {t : TileId} {w : WordTag} {ok : Bool} {f : VFmt} {vd va vb vc : Fin 32}

/-- A vector result as the statements write it: on its way, with one more set of free values used (R192, R213). -/
theorem landVec_eq_onItsWay (s : State) (t : TileId) (lat : Nat) (vd : Fin 32) (b n : Nat) (val : Nat → FRes) (pois : Nat → Bool) :
    s.landVec t lat vd b n val pois = s.onItsWay t lat (s.vecResult b n val pois vd) 1 := rfl

section
variable (h : Acts s t w) (hok : ok = true)
include h hok

theorem vec1_of_acts (lat : Nat) (op : Nat → FRes) :
    s.vec1 t w ok lat f vd va op = (s.onItsWay t lat (s.result1 t f vd va op) 1).endWord t w := by
  rw [State.vec1, issue_acts h hok, landVec_eq_onItsWay, State.result1]

theorem vec2_of_acts (lat : Nat) (op : Nat → Nat → FRes) :
    s.vec2 t w ok lat f vd va vb op = (s.onItsWay t lat (s.result2 t f vd va vb op) 1).endWord t w := by
  rw [State.vec2, issue_acts h hok, landVec_eq_onItsWay, State.result2]

theorem vec3_of_acts (lat : Nat) (op : Nat → Nat → Nat → FRes) :
    s.vec3 t w ok lat f vd va vb vc op = (s.onItsWay t lat (s.result3 t f vd va vb vc op) 1).endWord t w := by
  rw [State.vec3, issue_acts h hok, landVec_eq_onItsWay, State.result3]

end

theorem fmaOk_of_ne (h : f ≠ .int8) : f.fmaOk = true := decide_eq_true h

theorem fpOk_of_isInt (h : VFmt.isInt f = false) : f.fpOk = true := by rw [VFmt.fpOk, h, Bool.not_false]

end Sys2Proof.Machine

namespace Sys2Proof
open Sys2Proof.Machine

/-- Settles O8: each operation acts element by element on two sources, the select on three. -/
theorem vecArithmetic : Obligations.VecArithmetic := by
  unfold Obligations.VecArithmetic
  refine ⟨fun s t w f vd va vb h => ⟨?add, ?sub, ?mul, ?max, ?min⟩, fun s t w f vd va vb vc h => ⟨?cmpeq, ?cmplt, ?cmple, ?sel⟩⟩
  case sel => exact congrArg Host.Outcome.next (vec3_of_acts h rfl _ elemSel)
  all_goals exact congrArg Host.Outcome.next (vec2_of_acts h rfl _ _)

/-- Settles O9: the format check of an integer operation is the premise. -/
theorem vecInteger : Obligations.VecInteger := by
  unfold Obligations.VecInteger
  intro s t w f vd va vb imm h hint
  refine ⟨?wadd, ?and, ?or, ?xor, ?shl, ?shra⟩
  case shl => exact congrArg Host.Outcome.next (vec1_of_acts h hint _ (elemShl f (imm.toNat % 32)))
  case shra => exact congrArg Host.Outcome.next (vec1_of_acts h hint _ (elemShra f (imm.toNat % 32)))
  all_goals exact congrArg Host.Outcome.next (vec2_of_acts h hint _ _)

/-- Settles O10: FMA and the special functions are refused in the formats that the premises leave out. -/
theorem vecOneSource : Obligations.VecOneSource := by
  unfold Obligations.VecOneSource
  intro s t w f vd va vb vc h
  refine ⟨?abs, ?neg, fun hfma => ?fma, fun hfp => ⟨?rcp, ?rsqrt, ?exp⟩⟩
  case fma => exact congrArg Host.Outcome.next (vec3_of_acts h (fmaOk_of_ne hfma) _ (elemFma f))
  case rcp => exact congrArg Host.Outcome.next (vec1_of_acts h (fpOk_of_isInt hfp) _ (FpFmt.recip (VFmt.fp f)))
  case rsqrt => exact congrArg Host.Outcome.next (vec1_of_acts h (fpOk_of_isInt hfp) _ (FpFmt.rsqrt (VFmt.fp f)))
  case exp => exact congrArg Host.Outcome.next (vec1_of_acts h (fpOk_of_isInt hfp) _ (FpFmt.exp (VFmt.fp f)))
  case abs => exact congrArg Host.Outcome.next (vec1_of_acts h rfl _ (elemAbs f))
  case neg => exact congrArg Host.Outcome.next (vec1_of_acts h rfl _ (elemNeg f))

/-- Settles O38: each result is the vector that the statement names, by the law of an issue. -/
theorem vecConvert : Obligations.VecConvert := by
  unfold Obligations.VecConvert
  refine ⟨fun s t w f vd va vb imm part h => ⟨?rot, fun himm => ?bcast, ?pack, ?packNibbles, fun hmacw => ?macw⟩,
    fun s t w f vd va vb vc dst part entry h => ⟨fun hcvt => ?cvt, ?dq, ?dqt, ?rsum, ?rmax⟩⟩
  case rot => exact congrArg Host.Outcome.next (issue_acts h rfl)
  case bcast => exact congrArg Host.Outcome.next (issue_acts h (decide_eq_true himm))
  case pack => exact congrArg Host.Outcome.next (issue_acts h rfl)
  case packNibbles =>
    rintro src rfl
    simp only [apply_ite Prod.fst, apply_ite Prod.snd]
    exact congrArg Host.Outcome.next (issue_acts h rfl)
  case macw => exact congrArg Host.Outcome.next (issue_acts h hmacw)
  case cvt => exact congrArg Host.Outcome.next (issue_acts h hcvt)
  case dq => exact congrArg Host.Outcome.next (vec3_of_acts h rfl _ _)
  case dqt => exact congrArg Host.Outcome.next (vec3_of_acts h rfl _ _)
  case rsum => exact congrArg Host.Outcome.next (issue_acts h rfl)
  case rmax => exact congrArg Host.Outcome.next (issue_acts h rfl)

end Sys2Proof
end

section
/-!
PROOF. O39: statistics registers, flags, window scales (R101, R102, R111, R222, R236) and the quantiser (R94 to R97). Its shape: the
clear of a register is one of two changes of the tile, by whether the tile observed in that cycle; the codes of the quantiser are
a register of the statement's form; every other operation puts one result on its way.
-/
namespace Sys2Proof.Machine

variable {s : State} {t : TileId} {w : WordTag}

/-! ### The clear of a statistics register (R101) -/

/-- A clear without what its own cycle observes: register r starts anew, and its observations on their way are dropped. -/
def Tile.dropStat (x : Tile) (r : Nat) : Tile :=
  { x with stats := mset Stat.reset x.stats r (x.stat r).clear, statQ := x.statQ.filter fun q => decide (q.2.1 ≠ r) }

/-- Without an observation in its own cycle a clear is all that happens. -/
theorem clearStat_of_unobserved {x : Tile} (r : Nat)
    (h : x.lastObs = none ∨ ∃ c o rows, x.lastObs = some (c, o, rows) ∧ c ≠ x.pcyc) : x.clearStat r = x.dropStat r := by
  unfold Tile.clearStat
  split
  next hobs =>
    rcases h with h | ⟨c, o, rows, h, hc⟩
    · cases hobs.symm.trans h
    · cases hobs.symm.trans h
      exact if_neg hc
  next => rfl

/-- The observation of its own cycle counts after the clear, from the row that it found. -/
theorem clearStat_of_observed {x : Tile} {o : Observation} {rows : SMap StatRow} (r : Nat)
    (h : x.lastObs = some (x.pcyc, o, rows)) : x.clearStat r = Tile.observeIn o { x.dropStat r with
      statRows := mset StatRow.start x.statRows r (mget StatRow.start rows r) } r := by
  unfold Tile.clearStat
  split
  next hobs =>
    cases hobs.symm.trans h
    exact if_pos rfl
  next hobs => cases hobs.symm.trans h

theorem exec_stclr_of_acts (h : Acts s t w) (reg : Fin 16) :
    exec (.stclr t w reg) s =
      .next ((s.withTile t (((s.tile t).clearStat reg.val).land 1 (.statClear reg))).endWord t w) :=
  congrArg Host.Outcome.next (issue_acts h rfl)

/-! ### The quantiser (R94 to R97) -/

/-- The pattern of the INT16 element that carries a code; an element past the last code is 0. -/
def codeBits : Option (Int × Bool × Bool) → Nat
  | some c => uint 16 c.1
  | none => 0

/-- A code as the result of its element; no flag goes with it. -/
def codeRes : Option (Int × Bool × Bool) → FRes
  | some c => .clean (uint 16 c.1)
  | none => .clean 0

theorem codeRes_bits (c : Option (Int × Bool × Bool)) : (codeRes c).bits = codeBits c := by
  cases c with
  | none => rfl
  | some c => rfl

/-- The codes of the elements of a as a register: the poison of an element stays with its code (R192, R237). -/
def codesReg (s : State) (f : VFmt) (a : VReg) (codes : List (Int × Bool × Bool)) : VReg :=
  vecBuild 16 128 s.freeElem (fun k => codeRes codes[k]?) fun k => decide (k < VFmt.count f) && a.elemPoison f k

theorem codesReg_eq_ofElems (s : State) (f : VFmt) (a : VReg) (codes : List (Int × Bool × Bool)) :
    codesReg s f a codes = VReg.ofElems 16
      ((List.range 128).map fun k =>
        if decide (k < VFmt.count f) && a.elemPoison f k then Config.poisonedValue s.free k else codeBits codes[k]?)
      ((List.range 128).map fun k => decide (k < VFmt.count f) && a.elemPoison f k) := by
  simp only [codesReg, vecBuild, codeRes_bits, State.freeElem]

/-- An event that a condition raises uses no free value. -/
theorem free_ite_event (b : Bool) (code : W16) (u : Handle) (s : State) : (if b then s.event code u else s).free = s.free := by
  cases b with
  | false => rfl
  | true => exact State.raise_free ..

theorem takeFree_of_free_eq {z : State} {n : Nat} (h : z.free = n) : z.takeFree = { z with free := n + 1 } := by
  rw [State.takeFree, h]

end Sys2Proof.Machine

namespace Sys2Proof
open Sys2Proof.Machine

/-- Settles O39: the two clears, the quantiser with its one more set of free values, and the law of an issue for the rest. -/
theorem statisticsOps : Obligations.StatisticsOps := by
  unfold Obligations.StatisticsOps
  refine ⟨fun s t w vd va reg latch h => ⟨?stclr, ?strd, ?stwr, ?flrd, ?flclr, ?wscl⟩, ?qnt⟩
  case stclr =>
    rintro y rfl
    refine ⟨fun hobs => ?_, fun o rows hobs => ?_⟩
    · rw [exec_stclr_of_acts h, clearStat_of_unobserved reg.val hobs]
      rfl
    · rw [exec_stclr_of_acts h, clearStat_of_observed reg.val hobs]
      rfl
  case qnt =>
    intro s t w f vd va vb vc tag imm rs re e a q codes row obs v h hf he ha hq hcodes hrow hobs hv
    have hok : (f.fpOk && (s.format imm).isSome) = true := by
      rw [VFmt.fpOk, hf, he]
      rfl
    have hvec : codesReg s f a codes = v := (codesReg_eq_ofElems s f a codes).trans hv.symm
    clear hv
    subst hvec hobs hrow hcodes hq ha
    rw [exec_qnt, execQnt, issue_acts h hok, he]
    exact congrArg (fun z => Host.Outcome.next (State.endWord z t w))
      (takeFree_of_free_eq (free_ite_event _ _ _ _))
  all_goals exact congrArg Host.Outcome.next (issue_acts h rfl)

end Sys2Proof
end

section
/-!
PROOF. O42: the words of CTL (R217, R218, R220, R222 to R224). HINT and FEND work on the phase table (R398, R402): the end of a
phase and the choice of the next limit touch occurrences, phases and one field of the die, and nothing else.
-/
namespace Sys2Proof.Machine

variable {s : State} {t : TileId} {w : WordTag}

/-! ### The phase table -/

/-- The state with other open occurrences and another phase table. -/
def State.withPhases (s : State) (occ : SMap Occ) (phases : SMap Phase) : State :=
  { s with pwr := { s.pwr with occ := occ, phases := phases } }

theorem modTile_withPhases (s : State) (occ : SMap Occ) (phases : SMap Phase) (t : TileId) (f : Tile → Tile) :
    (s.withPhases occ phases).modTile t f = (s.modTile t f).withPhases occ phases := rfl

/-- The end of a phase folds its occurrence into the phase table (R398). -/
theorem endHint_frame (s : State) (t : TileId) : ∃ occ phases, s.endHint t = s.withPhases occ phases := by
  cases hphase : (s.tile t).hintPhase with
  | none => exact ⟨_, _, by simp only [State.endHint, hphase]; rfl⟩
  | some p =>
    by_cases hfrozen : (s.phase p.toNat).frozen = true
    · exact ⟨_, _, by simp only [State.endHint, hphase, if_pos hfrozen]; rfl⟩
    · exact ⟨_, _, by simp only [State.endHint, hphase, if_neg hfrozen]; rfl⟩

/-- A new occurrence joins the open ones (R223). -/
theorem openOcc_frame (s : State) (occ : SMap Occ) (phases : SMap Phase) (t : TileId) :
    ∃ occ', (s.withPhases occ phases).openOcc t = s.withPhases occ' phases := ⟨_, rfl⟩

/-- Limits that are written to phases change the phase table alone. -/
theorem foldl_setPhase_frame (ps : List Nat) (f : State → Nat → Phase) (s : State) :
    ∃ phases, ps.foldl (fun r p => r.setPhase p (f r p)) s = s.withPhases s.pwr.occ phases := by
  induction ps generalizing s with
  | nil => exact ⟨s.pwr.phases, rfl⟩
  | cons p ps ih =>
    obtain ⟨phases, h⟩ := ih (s.setPhase p (f s p))
    exact ⟨phases, h⟩

/-- The limits of the active phases give the die its next feed-forward limit (R402). -/
theorem applyFt_frame (s : State) (occ : SMap Occ) (phases : SMap Phase) (d : DieId) : ∃ n phases',
    (s.withPhases occ phases).applyFt d = (s.withPhases occ phases').setDie d { s.die d with nextFt := some n } := by
  obtain ⟨phases', h⟩ := foldl_setPhase_frame ((s.withPhases occ phases).activePhases d)
    (fun r p => { r.phase p with limit := r.limitFor d p }) (s.withPhases occ phases)
  refine ⟨(((s.withPhases occ phases).activePhases d).map ((s.withPhases occ phases).limitFor d)).foldl min 16, phases', ?_⟩
  have hstate : s.withPhases occ phases' = (s.withPhases occ phases).withPhases occ phases' := rfl
  have hdie : s.die d = ((s.withPhases occ phases).withPhases occ phases').die d := rfl
  rw [hdie, hstate]
  exact congrArg (fun r : State => r.modDie d fun x => { x with nextFt := _ }) h

/-- Tile t becomes x, its die takes a next feed-forward limit, and occurrences and phases change. -/
def State.atHint (s : State) (t : TileId) (x : Tile) (n : Nat) (occ : SMap Occ) (phases : SMap Phase) : State :=
  { s with
    tiles := mset Tile.init s.tiles t.val x
    dies := mset Die.init s.dies (tileDie t).val { s.die (tileDie t) with nextFt := some n }
    pwr := { s.pwr with occ := occ, phases := phases } }

/-- The end of a phase, a change of the tile, and a new occurrence (R223). -/
theorem startHint_frame (s : State) (t : TileId) (f : Tile → Tile) : ∃ n occ phases,
    (((s.endHint t).modTile t f).openOcc t).applyFt (tileDie t) = s.atHint t (f (s.tile t)) n occ phases := by
  obtain ⟨occ, phases, hend⟩ := endHint_frame s t
  obtain ⟨occ', hopen⟩ := openOcc_frame (s.modTile t f) occ phases t
  obtain ⟨n, phases', hft⟩ := applyFt_frame (s.modTile t f) occ' phases (tileDie t)
  refine ⟨n, occ', phases', ?_⟩
  rw [hend, modTile_withPhases, hopen, hft, State.modTile_die]
  rfl

/-- The end of a phase, the arrival at the frame turnstile, and a change of the tile (R224, R292). -/
theorem endFrame_frame (s : State) (t : TileId) (poison : Bool) (f : Tile → Tile) : ∃ n occ phases,
    (((s.endHint t).fendArrival t poison).modTile t f).applyFt (tileDie t) =
      ({ s with fabric := { s.fabric with globals := s.fabric.globals ++
        [⟨s.tileNow t + 30, s.frameTs, .add 1, poison, t⟩] } } : State).atHint t (f (s.tile t)) n occ phases := by
  obtain ⟨occ, phases, hend⟩ := endHint_frame s t
  obtain ⟨n, phases', hft⟩ := applyFt_frame ((s.fendArrival t poison).modTile t f) occ phases (tileDie t)
  have harrival : (s.withPhases occ phases).fendArrival t poison = (s.fendArrival t poison).withPhases occ phases := rfl
  refine ⟨n, occ, phases', ?_⟩
  rw [hend, harrival, modTile_withPhases, hft, State.modTile_die]
  rfl

end Sys2Proof.Machine

namespace Sys2Proof
open Sys2Proof.Machine

/-- Settles O42: LOOP, VAR, PEND, WIN and NOP by the law of their issue, HINT and FEND by the frame of their effect. -/
theorem sequencerWords : Obligations.SequencerWords := by
  unfold Obligations.SequencerWords
  refine ⟨fun s t w h => ⟨fun last trips htrips hloops => ?loop, fun group a ha => ?var, ?pend, fun latch reg r hr => ?win,
      fun hnop => ?nop⟩, fun s t w h => ⟨fun phase => ?hint, ?fend⟩⟩
  case loop =>
    exact congrArg Host.Outcome.next (issue_flow h (by rw [decide_eq_true htrips, decide_eq_true hloops, Bool.and_self]))
  case var =>
    rw [exec_var, execVar, issue_flow h rfl, ha]
    rfl
  case pend => exact congrArg Host.Outcome.next (issue_flow h rfl)
  case win =>
    subst hr
    exact congrArg Host.Outcome.next (issue_plain h rfl)
  case nop => exact congrArg Host.Outcome.next (issue_plain hnop rfl)
  case hint =>
    obtain ⟨n, occ, phases, heffect⟩ := startHint_frame s t fun x =>
      { x with hintPhase := some phase, hintStart := x.pcyc }
    exact ⟨_, n, congrArg Host.Outcome.next (issue_plain h rfl), by rw [heffect]; rfl⟩
  case fend =>
    obtain ⟨n, occ, phases, heffect⟩ := endFrame_frame s t (s.tile t).framePoison fun x =>
      { x with ending := true, hintPhase := none }
    exact ⟨_, n, congrArg Host.Outcome.next (issue_flow h rfl), by rw [heffect]; rfl⟩

end Sys2Proof
end

section
/-!
PROOF. O47: the MEM field (R191, R192, R231 to R233, R251, R252).
-/
namespace Sys2Proof.Machine

variable {s : State} {t : TileId} {w : WordTag}

/-- The row as ECC delivers it: words that cannot be corrected are poisoned (R192). -/
theorem readRow_snd (s : State) (t : TileId) (n : Nat) (upset : BitVec 32) :
    (s.readRow t n upset).2 = { (s.tile t).row n with poison := ((s.tile t).row n).poison ||| upset } := by
  by_cases h : upset = 0
  · simp [State.readRow, h]
  · rw [State.readRow, if_neg h]

/-- Words that cannot be corrected stay bad, and raise 0x3010 (R191, R192). -/
theorem readRow_fst (s : State) (t : TileId) (n : Nat) (upset : BitVec 32) :
    (s.readRow t n upset).1 = if upset = 0 then s else
      (s.withTile t ((s.tile t).setRow n { (s.tile t).row n with poison := ((s.tile t).row n).poison ||| upset })).event 0x3010
        (tileHandle t) := by
  by_cases h : upset = 0
  · rw [State.readRow, if_pos h, if_pos h]
  · rw [State.readRow, if_neg h, if_neg h]
    rfl

/-- A wide read: the row with its poison, on the state that the read leaves (R251). -/
theorem wideRead_eq {n : Nat} {upset : BitVec 32} {r : Row} {s1 : State}
    (hr : r = { (s.tile t).row n with poison := ((s.tile t).row n).poison ||| upset })
    (h1 : s1 = (if upset = 0 then s else (s.withTile t ((s.tile t).setRow n r)).event 0x3010 (tileHandle t)).usesWide t n) :
    s.wideRead t n upset = (s1, r) := by
  subst hr
  rw [h1, State.wideRead, readRow_snd, readRow_fst]
  rfl

end Sys2Proof.Machine

namespace Sys2Proof
open Sys2Proof.Machine

/-- Settles O47: RD and FEED through the wide read, the others by the law of an issue. -/
theorem memWords : Obligations.MemWords := by
  unfold Obligations.MemWords
  refine ⟨fun s t w row str v upset n h hfree hn => ⟨fun tag fmt rs re => ?wr, fun tag fmt rs re x hx => ?wrStat,
      fun r s1 hr h1 => ⟨?rd, fun emask part fidx e he hok => ?feed⟩⟩,
    fun s t w row dst count str v n h hfree hn hrows => ⟨?fill, fun hdst upset => ?copy⟩⟩ <;> subst hn
  case wr => exact congrArg Host.Outcome.next (issue_acts h hfree)
  case wrStat =>
    subst hx
    exact congrArg Host.Outcome.next (issue_acts h hfree)
  case rd =>
    rw [exec_rd, execRd, issue_acts h hfree, wideRead_eq hr h1]
    rfl
  case feed =>
    rw [exec_feed, execFeed, issue_acts h (by rw [hfree, he, hok, Bool.and_self]), he]
    simp only [wideRead_eq hr h1]
    rfl
  case fill => exact congrArg Host.Outcome.next (issue_acts h (by rw [hfree, decide_eq_true hrows, Bool.and_self]))
  case copy =>
    exact congrArg Host.Outcome.next
      (issue_acts h (by rw [hfree, decide_eq_true hrows, decide_eq_true hdst, Bool.and_self, Bool.and_self]))

end Sys2Proof
end

section
/-!
PROOF. O48: the ENG field (R70, R225, R226, R228, R229).
-/
namespace Sys2Proof
open Sys2Proof.Machine

/-- Settles O48: each fold over the mask is the statement's own; a beat of ADD is one result on its way, to a row or a register. -/
theorem engWords : Obligations.EngWords := by
  unfold Obligations.EngWords
  intro s t w emask str h
  refine ⟨fun block pw m clr bipolar bad hok hphase => ?eval, ?clear,
    fun rows addr a sums beat sat ha hok hsums hbeat hsat => ?add⟩
  case eval => exact congrArg Host.Outcome.next (issue_acts h (by rw [hok, decide_eq_true hphase, Bool.and_self]))
  case clear => exact congrArg Host.Outcome.next (issue_acts h rfl)
  case add =>
    obtain rfl := funext hbeat
    obtain rfl := funext hsat
    subst ha hsums
    rw [exec_engAdd, execEngAdd, issue_acts h hok]
    refine congrArg (fun z => Host.Outcome.next (State.endWord z t w)) ?_
    simp only [List.isEmpty_iff]
    cases rows <;> rfl

end Sys2Proof
end

section
/-!
PROOF. O49: the landing of a result (R101, R111, R185, R213, R226, R231, R236).
-/
namespace Sys2Proof.Machine

variable {s : State} {t : TileId}

section
variable {l : Landing} {ls : List Landing} (hl : (s.tile t).landings = l :: ls)
include hl

theorem exec_resultLanding_of_due (hawake : s.awake = true) (hfrozen : s.frozen t = false) (hdue : l.due ≤ (s.tile t).pcyc) :
    exec (.resultLanding t) s = .next ((s.setTile t { s.tile t with landings := ls }).landEffect t l.what) := by
  simp only [exec_resultLanding, execResultLanding, hl, hdue, hawake, hfrozen, Bool.not_false, and_self, if_true]

theorem exec_resultLanding_of_not_due (hdue : (s.tile t).pcyc < l.due) : exec (.resultLanding t) s = .next s := by
  simp only [exec_resultLanding, execResultLanding, hl, Nat.not_le.mpr hdue, false_and, if_false]

end

/-- A result that changes its tile changes that tile alone, after it has left the list. -/
theorem tileOnly_of_exec {i : Instr} {x : Tile} {f : Tile → Tile} (hexec : exec i s = .next ((s.setTile t x).modTile t f)) :
    ∃ u : State, exec i s = .next u ∧ TileOnly s u t (f x) := by
  refine ⟨_, hexec, ?_, fun v hv => ?_, rfl⟩
  · rw [State.tile_modTile, State.tile_setTile]
  · rw [State.tile_modTile_other _ _ _ _ hv, State.tile_setTile_other _ _ _ _ hv]

end Sys2Proof.Machine

namespace Sys2Proof
open Sys2Proof.Machine

/-- Settles O49: every result but that of a stage is a change of its tile. -/
theorem resultLanding : Obligations.ResultLanding := by
  unfold Obligations.ResultLanding
  intro s t l ls x hawake hfrozen hl hx
  refine ⟨fun hdue => ?_, exec_resultLanding_of_not_due hl⟩
  have hexec := exec_resultLanding_of_due hl hawake hfrozen hdue
  rw [← hx] at hexec
  refine ⟨fun r v f hw => ?vreg, fun n r f taint hw => ?row, fun hw => ?flagClear, fun r hw => ?statClear,
    fun r ctl clip bad f hw hf => ?statWrite, fun e st hw => ?stage⟩ <;>
    rw [hw, State.landEffect] at hexec
  case row =>
    have htaint : (s.tile t).taint r = x.taint r := by rw [hx]; rfl
    rw [htaint]
    exact tileOnly_of_exec hexec
  case statWrite =>
    subst hf
    exact tileOnly_of_exec hexec
  case stage => exact hexec
  all_goals exact tileOnly_of_exec hexec

end Sys2Proof
end

section
/-!
PROOF. O44, O45, O46: the words of MOV (R238, R256, R262, R263, R266, R267). Each issues as a data field with its descriptor: a
descriptor of the word's kind starts the movement, any other is refused.
-/
namespace Sys2Proof.Machine

variable {s : State} {t : TileId} {w : WordTag} {n : BitVec 12} {d : MoveDesc} {k : XKind} {u : TileId} {row : Nat}

theorem withDesc_of_kind (hd : s.desc n = some d) (hk : d.kind = k) (f : MoveDesc → State → State) :
    s.withDesc t n k f = f d s := by
  simp only [State.withDesc, hd, hk, if_true]

theorem withDesc_of_other_kind (hd : s.desc n = some d) (hk : d.kind ≠ k) (f : MoveDesc → State → State) :
    s.withDesc t n k f = s.refuseTransfer t (s.doneTo t d) := by
  simp only [State.withDesc, hd, hk, if_false]

/-- A word of MOV that acts on a descriptor of its kind. -/
theorem issue_withDesc_of_kind (h : Acts s t w) (hd : s.desc n = some d) (hk : d.kind = k) (f : MoveDesc → State → State) :
    s.issue t w .data true (fun r => r.withDesc t n k f) = (f d s).endWord t w := by
  rw [issue_acts h rfl, withDesc_of_kind hd hk]

/-- A word of MOV that acts on a descriptor of another kind (R267). -/
theorem issue_withDesc_of_other_kind {r : State} (h : Acts s t w) (hd : s.desc n = some d)
    (hr : r = s.refuseTransfer t (s.doneTo t d)) (hk : d.kind ≠ k) (f : MoveDesc → State → State) :
    s.issue t w .data true (fun r => r.withDesc t n k f) = r.endWord t w := by
  rw [issue_acts h rfl, withDesc_of_other_kind hd hk, hr]

/-! ### LOAD, STORE, HLOAD and HSTORE -/

theorem startTransfer_of_room (hroom : (s.tile t).transfers.length < 16)
    (hext : s.extentOk d.kind (s.remoteOf t d) d.count d.compress = true) :
    s.startTransfer t row d = s.withTransfer t (s.newTransfer t row d) := by
  have hgo : ¬(16 ≤ (s.tile t).transfers.length ∨ (!s.extentOk d.kind (s.remoteOf t d) d.count d.compress) = true) := by
    rw [hext]
    simpa using hroom
  exact if_neg hgo

theorem startTransfer_of_refused (hbad : 16 ≤ (s.tile t).transfers.length ∨
    s.extentOk d.kind (s.remoteOf t d) d.count d.compress = false) :
    s.startTransfer t row d = s.refuseTransfer t (s.doneTo t d) :=
  if_pos (hbad.imp_right fun hext => by rw [hext, Bool.not_false])

section
variable (h : Acts s t w) (hd : s.desc n = some d) {row : BitVec 13} {str : BitVec 6}
include h hd

/-- A transfer word of kind k that acts on a descriptor of its kind. -/
theorem issue_startTransfer_of_room (hroom : (s.tile t).transfers.length < 16) (hk : d.kind = k)
    (hext : s.extentOk d.kind (s.remoteOf t d) d.count d.compress = true) :
    s.issue t w .data true (fun r => r.withDesc t n k fun d r => r.startTransfer t (r.operand t 8192 row.toNat str) d) =
      (s.withTransfer t (s.newTransfer t (s.operand t 8192 row.toNat str) d)).endWord t w := by
  rw [issue_withDesc_of_kind h hd hk, startTransfer_of_room hroom hext]

theorem issue_startTransfer_of_refused {r : State} (hr : r = s.refuseTransfer t (s.doneTo t d))
    (hbad : 16 ≤ (s.tile t).transfers.length ∨ s.extentOk d.kind (s.remoteOf t d) d.count d.compress = false)
    (hk : d.kind = k) :
    s.issue t w .data true (fun r => r.withDesc t n k fun d r => r.startTransfer t (r.operand t 8192 row.toNat str) d) =
      r.endWord t w := by
  rw [issue_withDesc_of_kind h hd hk, startTransfer_of_refused hbad, hr]

end

/-! ### TICKET -/

/-- A ticket of its own tile opens rows at once. -/
theorem startTicket_of_own (hu : Handle.tile? d.target = some t) :
    s.startTicket t d = (s.withTile t { s.tile t with
      booth := setBooth (s.tile t).booth (s.remoteOf t d) d.count openRow }).applyDone t (s.doneTo t d)
        (s.tile t).framePoison := by
  simp only [State.startTicket, hu, if_true]
  rfl

/-- A ticket for another tile is a request on the wire and a transfer that stays outstanding. -/
theorem startTicket_of_other (hu : Handle.tile? d.target = some u) (hne : u ≠ t)
    (hroom : (s.tile t).transfers.length < 16) :
    s.startTicket t d = { s with
      tiles := mset Tile.init s.tiles t.val { s.tile t with transfers := (s.tile t).transfers ++
        [{ s.newTransfer t (s.remoteOf t d) d with kind := .ticket, compress := false }] }
      fabric := { s.fabric with
        nextTag := s.fabric.nextTag + 1
        wire := s.fabric.wire ++
          [(u, (⟨t.val, s.remoteOf t d, d.count, s.doneTo t d, none, some (t, s.fabric.nextTag)⟩ : TicketReq))] } } := by
  simp only [State.startTicket, hu, if_neg hne, if_neg (Nat.not_le.mpr hroom)]
  rfl

end Sys2Proof.Machine

namespace Sys2Proof
open Sys2Proof.Machine

/-- Settles O44: the descriptor names a tile, and the statement writes out the move that starts to it. -/
theorem moveWord : Obligations.MoveWord := by
  unfold Obligations.MoveWord
  intro s t w n row str upset d u os h hd hk hu hos
  subst hos
  rw [exec_move, execMove, issue_withDesc_of_kind h hd hk, State.startMove, hu]
  rfl

/-- Settles O45: the four words are one word by their kind; a descriptor of another kind is refused before anything else. -/
theorem transferWords : Obligations.TransferWords := by
  unfold Obligations.TransferWords
  refine ⟨fun s t w n row str h hroom => ⟨fun d hd hk hext => ?load, fun d hd hk hext => ?store, fun d hd hk hext => ?hload,
      fun d hd hk hext => ?hstore⟩,
    fun s t w n row str d r h hd hr => ⟨fun hbad => ⟨fun hk => ?fullLoad, fun hk => ?fullStore, fun hk => ?fullHload,
        fun hk => ?fullHstore⟩,
      fun hk upset => ?noMove, fun hk => ?noLoad, fun hk => ?noStore, fun hk => ?noHload, fun hk => ?noHstore,
      fun hk => ?noTicket⟩⟩
  case load | store | hload | hstore => exact congrArg Host.Outcome.next (issue_startTransfer_of_room h hd hroom hk hext)
  case fullLoad | fullStore | fullHload | fullHstore =>
    exact congrArg Host.Outcome.next (issue_startTransfer_of_refused h hd hr hbad hk)
  case noMove | noLoad | noStore | noHload | noHstore | noTicket =>
    exact congrArg Host.Outcome.next (issue_withDesc_of_other_kind h hd hr hk _)

/-- Settles O46: a ticket of the own tile acts at once, one for another tile is a request. -/
theorem ticketWord : Obligations.TicketWord := by
  unfold Obligations.TicketWord
  intro s t w n row str d u h hd hk hu
  rw [exec_ticket, execTicket, issue_withDesc_of_kind h hd hk]
  refine ⟨fun hown => ?own, fun hne hroom => ?other⟩
  case own =>
    subst hown
    rw [startTicket_of_own hu]
  case other => rw [startTicket_of_other hu hne hroom]

end Sys2Proof
end

section
/-!
PROOF. O56: a transfer completes (R193, R250, R266, R268, R286, R297). What it moves goes first, then it leaves its tile's list, and
its done add carries the poison that it and its tile have gathered.
-/
namespace Sys2Proof.Machine

variable {s : State} {t : TileId} {k : Nat} {tr : Transfer}

/-- Without a corrected word nothing is counted. -/
theorem fixedTransfer_nil (s : State) (t : TileId) (tr : Transfer) : s.fixedTransfer t tr [] = s := by
  unfold State.fixedTransfer
  split <;> rfl

theorem storePoison_of_load (hk : tr.kind = .load ∨ tr.kind = .hload) : s.storePoison t tr = false := by
  rcases hk with hk | hk <;> simp [State.storePoison, hk]

theorem storePoison_of_store (hk : tr.kind = .store ∨ tr.kind = .hstore) :
    s.storePoison t tr = (!tr.beats.isEmpty || (s.sourceRows t tr).any Row.anyPoison) := by
  rcases hk with hk | hk <;> simp [State.storePoison, hk]

/-- The transfer with a tag leaves the list of its tile. -/
def State.dropTransfer (s : State) (t : TileId) (tag : Nat) : State :=
  s.withTile t { s.tile t with transfers := (s.tile t).transfers.filter fun y => decide (y.tag ≠ tag) }

/-- A row that the transfer with a tag has moved was poisoned. -/
def State.movedPoison (s : State) (t : TileId) (tag : Nat) : Bool :=
  ((s.tile t).transfers.filter fun y => decide (y.tag = tag)).any fun y => y.poison

section
variable (htr : (s.tile t).transfers[k]? = some tr)
include htr

/-- A LOAD or HLOAD lands what has not landed; its done add follows the last row by one cycle (R286). -/
theorem exec_transferDone_of_load (hin : s.tileIn t = true) (hk : tr.kind = .load ∨ tr.kind = .hload) {s1 : State}
    (h1 : s1 = s.landRest t tr.tag tr.count) :
    exec (.transferDone t k [] []) s = .next
      ((s1.dropTransfer t tr.tag).landDone t tr.done (s1.movedPoison t tr.tag || (s1.tile t).framePoison)) := by
  have hticket : tr.kind ≠ .ticket := by rcases hk with hk | hk <;> simp [hk]
  simp only [exec_transferDone, execTransferDone, htr, hticket, hin, hk, List.isEmpty_nil, fixedTransfer_nil,
    storePoison_of_load hk, decide_true, decide_false, Bool.not_true, Bool.or_false, Bool.false_eq_true, if_true, if_false, ← h1]
  rfl

/-- A STORE or HSTORE writes its rows to memory and applies its done add now. -/
theorem exec_transferDone_of_store (hin : s.tileIn t = true) (hk : tr.kind = .store ∨ tr.kind = .hstore) {s1 : State}
    (h1 : s1 = s.storeRows t tr) :
    exec (.transferDone t k [] []) s = .next
      ((s1.dropTransfer t tr.tag).applyDone t tr.done
        (s1.movedPoison t tr.tag || (!tr.beats.isEmpty || (s.sourceRows t tr).any Row.anyPoison) ||
          (s1.tile t).framePoison)) := by
  have hticket : tr.kind ≠ .ticket := by rcases hk with hk | hk <;> simp [hk]
  have hlands : ¬(tr.kind = .load ∨ tr.kind = .hload) := by rcases hk with hk | hk <;> simp [hk]
  simp only [exec_transferDone, execTransferDone, htr, hticket, hin, hlands, List.isEmpty_nil, fixedTransfer_nil,
    storePoison_of_store hk, decide_false, Bool.not_true, Bool.or_false, Bool.false_eq_true, if_true, if_false, ← h1]
  rfl

/-- A ticket ends through its grant, and a tile of a lost die makes no update (R297). -/
theorem exec_transferDone_of_idle (h : tr.kind = .ticket ∨ s.tileIn t = false) (upset fixed : List Nat) :
    exec (.transferDone t k upset fixed) s = .next s := by
  have hidle : (decide (tr.kind = .ticket) || !s.tileIn t) = true := by
    rcases h with h | h <;> simp [h]
  simp only [exec_transferDone, execTransferDone, htr, hidle, if_true]

theorem exec_narrowRowWrite_of_transfer (hin : s.tileIn t = true) :
    exec (.narrowRowWrite t (some k)) s = .next
      ((s.withTile t { s.tile t with narrowPtr := t.val + 1 }).landTransferRow t tr.tag) := by
  simp only [exec_narrowRowWrite, execNarrowRowWrite, hin, htr, Bool.not_true, Bool.false_eq_true, if_false]
  rfl

end

theorem exec_narrowRowWrite_of_lost (hout : s.tileIn t = false) (transfer : Option Nat) :
    exec (.narrowRowWrite t transfer) s = .next s := by
  simp only [exec_narrowRowWrite, execNarrowRowWrite, hout, Bool.not_false, if_true]

end Sys2Proof.Machine

namespace Sys2Proof
open Sys2Proof.Machine

/-- Settles O56: a lemma a kind of transfer, and the next row of one at the narrow port. -/
theorem transferDone : Obligations.TransferDone := by
  unfold Obligations.TransferDone
  intro s t k tr htr
  refine ⟨fun hin hk s1 h1 => exec_transferDone_of_load htr hin hk h1, fun hin hk s1 h1 => ?store,
    exec_transferDone_of_idle htr, exec_narrowRowWrite_of_transfer htr, fun hout => exec_narrowRowWrite_of_lost hout _⟩
  case store =>
    rw [exec_transferDone_of_store htr hin hk h1, ← Bool.or_assoc]
    rfl

end Sys2Proof
end

section
/-!
PROOF. O59: flits, retrains and losses of the Goine modules (R265, R440, R545, R548, R573).
-/
namespace Sys2Proof.Machine

variable {s : State} {d : DieId} {m : Fin 4} {toHub : Bool} {flit : BitVec 320} {bs : List Nat}

section
variable (hawake : s.awake = true) (hin : s.dieIn d = true)
include hawake hin

/-- A late class S flit is not sent: what it carries arrives poisoned (R265). -/
theorem exec_goineFlitDelivery_of_late (hcls : (Flit.parse flit.toNat).cls = 2) :
    exec (.goineFlitDelivery d m toHub true flit) s = .next
      ((s.raise 0x4011 (dieHandle d) 0 (BitVec.ofNat 16 m)).deliverPoison d toHub (Flit.parse flit.toNat) 15) := by
  simp only [exec_goineFlitDelivery, execGoineFlitDelivery, hawake, hin, hcls, Bool.not_true, Bool.or_self,
    Bool.false_eq_true, if_false, if_true]

section
variable (hup : s.moduleUp d m.val = true)
include hup

/-- A flit that the code delivers: the bytes of the code word, with the poison marks that they carry (R545). -/
theorem exec_goineFlitDelivery_of_code {corrected : Bool}
    (hcode : rsCorrect (unpackNat 8 flit.toNat 40) = some (bs, corrected)) :
    exec (.goineFlitDelivery d m toHub false flit) s = .next
      ((if corrected then s.modDie d fun x => { x with
          fecCorrected := BitVec.ofNat 32 (min 0xFFFFFFFF (x.fecCorrected.toNat + 1)) } else s).deliverPoison d toHub
        (Flit.parse (packNat 8 bs)) (Flit.parse (packNat 8 bs)).pois) := by
  simp only [exec_goineFlitDelivery, execGoineFlitDelivery, hawake, hin, hup, hcode, Bool.not_true, Bool.or_self,
    Bool.false_eq_true, if_false]

/-- A flit that the code cannot correct arrives as it is, with all its words poisoned (R545). -/
theorem exec_goineFlitDelivery_of_bad (hcode : rsCorrect (unpackNat 8 flit.toNat 40) = none) :
    exec (.goineFlitDelivery d m toHub false flit) s = .next
      (((s.modDie d fun x => { x with fecBad := x.fecBad + 1 }).raise 0x4010 (dieHandle d) 0
        (BitVec.ofNat 16 m)).deliverPoison d toHub (Flit.parse flit.toNat) 15) := by
  simp only [exec_goineFlitDelivery, execGoineFlitDelivery, hawake, hin, hup, hcode, Bool.not_true, Bool.or_self,
    Bool.false_eq_true, if_false]

theorem exec_goineRetrain_of_rejoin (hversion : (s.die d).goineVersion = some 0x0102) :
    exec (.goineRetrain d m true) s = .next
      ((s.dropLink d m.val).modDie d fun x => { x with rejoin := x.rejoin ++ [m.val] }) := by
  simp only [exec_goineRetrain, execGoineRetrain, hawake, hin, hup, hversion, Bool.not_true, Bool.true_or, Bool.or_self,
    Bool.false_eq_true, if_false, and_self, if_true]

/-- Before Goine 1.2, or when the retrain fails, the module is lost (R548). -/
theorem exec_goineRetrain_of_lost {ok : Bool} (hlost : ok = false ∨ (s.die d).goineVersion ≠ some 0x0102) :
    exec (.goineRetrain d m ok) s = .next (s.loseModule d m.val) := by
  have hnot : ¬(ok = true ∧ (s.die d).goineVersion = some 0x0102) := by
    rintro ⟨hok, hversion⟩
    rcases hlost with h | h
    · rw [h] at hok; cases hok
    · exact h hversion
  simp only [exec_goineRetrain, execGoineRetrain, hawake, hin, hup, hnot, Bool.not_true, Bool.true_or, Bool.or_self,
    Bool.false_eq_true, if_false]

theorem exec_goineModuleLoss_of_up (hloop : s.test.looping = false) :
    exec (.goineModuleLoss d m) s = .next (s.loseModule d m.val) := by
  have hend : s.endHubLoop d m.val = s := by simp [State.endHubLoop, hloop]
  simp only [exec_goineModuleLoss, execGoineModuleLoss, hawake, hin, hup, hend, Bool.not_true, Bool.or_self,
    Bool.false_eq_true, if_false]

end

end

end Sys2Proof.Machine

namespace Sys2Proof
open Sys2Proof.Machine

/-- Settles O59: a flit by what its code says, a module by whether its link retrains; a module that is lost is lost in one way. -/
theorem goine : Obligations.Goine := by
  unfold Obligations.Goine
  intro s
  exact ⟨fun d m toHub flit bs hawake hin hup hcode => exec_goineFlitDelivery_of_code hawake hin hup hcode,
    fun d m toHub flit bs hawake hin hup hcode => exec_goineFlitDelivery_of_code hawake hin hup hcode,
    fun d m toHub flit hawake hin hup hcode => exec_goineFlitDelivery_of_bad hawake hin hup hcode,
    fun d m toHub flit hawake hin hcls => exec_goineFlitDelivery_of_late hawake hin hcls,
    fun d m hawake hin hup hversion => exec_goineRetrain_of_rejoin hawake hin hup hversion,
    fun d m ok hawake hin hup hlost => exec_goineRetrain_of_lost hawake hin hup hlost,
    fun d m hawake hin hup hloop => exec_goineModuleLoss_of_up hawake hin hup hloop⟩

end Sys2Proof
end

section
/-!
PROOF. O60: the key-value ring, input blocks and outputs (R259, R276 to R278, R479 to R481).
-/
namespace Sys2Proof.Machine

variable {s : State}

theorem exec_kvSpill_of_due (hawake : s.awake = true) (hdue : s.kv.spillDue = true) :
    exec .kvSpill s = .next { s with
      lpddr := s.lpddr.writeParts (s.gatherEntries.flatMap (s.spillParts s.gatherHeader s.prog.tokenCounter))
      kv := { s.kv with spillDue := false }
      prog := { s.prog with tokenCounter := (s.prog.tokenCounter + 1) % 2 ^ 32 } } := by
  simp only [exec_kvSpill, execKvSpill, hawake, hdue, Bool.not_true, Bool.or_self, Bool.false_eq_true, if_false]

/-- With no other write of the gather unit waiting, the granted entry is followed by the request for the next one (R277). -/
theorem exec_kvGather_of_last {a : AgentWrite} (hawake : s.awake = true)
    (ha : s.agents.find? (fun a => decide (a.holder = 0x102) && a.granted) = some a)
    (hlast : (s.agentWrite a false).agents.any (fun b => decide (b.holder = 0x102)) = false) :
    exec .kvGather s = .next
      ((s.agentWrite a false).startGather.requestGather
        ((s.agentWrite a false).startGather.gatherEntries.length + 1 - (s.agentWrite a false).startGather.kv.entry)) := by
  simp only [exec_kvGather, execKvGather, hawake, ha, hlast, Bool.not_true, Bool.false_eq_true, if_false]

theorem exec_processDataForward_of_granted {seg : Fin 3} {a : AgentWrite}
    (ha : s.agents.find? (fun a => decide (a.holder = 0x100) && decide (a.unit = seg.val) && a.granted) = some a) :
    exec (.processDataForward seg) s = .next (s.agentWrite a false) := by
  rw [exec_processDataForward, execProcessDataForward, ha]

/-- An entry of the output map leaves those that are due. -/
def State.takeDue (s : State) (p : Nat × Bool) : State := { s with ecat := { s.ecat with due := s.ecat.due.erase p } }

section
variable {entry : Fin 256} {m : OutMap} {t : TileId} {late : Bool}
  (hdue : s.ecat.due.find? (fun p => decide (p.1 = entry.val)) = some (entry.val, late))
  (hm : OutMap.parse (s.octets (outMapKey entry.val)) = m) (ht : Handle.tile? m.tile = some t)
include hdue hm ht

/-- An entry that came due in time: its rows go to the pending image, and the poison among them to the done add (R480). -/
theorem exec_outputCollect_of_on_time (hlate : late = false) {s1 : State} {bs : List (Byte × Bool)}
    (h1 : s1 = s.takeDue (entry.val, false)) (hbs : bs = s1.outputBytes t m.row m.length) :
    exec (.outputCollect entry) s = .next
      ((({ s1 with ecat := { s1.ecat with
          badBeats := s1.ecat.badBeats.filter fun b => decide (b.1 ≠ (tileDie t).val) } } : State).modSegment
        m.segment fun g => g.collect m.offset bs).applyHubDone (.tile t (BitVec.ofNat 8 m.doneTs) m.doneValue)
          (bs.any Prod.snd)) := by
  subst hlate hbs h1
  simp only [exec_outputCollect, execOutputCollect, hdue, hm, ht, Bool.false_eq_true, if_false]
  rfl

/-- An entry that came due late is counted and collects nothing (R481). -/
theorem exec_outputCollect_of_late (hlate : late = true) :
    exec (.outputCollect entry) s = .next
      (((s.takeDue (entry.val, true)).modSegment m.segment fun g =>
        { g with lateCollections := g.lateCollections + 1 }).applyHubDone
          (.tile t (BitVec.ofNat 8 m.doneTs) m.doneValue) true) := by
  subst hlate
  simp only [exec_outputCollect, execOutputCollect, hdue, hm, ht, if_true]
  rfl

end

end Sys2Proof.Machine

namespace Sys2Proof
open Sys2Proof.Machine

/-- Settles O60: each unit serves the entry that the premises find. -/
theorem tokensAndTransfers : Obligations.TokensAndTransfers := by
  unfold Obligations.TokensAndTransfers
  intro s
  exact ⟨exec_kvSpill_of_due, fun a => exec_kvGather_of_last, fun seg a => exec_processDataForward_of_granted,
    fun entry m t bs s1 hdue hm ht => exec_outputCollect_of_on_time hdue hm ht rfl,
    fun entry m t hdue hm ht => exec_outputCollect_of_late hdue hm ht rfl⟩

end Sys2Proof
end

section
/-!
PROOF. O53: an update of a turnstile of a tile (R281 to R283, R288). A turnstile without an update in the queue holds, with
this one, what samples see with this update applied; the update touches its tile, the log and the process data that come due.
-/
namespace Sys2Proof.Machine

variable {s : State} {t : TileId}

/-! ### The queue of a tile's updates -/

/-- An update of a turnstile that no update in the queue names is the only one of that turnstile. -/
theorem filter_insertTs_of_absent {u : TsRecent} {q : List TsRecent} (h : ∀ v ∈ q, v.number ≠ u.number) :
    ((insertTs u q).filter fun v => decide (v.number = u.number)) = [u] := by
  induction q with
  | nil => simp [insertTs]
  | cons v q ih =>
    obtain ⟨hv, hq⟩ := List.forall_mem_cons.mp h
    have hnone : (q.filter fun v => decide (v.number = u.number)) = [] := by simpa using hq
    rw [insertTs]
    split
    · simp [hv, hnone]
    · simp [hv, ih hq]

/-- With no other update waiting, a turnstile is what samples see with the new update applied. -/
theorem foldTs_insertTs_of_absent {u : TsRecent} {q : List TsRecent} (seen : Ts) (h : ∀ v ∈ q, v.number ≠ u.number) :
    foldTs u.number seen (insertTs u q) = seen.apply u.op u.poison := by
  rw [foldTs, filter_insertTs_of_absent h, List.foldl_cons, List.foldl_nil]

/-! ### Events -/

/-- An event changes the service record alone, unless its class is 3, which its die records too. -/
theorem raise_eq_of_class_ne {code : W16} (hc : code.toNat / 0x1000 ≠ 3) (h : Handle) (p : W32) (a : W16) :
    s.raise code h p a = { s with svc := (s.raise code h p a).svc } := by
  simp [State.raise, hc]

/-- What a tile holds does not matter to the log. -/
theorem svc_raise_setTile {code : W16} (hc : code.toNat / 0x1000 ≠ 3) (x : Tile) (h : Handle) (p : W32) (a : W16) :
    ((s.setTile t x).raise code h p a).svc = (s.raise code h p a).svc := by
  simp only [State.raise, if_neg hc]
  rfl

/-! ### The update -/

/-- The service record after an update of turnstile n: event 0x5040 where the add saturates (R282, R298). -/
def State.svcAfterUpdate (s : State) (t : TileId) (n : Byte) (old : Ts) (op : TsOp) : Service :=
  if old.saturates op then (s.raise 0x5040 (tileHandle t) (eventParam 0 n.toNat) 0xFFFF).svc else s.svc

/-- The event of a saturating add changes the log alone. -/
theorem setTile_saturation_event (x : Tile) (n : Byte) (old : Ts) (op : TsOp) :
    (if old.saturates op then (s.setTile t x).raise 0x5040 (tileHandle t) (eventParam 0 n.toNat) 0xFFFF else s.setTile t x) =
      { s.setTile t x with svc := s.svcAfterUpdate t n old op } := by
  have hc : (0x5040 : W16).toNat / 0x1000 ≠ 3 := by decide
  rw [State.svcAfterUpdate]
  split
  · rw [raise_eq_of_class_ne hc, svc_raise_setTile hc]
  · rfl

/-- A tile with update u in its queue: its turnstile is what the updates of the queue make of what samples see. -/
def Tile.updated (x : Tile) (u : TsRecent) : Tile :=
  { x with
    tsQ := insertTs u x.tsQ
    turnstiles := mset Ts.zero x.turnstiles u.number (foldTs u.number (mget Ts.zero x.tsSeen u.number) (insertTs u x.tsQ)) }

theorem mget_updated_same {x : Tile} {u : TsRecent} (h : ∀ v ∈ x.tsQ, v.number ≠ u.number) :
    mget Ts.zero (x.updated u).turnstiles u.number = (mget Ts.zero x.tsSeen u.number).apply u.op u.poison :=
  (mget_mset_same ..).trans (foldTs_insertTs_of_absent _ h)

theorem mget_updated_other (x : Tile) (u : TsRecent) {k : Nat} (hk : k ≠ u.number) :
    mget Ts.zero (x.updated u).turnstiles k = mget Ts.zero x.turnstiles k := mget_mset_other _ _ _ _ _ hk

/-- An update of a tile in service changes the tile, the log and the process data that come due (R281, R480). -/
theorem tileUpdate_frame {n : Byte} (hin : s.tileIn t = true) (hn : n.toNat < 64) (op : TsOp) (poison : Bool) (vis : Nat) :
    ∃ ecat, s.tileUpdate t n op poison vis = { s.setTile t ((s.tile t).updated ⟨vis, n.toNat, op, poison⟩) with
      svc := s.svcAfterUpdate t n (mget Ts.zero (s.tile t).turnstiles n.toNat) op, ecat := ecat } := by
  rw [State.tileUpdate, hin, decide_eq_false (Nat.not_le.mpr hn), Bool.not_true, Bool.or_self, if_neg Bool.false_ne_true]
  dsimp only
  rw [setTile_saturation_event]
  split
  · exact ⟨_, rfl⟩
  · split
    · exact ⟨_, rfl⟩
    · exact ⟨_, rfl⟩

end Sys2Proof.Machine

namespace Sys2Proof
open Sys2Proof.Machine

/-- Settles O53: the frame of an update, and the one update that acts on what samples see. -/
theorem turnstileRules : Obligations.TurnstileRules := by
  unfold Obligations.TurnstileRules
  intro s t n op poison vis old new hin hn hq hseen hold hnew
  have happly : old.apply op poison = new := by
    subst hnew
    cases op with
    | add v => simp only [Ts.apply, Bool.decide_and]
    | reset target => rfl
    | poison => rfl
  obtain ⟨ecat, hupd⟩ := tileUpdate_frame hin hn op poison vis
  rw [hold] at hupd
  have htile : (s.tileUpdate t n op poison vis).tile t = (s.tile t).updated ⟨vis, n.toNat, op, poison⟩ := by
    rw [hupd]; exact State.tile_setTile s t _
  refine ⟨?same, fun k hk => ?otherTurnstile, fun u hu => ?otherTile, ?frame⟩
  case same => rw [htile, mget_updated_same hq, ← hseen, happly]
  case otherTurnstile => rw [htile, mget_updated_other _ _ hk]
  case otherTile => rw [hupd]; exact State.tile_setTile_other s t u _ hu
  case frame => rw [hupd]; rfl

end Sys2Proof
end

section
/-!
PROOF. O21: cyclic frames of the segments, their return and their timeout (R472, R482, R483), links (R484), acyclic frames
(R473), the reference clock (R295, R477) and the way to OP (R476, R478).
-/
namespace Sys2Proof.Machine

variable {s : State} {seg : Fin 3}

/-! ### The cyclic frame -/

section
variable (hawaits : (s.segment seg.val).awaiting = true)
include hawaits

/-- A frame in time with right working counters is good (R472). -/
theorem exec_cyclicFrameReturn_of_good {r : CyclicReturn} (hwkc : r.wkcOk = true)
    (htime : r.delayUs ≤ s.setting (returnLimitKey seg.val)) :
    exec (.cyclicFrameReturn seg r) s =
      .next (((s.goodFrame seg.val r.inputs).alStatus seg.val r).clockDatagram seg.val r.dcOk) := by
  simp [execCyclicFrameReturn, hawaits, hwkc, htime]

/-- A late frame, or one with a wrong working counter, is bad (R472, R482). -/
theorem exec_cyclicFrameReturn_of_bad {r : CyclicReturn}
    (hbad : r.wkcOk = false ∨ s.setting (returnLimitKey seg.val) < r.delayUs) :
    exec (.cyclicFrameReturn seg r) s =
      .next (((s.badFrame seg.val).alStatus seg.val r).clockDatagram seg.val r.dcOk) := by
  have hgood : (r.wkcOk && decide (r.delayUs ≤ s.setting (returnLimitKey seg.val))) = false := by
    rw [Bool.and_eq_false_iff, decide_eq_false_iff_not, Nat.not_le]
    exact hbad
  simp [execCyclicFrameReturn, hawaits, hgood]

theorem exec_frameReturnTimeout_of_awaiting :
    exec (.frameReturnTimeout seg) s = .next ((s.badFrame seg.val).clockDatagram seg.val false) := by
  simp [execFrameReturnTimeout, hawaits]

end

/-! ### Links -/

/-- The loss of a link fails its segment; that of P0 takes the lock too (R477, R482). -/
theorem exec_portLinkLoss_of_up (hup : (s.segment seg.val).linkUp = true) :
    exec (.portLinkLoss seg) s = .next
      (if seg.val = 0 then ((s.modSegment seg.val fun g => { g with linkUp := false }).failSegment seg.val).loseLock
      else (s.modSegment seg.val fun g => { g with linkUp := false }).failSegment seg.val) := by
  simp only [exec_portLinkLoss, execPortLinkLoss, hup, Bool.not_true, Bool.false_eq_true, if_false]

theorem exec_portLinkReturn_of_down (hdown : (s.segment seg.val).linkUp = false) :
    exec (.portLinkReturn seg) s = .next (s.setSegment seg.val
      { s.segment seg.val with linkUp := true, state := .init, awaiting := false, sync0 := false }) := by
  simp [execPortLinkReturn, hdown]

/-! ### Acyclic frames -/

theorem exec_subdeviceOpRetry_of_retry (hretry : (s.segment seg.val).opRetry = true) :
    exec (.subdeviceOpRetry seg) s = .next (s.modSegment seg.val fun g => { g with acyclicWaits := true }) := by
  rw [exec_subdeviceOpRetry, execSubdeviceOpRetry, if_pos hretry]

/-- The acyclic frame leaves while the cyclic one is back and the next frame start is 80,000 cc off or more (R473). -/
theorem exec_acyclicFrame_of_room (hback : (s.segment seg.val).awaiting = false)
    (htime : (s.now + 80000 : Nat) ≤ s.nextStart) :
    exec (.acyclicFrame seg) s = .next (s.modSegment seg.val fun g => { g with acyclicWaits := false }) := by
  have hlate : ¬s.nextStart < (s.now : Int) + 80000 := by omega
  simp [execAcyclicFrame, hback, hlate]

/-! ### The reference clock -/

theorem loseLock_of_locked (h : s.frame.locked = true) :
    s.loseLock = (({ s with frame := { s.frame with
      locked := false, holdover := true, dcLost := true, lockRun := 0 } } : State).event 0x4030 deviceHandle) := by
  rw [State.loseLock, if_pos h]

theorem loseLock_of_unlocked (h : s.frame.locked = false) :
    s.loseLock = { s with frame := { s.frame with dcLost := true, lockRun := 0 } } := by
  rw [State.loseLock, h, if_neg Bool.false_ne_true]

/-! ### The way to OP -/

/-- A segment in OP, with distributed clocks, 15,000 drift frames and SYNC0 (R476). -/
def Segment.started (g : Segment) (shift : Nat) : Segment :=
  { g with
    state := .op, fault := false, badRun := 0, dcBad := 0, sync0 := true, driftFrames := 15000
    shift := shift, reported := [], opRetry := false, awaiting := false }

/-- A segment that is configured, linked and free goes to OP, with event 0x4053 where it was in fault (R476, R478). -/
theorem exec_segmentStart_of_ready (hpower : s.power ≠ .off) (hrun : s.ecat.stopped = false)
    (heni : (s.segment seg.val).eni.isSome = true) (hheld : (s.segment seg.val).held = false)
    (hup : (s.segment seg.val).linkUp = true) (hloop : s.loopHolds seg.val = false)
    (hneeds : (s.segment seg.val).state ≠ .op ∨ (s.segment seg.val).fault = true) {r : State}
    (hr : r = s.setSegment seg.val ((s.segment seg.val).started (s.setting (0x291006 + 0x1000 * seg.val)))) :
    exec (.segmentStart seg) s = .next (if (s.segment seg.val).fault then r.deviceEvent 0x4053 seg.val else r) := by
  subst hr
  have hsome : (s.segment seg.val).eni.isNone = false := by rw [← Option.not_isSome, heni, Bool.not_true]
  have hgo : ¬(s.power = .off ∨ s.ecat.stopped ∨ (s.segment seg.val).eni.isNone ∨ (s.segment seg.val).held ∨
      !(s.segment seg.val).linkUp ∨ s.loopHolds seg.val ∨
      ((s.segment seg.val).state = .op ∧ !(s.segment seg.val).fault)) := by
    rcases hneeds with h | h <;> simp [hpower, hrun, hsome, hheld, hup, hloop, h]
  rw [exec_segmentStart, execSegmentStart]
  exact congrArg Host.Outcome.next (if_neg hgo)

end Sys2Proof.Machine

namespace Sys2Proof
open Sys2Proof.Machine

/-- Settles O21: one lemma a command, and two each for a returned frame and for a lost clock. -/
theorem segmentFrames : Obligations.SegmentFrames := by
  unfold Obligations.SegmentFrames
  intro s
  refine ⟨fun _ _ hawaits => exec_cyclicFrameReturn_of_good hawaits,
    fun _ _ hawaits => exec_cyclicFrameReturn_of_bad hawaits,
    fun _ => exec_frameReturnTimeout_of_awaiting, fun seg hup hseg => ?otherPort, fun hup => ?port0,
    fun seg g hg hdown => ?linkReturn, fun _ => exec_subdeviceOpRetry_of_retry, fun _ => exec_acyclicFrame_of_room,
    fun h => ?locked, fun h => ?unlocked, fun seg g r hg hpower hrun heni hheld hup hloop hneeds hr => ?start⟩
  case otherPort =>
    have hval : seg.val ≠ 0 := Fin.val_ne_of_ne hseg
    rw [exec_portLinkLoss_of_up hup, if_neg hval]
  case port0 => exact exec_portLinkLoss_of_up (seg := 0) hup
  case linkReturn => subst hg; exact exec_portLinkReturn_of_down hdown
  case locked => rw [exec_dcReferenceLost, execDcReferenceLost, loseLock_of_locked h]
  case unlocked => rw [exec_dcReferenceLost, execDcReferenceLost, loseLock_of_unlocked h]
  case start => subst hg; exact exec_segmentStart_of_ready hpower hrun heni hheld hup hloop hneeds hr

end Sys2Proof
end

section
/-!
PROOF. O57: the frame that opens (R294, R296, R431, R435, R471, R515, R563). What FRAME_START leaves to the HD queue depends on
the power state; the new frame keeps the number, start and time that open it, whatever the lock does.
-/
namespace Sys2Proof.Machine

variable {s : State} (edge : EdgeInput)

/-! ### The new frame -/

/-- Watching the lock leaves the number of the frame, its start and its system time. -/
@[simp] theorem Frame.track_number (f : Frame) : (f.track edge).number = f.number := rfl
@[simp] theorem Frame.track_start (f : Frame) : (f.track edge).start = f.start := rfl
@[simp] theorem Frame.track_sysTime (f : Frame) : (f.track edge).sysTime = f.sysTime := rfl

/-- A frame ends after F and its correction, unless a new period is written (R294). -/
theorem Frame.lengthTo_of_no_period {f : Frame} (h : f.nextPeriod = none) :
    f.lengthTo edge = (800 * f.period : Nat) + f.lastCorr := by
  rw [Frame.lengthTo, h]

/-- The frame that opens at an edge, before its lock is looked at: one number on, and the length of the last one later (R294). -/
def Frame.opened (f : Frame) : Frame :=
  { f with
    number := f.number + 1, start := ((f.start : Int) + f.lengthTo edge).toNat, sysTime := edge.sysTime, missedStarts := 0 }

/-- The events of the lock leave the frame that opens, and the power state, as they are. -/
theorem openFrame_keeps :
    (s.openFrame edge).frame = (s.frame.opened edge).track edge ∧ (s.openFrame edge).power = s.power := by
  rw [State.openFrame]
  split
  · exact ⟨State.raise_frame .., State.raise_power ..⟩
  · split
    · exact ⟨State.raise_frame .., State.raise_power ..⟩
    · exact ⟨rfl, rfl⟩

/-! ### The command -/

/-- The HD queue stands still while the queues do not work, as in Off. -/
theorem runHdQueue_of_off (h : s.power = .off) : s.runHdQueue = s := by
  have hmove : s.hdMove = none := by simp [State.hdMove, State.queuesUp, h]
  have hserve : s.serveHd 512 = s := by rw [State.serveHd, hmove]
  rw [State.runHdQueue, hserve, if_pos rfl]

theorem frameStart_of_off (h : s.power = .off) : s.frameStart edge = s := by
  rw [State.frameStart, if_pos (Or.inl h)]

/-- In Run or Idle the whole boundary runs (R431). -/
theorem frameStart_of_awake (hpower : s.power = .run ∨ s.power = .idle) (hrun : s.ecat.stopped = false) :
    s.frameStart edge =
      (let s2 := (s.publishLog.openFrame edge).takePeriod.closeFrame.boundary edge
       let s3 := forAll (List.range 3) State.transmit s2
       { s3 with frame := { s3.frame with frameOut := s3.frameOutWidth } }.openRequests.takeSnapshot) := by
  rcases hpower with h | h <;> simp [State.frameStart, h, hrun]

/-- In Doze the frames go on without tiles, programme and requests (log 51). -/
theorem frameStart_of_doze (hpower : s.power = .doze) (hrun : s.ecat.stopped = false) :
    s.frameStart edge =
      (let s2 := forAll (List.range 3) State.transmit (s.publishLog.openFrame edge).takePeriod
       { s2 with
         frame := { s2.frame with frameOut := s2.frameOutWidth }
         dict := { s2.dict with inForce := s2.dict.accepted, octetsInForce := s2.dict.octets } }.takeSnapshot) := by
  simp [State.frameStart, hpower, hrun]

end Sys2Proof.Machine

namespace Sys2Proof
open Sys2Proof.Machine

/-- Settles O57: the command by the power state, and what the new frame carries. -/
theorem frameStart : Obligations.FrameStart := by
  unfold Obligations.FrameStart
  intro s
  refine ⟨fun edge hpower hrun => ?awake, fun edge hperiod => ?start, fun edge => ?opened, fun edge hpower hrun => ?doze,
    fun edge hpower => ?off⟩
  case awake => rw [exec_frameStart, execFrameStart, frameStart_of_awake edge hpower hrun]
  case start =>
    obtain ⟨hframe, -⟩ := openFrame_keeps (s := s) edge
    rw [hframe, Frame.track_start, Frame.opened, Frame.lengthTo_of_no_period edge hperiod]
  case opened =>
    obtain ⟨hframe, hpower⟩ := openFrame_keeps (s := s) edge
    rw [hframe, Frame.track_number, Frame.track_sysTime, hpower]
    exact ⟨rfl, rfl, rfl⟩
  case doze => rw [exec_frameStart, execFrameStart, frameStart_of_doze edge hpower hrun]
  case off => rw [exec_frameStart, execFrameStart, frameStart_of_off edge hpower, runHdQueue_of_off hpower]

end Sys2Proof
end

section
/-!
PROOF. O20: the bilinear resize (R315). An output pixel is a mean of four source pixels whose weights sum to 65,536, so it stays
in their range; at equal size every sampling point lies on a source pixel, which takes the whole weight.
-/
namespace Sys2Proof.Machine

/-- The sampling point of output index k along an axis of c source and o output pixels, in 1/256 source pixel: `sx` and `sy` of
R315. -/
def samplePoint (k c o : Nat) : Nat :=
  (clampInt 0 ((c - 1) * 256 : Nat) ((((2 * k + 1) * c * 256 / (2 * o) : Nat) : Int) - 128)).toNat

/-- The rounded blend of the four pixels around a sampling point, by its offsets in 1/256 pixel: `out` of R315. -/
def blend (p00 p10 p01 p11 fx fy : Nat) : Nat :=
  (p00 * ((256 - fx) * (256 - fy)) + p10 * (fx * (256 - fy)) + p01 * ((256 - fx) * fy) + p11 * (fx * fy) + 32768) / 65536

theorem resizePixel_eq_blend (pix : Nat → Nat → Nat) (cw ch ow oh u v : Nat) :
    resizePixel pix cw ch ow oh u v =
      (let sx := samplePoint u cw ow
       let sy := samplePoint v ch oh
       let x1 := min (sx / 256 + 1) (cw - 1)
       let y1 := min (sy / 256 + 1) (ch - 1)
       blend (pix (sx / 256) (sy / 256)) (pix x1 (sy / 256)) (pix (sx / 256) y1) (pix x1 y1) (sx % 256) (sy % 256)) := rfl

/-- At equal size the sampling point of pixel k is pixel k itself. -/
theorem samplePoint_same {k c : Nat} (hk : k < c) : samplePoint k c c = 256 * k := by
  have hdiv : (2 * k + 1) * c * 256 / (2 * c) = 256 * k + 128 := by
    have hscale : c * 256 = 128 * (2 * c) := by omega
    rw [Nat.mul_assoc, hscale, ← Nat.mul_assoc, Nat.mul_div_cancel _ (by omega)]
    omega
  rw [samplePoint, hdiv, clampInt_eq_max_min (by omega)]
  omega

/-- A sampling point on a pixel takes that pixel whole. -/
theorem blend_on_pixel (p00 p10 p01 p11 : Nat) : blend p00 p10 p01 p11 0 0 = p00 := by
  unfold blend
  omega

/-- The four weights sum to the square of 256. -/
theorem blend_weights {fx fy : Nat} (hx : fx ≤ 256) (hy : fy ≤ 256) :
    (256 - fx) * (256 - fy) + fx * (256 - fy) + (256 - fx) * fy + fx * fy = 65536 := by
  calc (256 - fx) * (256 - fy) + fx * (256 - fy) + (256 - fx) * fy + fx * fy
      = (256 - fx + fx) * (256 - fy + fy) := by
        rw [Nat.mul_add, Nat.add_mul, Nat.add_mul, Nat.add_assoc _ _ (fx * fy)]
    _ = 65536 := by rw [Nat.sub_add_cancel hx, Nat.sub_add_cancel hy]

/-- A weighted sum of four pixels grows with each of them. -/
theorem weightedSum_mono {p00 p10 p01 p11 q00 q10 q01 q11 : Nat} (a b c d : Nat)
    (h00 : p00 ≤ q00) (h10 : p10 ≤ q10) (h01 : p01 ≤ q01) (h11 : p11 ≤ q11) :
    p00 * a + p10 * b + p01 * c + p11 * d ≤ q00 * a + q10 * b + q01 * c + q11 * d :=
  Nat.add_le_add (Nat.add_le_add (Nat.add_le_add (Nat.mul_le_mul_right a h00) (Nat.mul_le_mul_right b h10))
    (Nat.mul_le_mul_right c h01)) (Nat.mul_le_mul_right d h11)

/-- A blend lies between the bounds of the pixels that it is formed from. -/
theorem blend_mem_range {p00 p10 p01 p11 fx fy lo hi : Nat} (hx : fx ≤ 256) (hy : fy ≤ 256)
    (h00 : lo ≤ p00 ∧ p00 ≤ hi) (h10 : lo ≤ p10 ∧ p10 ≤ hi)
    (h01 : lo ≤ p01 ∧ p01 ≤ hi) (h11 : lo ≤ p11 ∧ p11 ≤ hi) :
    lo ≤ blend p00 p10 p01 p11 fx fy ∧ blend p00 p10 p01 p11 fx fy ≤ hi := by
  obtain ⟨hlo00, hhi00⟩ := h00
  obtain ⟨hlo10, hhi10⟩ := h10
  obtain ⟨hlo01, hhi01⟩ := h01
  obtain ⟨hlo11, hhi11⟩ := h11
  have hsum := blend_weights hx hy
  unfold blend
  generalize (256 - fx) * (256 - fy) = a at *
  generalize fx * (256 - fy) = b at *
  generalize (256 - fx) * fy = c at *
  generalize fx * fy = d at *
  have hconst (n : Nat) : n * a + n * b + n * c + n * d = n * 65536 := by rw [← hsum]; simp only [Nat.mul_add]
  constructor
  · rw [Nat.le_div_iff_mul_le (by decide)]
    calc lo * 65536 = lo * a + lo * b + lo * c + lo * d := (hconst lo).symm
      _ ≤ p00 * a + p10 * b + p01 * c + p11 * d := weightedSum_mono a b c d hlo00 hlo10 hlo01 hlo11
      _ ≤ _ := Nat.le_add_right ..
  · rw [← Nat.lt_succ_iff, Nat.div_lt_iff_lt_mul (by decide)]
    calc p00 * a + p10 * b + p01 * c + p11 * d + 32768
        ≤ hi * a + hi * b + hi * c + hi * d + 32768 :=
          Nat.add_le_add_right (weightedSum_mono a b c d hhi00 hhi10 hhi01 hhi11) _
      _ < hi.succ * 65536 := by rw [hconst]; omega

end Sys2Proof.Machine

namespace Sys2Proof
open Sys2Proof.Machine

/-- Settles O20: sampling points on the pixels, and blends within the range of their pixels. -/
theorem resizeOfSameSize : Obligations.ResizeOfSameSize := by
  unfold Obligations.ResizeOfSameSize
  refine ⟨fun pix w h u v hu hv => ?identity, fun pix cw ch ow oh u v lo hi hpix => ?range⟩
  case identity =>
    have hdiv (n : Nat) : 256 * n / 256 = n := Nat.mul_div_cancel_left n (by decide)
    simp only [resizePixel_eq_blend, samplePoint_same hu, samplePoint_same hv, hdiv, Nat.mul_mod_right, blend_on_pixel]
  case range =>
    have hoffset (n : Nat) : n % 256 ≤ 256 := Nat.le_of_lt (Nat.mod_lt n (by decide))
    rw [resizePixel_eq_blend]
    exact blend_mem_range (hoffset _) (hoffset _) (hpix ..) (hpix ..) (hpix ..) (hpix ..)

end Sys2Proof
end

section
/-!
PROOF. O19: packets and frames of the cameras, and the delivery of frames (R313, R316, R317, R319, R320, R537, R538). Whether a
line has the right length is the reading of log 52, and a buffer is written whole at the end of its frame (log 52).
-/
namespace Sys2Proof.Machine

variable {s : State}

/-! ### Packets (R537, R538) -/

/-- A packet with a usable header, on a port without loop-back and without overflow, is taken as it is. -/
theorem exec_csi2Packet_of_usable {port : Fin 8} {p : CsiPacket} (hawake : s.awake = true) (hheader : p.headerOk = true)
    (hloop : s.loopHolds (0x10 + port.val) = false) :
    exec (.csi2Packet port p false) s = .next (s.takePacket port.val p) := by
  simp [execCsi2Packet, hawake, hheader, hloop]

theorem takePacket_of_no_context {port : Nat} {p : CsiPacket} (hctx : s.contextOf port p.vc.val = none) :
    s.takePacket port p = s.countDropped port := by
  rw [State.takePacket, hctx]

section
variable {port k : Nat} {p : CsiPacket} (hctx : s.contextOf port p.vc.val = some k)
include hctx

theorem takePacket_of_frame_start (htype : p.dataType = 0) : s.takePacket port p = s.startCameraFrame k := by
  simp [State.takePacket, hctx, htype]

theorem takePacket_of_frame_end (htype : p.dataType = 1) (hframe : (s.context k).inFrame = true) :
    s.takePacket port p = s.setContext k { s.context k with ended := true } := by
  simp [State.takePacket, hctx, htype, hframe]

/-- Data types above 3 are those of lines: one of another type than the context's is dropped, and one outside a frame has no
effect (R537). A frame stays good with a right checksum and length only (R317, R538). -/
theorem takePacket_of_line_type (hline : 3 < p.dataType.toNat) :
    s.takePacket port p =
      if p.dataType.toNat ≠ csiType (s.context k).settings.dtype then s.countDropped port
      else if !(s.context k).inFrame || (s.context k).ended then s
      else s.setContext k { s.context k with
        lines := (s.context k).lines ++ [p.payload]
        good := (s.context k).good && p.crcOk && (s.context k).lengthOk p.payload.length } := by
  have hstart : p.dataType.toNat ≠ 0 := by omega
  have hend : p.dataType.toNat ≠ 1 := by omega
  have hshort : ¬(p.dataType.toNat = 2 ∨ p.dataType.toNat = 3) := by omega
  simp only [State.takePacket, hctx, hstart, hend, hshort, if_false]

end

/-! ### The end of a frame (R316, R317) -/

/-- The frame of a context whose frame-end packet has come is finished. -/
theorem exec_cameraFrameEnd_of_ended {k : Fin 16} (hawake : s.awake = true) (hframe : (s.context k.val).inFrame = true)
    (hended : (s.context k.val).ended = true) : exec (.cameraFrameEnd k) s = .next (s.finishFrame k.val) := by
  simp [execCameraFrameEnd, hawake, hframe, hended]

/-- A frame that is bad or lacks lines is discarded, with event 0x4040. -/
theorem finishFrame_of_incomplete {k : Nat}
    (hbad : (s.context k).good = false ∨ (s.context k).lines.length < (s.context k).settings.linesNeeded) :
    s.finishFrame k = (s.setContext k
      { s.context k with inFrame := false, lines := [], good := true, ended := false }).deviceEvent 0x4040 k := by
  have hincomplete : ¬((s.context k).ended = true ∧ (s.context k).good = true ∧
      (s.context k).settings.linesNeeded ≤ (s.context k).lines.length) := by
    rintro ⟨-, hgood, hlines⟩
    rcases hbad with hbad | hbad
    · rw [hbad] at hgood; exact Bool.false_ne_true hgood
    · omega
  exact if_neg hincomplete

/-! ### Delivery (R319) -/

theorem exec_ingressDelivery_of_granted {a : AgentWrite} (hawake : s.awake = true)
    (hgrant : s.agents.find? (fun a => decide (a.holder = 0x103) && a.granted) = some a) :
    exec .ingressDelivery s = .next (s.agentWrite a false).requestStripes := by
  simp only [exec_ingressDelivery, execIngressDelivery, hawake, hgrant, Bool.not_true, Bool.false_eq_true, if_false]

end Sys2Proof.Machine

namespace Sys2Proof
open Sys2Proof.Machine

/-- Settles O19: what a packet is taken as decides its five clauses, the test of `State.finishFrame` the two of a frame's end. -/
theorem cameras : Obligations.Cameras := by
  unfold Obligations.Cameras
  intro s
  refine ⟨fun port p hawake hheader hloop hctx => ?noContext,
    fun port p k hawake hheader hloop hctx htype => ?frameStart,
    fun port p k hawake hheader hloop hctx htype hframe => ?frameEnd,
    fun port p k hawake hheader hloop hctx htype hline => ?otherType,
    fun port p k c hawake hheader hloop hctx hc htype hline hframe hopen => ?line,
    fun k c hawake hc hframe hended hgood hlines => ?complete,
    fun k c hawake hc hframe hended hbad => ?incomplete,
    fun a => exec_ingressDelivery_of_granted⟩
  case noContext => rw [exec_csi2Packet_of_usable hawake hheader hloop, takePacket_of_no_context hctx, State.countDropped]
  case frameStart => rw [exec_csi2Packet_of_usable hawake hheader hloop, takePacket_of_frame_start hctx htype]
  case frameEnd => rw [exec_csi2Packet_of_usable hawake hheader hloop, takePacket_of_frame_end hctx htype hframe]
  case otherType =>
    rw [exec_csi2Packet_of_usable hawake hheader hloop, takePacket_of_line_type hctx hline, if_pos htype, State.countDropped]
  case line =>
    subst hc
    have hjoins : ¬(!(s.context k).inFrame || (s.context k).ended) = true := by rw [hframe, hopen]; decide
    rw [exec_csi2Packet_of_usable hawake hheader hloop, takePacket_of_line_type hctx hline, if_neg (fun h => h htype),
      if_neg hjoins]
  case complete =>
    subst hc
    rw [exec_cameraFrameEnd_of_ended hawake hframe hended]
    exact congrArg Host.Outcome.next (if_pos ⟨hended, hgood, hlines⟩)
  case incomplete =>
    subst hc
    rw [exec_cameraFrameEnd_of_ended hawake hframe hended, finishFrame_of_incomplete hbad]

end Sys2Proof
end

section
/-!
PROOF. O3, O4, O6, O7: the invariant of the block, and the commands that may enter or leave Off (R551, R586). The laws of
Laws/Kept*.lean keep, besides the queue, whether the device is in Off; the commands that they leave out are told apart here.
-/
namespace Sys2Proof.Machine

/-- The commands that may take the device into Off or out of it. -/
def switchesCore : Instr → Bool
  | .porstNAssert => true
  | .vinUndervoltage => true
  | .thermalTrip _ => true
  | .coldStart _ => true
  | _ => false

theorem State.tap_power (s : State) (testEn allowed : Bool) {f : State → State} (hf : (f s).power = s.power) :
    (s.tap testEn allowed f).power = s.power := by
  unfold State.tap
  split
  · rfl
  · split
    · exact hf
    · rfl

theorem KeptO.outcome {q : List Instr × Bool} {o : Bool} {r : Host.Outcome State Fault Refusal} {t : State} (hr : r = .next t)
    (h : KeptO q o r) : Kept q o t := h t hr

theorem Kept.off_iff {q : List Instr × Bool} {s t : State} (h : Kept q (decide (s.power = .off)) t) :
    t.power = .off ↔ s.power = .off := decide_eq_decide.mp h.2.1

/-- Every other command keeps whether the device is in Off. -/
theorem exec_off_iff {i : Instr} {s t : State} (hs : s.Sound) (hi : switchesCore i = false) (hexec : exec i s = .next t) :
    t.power = .off ↔ s.power = .off := by
  have hkept := Kept.start hs
  have hnext : ∀ {u : State}, u.power = s.power → (.next u : Host.Outcome State Fault Refusal) = .next t →
      (t.power = .off ↔ s.power = .off) := by
    rintro u hu ⟨⟩
    rw [hu]
  cases i with
  | porstNAssert => cases hi
  | vinUndervoltage => cases hi
  | thermalTrip channel => cases hi
  | coldStart f => cases hi
  | vinApply =>
    refine hnext ?_ hexec
    split <;> rfl
  | bootSetRestore => exact (execBootSetRestore_kept s hkept t hexec).off_iff
  | dozeWake => exact (execDozeWake_kept s hkept t hexec).off_iff
  | extest testEn => exact hnext (s.tap_power testEn true rfl) hexec
  | samplePreload testEn => exact hnext (s.tap_power testEn true rfl) hexec
  | clamp testEn => exact hnext (s.tap_power testEn true rfl) hexec
  | highz testEn => exact hnext (s.tap_power testEn true rfl) hexec
  | wsel testEn die answers => exact hnext (s.tap_power testEn s.keyless rfl) hexec
  | mbist testEn mask => exact hnext (s.tap_power testEn s.keyless rfl) hexec
  | _ =>
    refine Kept.off_iff (q := (s.pending, s.vin && !s.porst)) (KeptO.outcome hexec ?_)
    simp [hkept]

/-- Outside Off a cold start changes nothing. -/
theorem exec_coldStart_of_on {s : State} (h : s.power ≠ .off) (f : StartFindings) : exec (.coldStart f) s = .next s := by
  rw [exec_coldStart, execColdStart, if_pos (.inl h)]

/-- In Off a cold start that does anything has VIN, and either releases PORST_N or goes on with a start that had stopped. -/
theorem exec_coldStart_of_off {s t : State} {f : StartFindings} (hexec : exec (.coldStart f) s = .next t)
    (hchange : t.power ≠ s.power) :
    s.vin = true ∧ (s.porst = true ∨ s.startHalted = true ∧ s.booted = true) := by
  rw [exec_coldStart, execColdStart] at hexec
  injection hexec with hexec
  split at hexec
  next => exact absurd (congrArg State.power hexec.symm) hchange
  next hready =>
    obtain ⟨-, hvin⟩ := not_or.mp hready
    refine ⟨by simpa using hvin, ?_⟩
    split at hexec
    next hporst => exact .inl hporst
    next =>
      split at hexec
      next hhalted => exact .inr hhalted
      next => exact absurd (congrArg State.power hexec.symm) hchange

end Sys2Proof.Machine

namespace Sys2Proof
open Sys2Proof.Machine

/-- Settles O3: reset stands in Off with SAFE_N asserted, and its byte memories are empty. -/
theorem reset : Obligations.Reset := by
  unfold Obligations.Reset
  exact ⟨rfl, rfl, rfl, rfl, rfl, fun _ => rfl, fun _ => rfl, rfl, rfl⟩

/-- Settles O4: the command at the front runs on a state that is as sound with the shorter queue, and every meaning keeps Sound. -/
theorem soundAlways : Obligations.SoundAlways := by
  unfold Obligations.SoundAlways
  intro s t hs hstep
  cases hq : s.pending with
  | nil =>
    rw [step_of_nil hq] at hstep
    cases hstep
    exact hs
  | cons c q =>
    rw [step_of_cons hq] at hstep
    have hsound : ({ s with pending := q } : State).Sound := hs
    exact (exec_fine c hsound t hstep).2

/-- Settles O6: of the commands that may switch core power three end in Off; the fourth is the cold start. -/
theorem offIsLeftByColdStart : Obligations.OffIsLeftByColdStart := by
  unfold Obligations.OffIsLeftByColdStart
  intro i s t hs hoff hexec hon
  cases hi : switchesCore i with
  | false => exact absurd ((exec_off_iff hs hi hexec).mpr hoff) hon
  | true =>
    cases i with
    | coldStart f => exact ⟨f, rfl, exec_coldStart_of_off hexec (by rwa [hoff])⟩
    | porstNAssert => cases hexec; exact absurd rfl hon
    | vinUndervoltage =>
      rw [exec_vinUndervoltage, execVinUndervoltage, if_pos hoff] at hexec
      cases hexec
      exact absurd hoff hon
    | thermalTrip channel =>
      rw [exec_thermalTrip, execThermalTrip, if_pos (.inl hoff)] at hexec
      cases hexec
      exact absurd hoff hon
    | _ => cases hi

/-- Settles O7: the commands that may switch core power are those three and the cold start, which does nothing outside Off. -/
theorem offIsEnteredBy : Obligations.OffIsEnteredBy := by
  unfold Obligations.OffIsEnteredBy
  intro i s t hs hon hexec hoff
  cases hi : switchesCore i with
  | false => exact absurd ((exec_off_iff hs hi hexec).mp hoff) hon
  | true =>
    cases i with
    | porstNAssert => exact .inl rfl
    | vinUndervoltage => exact .inr (.inl rfl)
    | thermalTrip channel => exact .inr (.inr ⟨channel, rfl⟩)
    | coldStart f =>
      rw [exec_coldStart_of_on hon] at hexec
      cases hexec
      exact absurd hoff hon
    | _ => cases hi

end Sys2Proof
end

section
/-!
PROOF. O11, O12, O13, O14: commands of the HD engine. A command that issues acts on a state that differs from the one it finds in the
position of its list alone (State.hdPassed_frame), so every reader of registers, accumulators and memory gives there what it gives
before.
-/
namespace Sys2Proof.Machine

section
variable (s : State) (o : HdOrigin)

@[simp] theorem State.hdPassed_hreg (r : Fin 32) : (s.hdPassed o).hreg r = s.hreg r := by
  obtain ⟨k, hk⟩ := s.hdPassed_frame o; rw [hk]; rfl
@[simp] theorem State.hdPassed_hacc (a : Fin 4) : (s.hdPassed o).hacc a = s.hacc a := by
  obtain ⟨k, hk⟩ := s.hdPassed_frame o; rw [hk]; rfl
@[simp] theorem State.hdPassed_hub : (s.hdPassed o).hub = s.hub := by
  obtain ⟨k, hk⟩ := s.hdPassed_frame o; rw [hk]
@[simp] theorem State.hdPassed_rcl : (s.hdPassed o).rcl = s.rcl := by
  obtain ⟨k, hk⟩ := s.hdPassed_frame o; rw [hk]
@[simp] theorem State.hdPassed_kv : (s.hdPassed o).kv = s.kv := by
  obtain ⟨k, hk⟩ := s.hdPassed_frame o; rw [hk]
@[simp] theorem State.hdPassed_fabric : (s.hdPassed o).fabric = s.fabric := by
  obtain ⟨k, hk⟩ := s.hdPassed_frame o; rw [hk]
@[simp] theorem State.hdPassed_globals : (s.hdPassed o).globals = s.globals := by
  obtain ⟨k, hk⟩ := s.hdPassed_frame o; rw [hk]
@[simp] theorem State.hdPassed_free : (s.hdPassed o).free = s.free := by
  obtain ⟨k, hk⟩ := s.hdPassed_frame o; rw [hk]
@[simp] theorem State.hdPassed_levelOf (e : Encoder) (a : Nat) : (s.hdPassed o).levelOf e a = s.levelOf e a := by
  obtain ⟨k, hk⟩ := s.hdPassed_frame o; rw [hk]; rfl
@[simp] theorem State.hdPassed_recordField (a : Nat) : (s.hdPassed o).recordField a = s.recordField a := by
  obtain ⟨k, hk⟩ := s.hdPassed_frame o; rw [hk]; rfl

/-- A result goes where the rules put it. -/
@[simp] theorem State.setHreg_eq (d : Fin 32) (x : BitVec 8192) (poison : Bool) : s.setHreg o d x poison = s.hdResult o d x poison := rfl
@[simp] theorem State.setHacc_eq (a : Fin 4) (x : HAcc) : s.setHacc o a x = s.hdSum o a x := rfl

/-- The settings by origin, as the encoders and records look them up. -/
theorem State.hdSettingsOf_eq : s.hdSettingsOf o = s.hdInForce o := by cases o <;> rfl

theorem State.encoders_inForce :
    (if o = .host then s.hd.settings.encoders else s.hd.listSettings.encoders) = (s.hdInForce o).encoders := by
  cases o <;> rfl

end

section
variable {s : State} {o : HdOrigin}

/-! ### Bundles (R329, R330) -/

/-- A bundle add is the sum that goes to the accumulator, with event 0x7012 where a counter saturates. -/
theorem State.bundleInto_eq (acc : Fin 4) (n : Nat) (x : BitVec 8192) (weight : Byte) (subtract poison : Bool) {b : HAcc × Bool}
    (hb : b = (s.hacc acc).bundle n x (if subtract then -(weight.toNat : Int) else weight.toNat) poison) :
    (s.hdPassed o).bundleInto o acc n x weight subtract poison =
      if b.2 then ((s.hdPassed o).hdSum o acc b.1).deviceEvent 0x7012 (originAux o) else (s.hdPassed o).hdSum o acc b.1 := by
  subst hb
  simp only [State.bundleInto, State.hdPassed_hacc, State.setHacc_eq]

/-- Bit i of one-bit elements put together. -/
theorem testBit_packNat_one (xs : List Nat) (i : Nat) : (packNat 1 xs).testBit i = decide (xs.getD i 0 % 2 = 1) := by
  induction xs generalizing i with
  | nil => simp [packNat]
  | cons e es ih =>
    cases i with
    | zero =>
      rw [packNat, Nat.testBit_zero, List.getD_cons_zero]
      exact decide_eq_decide.mpr (by omega)
    | succ i =>
      have hhalf : (e % 2 ^ 1 + 2 ^ 1 * packNat 1 es) / 2 = packNat 1 es := by omega
      rw [packNat, Nat.testBit_succ, hhalf, ih, List.getD_cons_succ]

theorem HdWidth.bits_le (w : HdWidth) : HdWidth.bits w ≤ 8192 := by cases w <;> decide

/-- The threshold dimension by dimension: the sign of the counter, or the tie vector (R330). -/
theorem HAcc.getLsbD_threshold (c : HAcc) (w : HdWidth) (tie : BitVec 8192) {i : Nat} (hi : i < HdWidth.bits w) :
    (c.threshold (HdWidth.bits w) tie).getLsbD i =
      if 0 < mget 0 c.counters i then true else if mget 0 c.counters i < 0 then false else tie.getLsbD i := by
  have hwide : i < 8192 := Nat.lt_of_lt_of_le hi (HdWidth.bits_le w)
  have hrange : i < (List.range (HdWidth.bits w)).length := by rwa [List.length_range]
  rw [HAcc.threshold, BitVec.getLsbD_ofNat, testBit_packNat_one, decide_eq_true hwide, Bool.true_and, List.getD_eq_getElem?_getD,
    List.getElem?_map, List.getElem?_range hi]
  by_cases hpos : 0 < mget 0 c.counters i
  · simp [hpos]
  · by_cases hneg : mget 0 c.counters i < 0
    · simp [hpos, hneg]
    · cases htie : tie.getLsbD i <;> simp [hpos, hneg, htie]

/-! ### Encoders (R334 to R338) -/

/-- What LEVEL writes, with the event of a value that poisons it (R334, R335). -/
theorem exec_level_of_readable {w : HdWidth} {d : Fin 32} {slot : Fin 16} {hbo : W32} {e : Encoder} {q : Nat} {bad free : Bool}
    (h : HdIssues s o (.level o w d slot hbo)) (hd : HdOrigin.regOk o d = true)
    (he : e = mget Encoder.zero (s.hdInForce o).encoders slot.val) (halign : hbo.toNat % e.bytes = 0)
    (hread : hdReadOk hbo.toNat e.bytes = true) (hlevel : s.levelOf e hbo.toNat = (q, bad, free)) :
    exec (.level o w d slot hbo) s = .next
      (let s1 := (s.hdPassed o).hdResult o d (e.level (s.hdInForce o) (HdWidth.bits w) q) bad
       let s2 := if bad then s1.deviceEvent 0x7011 (originAux o) else s1
       if free then s2.takeFree else s2) := by
  subst he
  rw [exec_level, execLevel]
  simp only [State.encoders_inForce]
  rw [hd_issues h (by simp [hd, halign, hread])]
  simp only [State.hdPassed_levelOf, hlevel, State.setHreg_eq]

/-- A NaN or a poisoned word has level 0, poisoned (R335). -/
theorem State.levelOf_of_bad {e : Encoder} {a : Nat}
    (hbad : fp32.decode (e.toFp (leNat (s.hub.read a e.bytes))) = .nan ∨ s.hub.anyPoison a e.bytes = true) :
    s.levelOf e a = (0, true, false) := by
  rw [State.levelOf]
  exact if_pos hbad

end

end Sys2Proof.Machine

namespace Sys2Proof
open Sys2Proof.Machine

/-- Settles O11: each command issues, and its result is formed from what the state held before. -/
theorem hdVectors : Obligations.HdVectors := by
  unfold Obligations.HdVectors
  intro s
  refine ⟨fun o h => ?nop, fun o w d id slot h hd hid => ?gen, fun o w d a b h hd ha hb => ?bind, fun o w d a h hd ha => ?not,
    fun o w d a h hd ha => ?copy, fun o w d a k h hd ha hk => ?rot, fun o w d a c inverse h hd ha => ?car,
    fun o w d hbo h hd halign hread => ?loadv, fun o w a hbo h ha halign hwrite => ?storev,
    fun o w d fmt hbo h hd halign hread => ?sign⟩
  case nop => rw [exec_hdNop, execHdNop, hd_issues h rfl]
  case gen => rw [exec_gen, execGen, hd_issues h (by simp [hd, hid]), State.setHreg_eq]
  case bind => rw [exec_bind, execBind, hd_issues h (by simp [hd, ha, hb])]; simp
  case not => rw [exec_not, execNot, hd_issues h (by simp [hd, ha])]; simp
  case copy => rw [exec_hdCopy, execHdCopy, hd_issues h (by simp [hd, ha])]; simp
  case rot => rw [exec_hdRot, execHdRot, hd_issues h (by simp [hd, ha, hk])]; simp
  case car => rw [exec_car, execCar, hd_issues h (by simp [hd, ha])]; simp
  case loadv => rw [exec_loadv, execLoadv, hd_issues h (by simp [hd, halign, hread])]; simp
  case storev => rw [exec_storev, execStorev, hd_issues h (by simp [ha, halign, hwrite])]; simp
  case sign => rw [exec_sign, execSign, hd_issues h (by simp [hd, halign, hread])]; simp

/-- Settles O12: a bundle by its counters, an encoder by the levels of its values. -/
theorem hdBundles : Obligations.HdBundles := by
  unfold Obligations.HdBundles
  intro s
  refine ⟨fun o acc h hacc => ?bclr, fun o w acc a weight subtract b h hacc ha hweight hb => ?badd,
    fun o w acc x y weight subtract b h hacc hx hy hweight hb => ?baddx,
    fun o w d slot hbo e q free h hd he halign hread hlevel => exec_level_of_readable h hd he halign hread hlevel,
    fun o w d slot hbo e h hd he halign hread hbad =>
      exec_level_of_readable h hd he halign hread (State.levelOf_of_bad hbad),
    fun o w d a acc m r h hd ha hlast hregs => ?seqBind,
    fun o w d a acc m r s1 h hd ha hlast hregs hacc hs1 hclean => ?seqBundle,
    fun o w d acc hbo h s1 bad free hissue hd hacc halign hread hh hfold => ?record⟩
  case bclr => rw [exec_bclr, execBclr, hd_issues h hacc, State.setHacc_eq]
  case badd =>
    rw [exec_badd, execBadd, hd_issues h (by simpa [hacc, ha] using hweight)]
    simp only [State.hdPassed_hreg, State.bundleInto_eq _ _ _ _ _ _ hb]
  case baddx =>
    rw [exec_baddx, execBaddx, hd_issues h (by simpa [hacc, hx, hy] using hweight)]
    simp only [State.hdPassed_hreg, State.bundleInto_eq _ _ _ _ _ _ hb]
  case seqBind =>
    rw [exec_seq, execSeq, hd_issues h (by simp [hd, ha, hlast, hregs])]
    simp
  case seqBundle =>
    rw [exec_seq, execSeq, hd_issues h (by simp [hd, ha, hlast, hregs, hacc])]
    simp only [State.hdPassed_hreg, State.setHacc_eq, State.setHreg_eq, if_true, hclean, Bool.false_eq_true, if_false, ← hs1]
  case record =>
    subst hh
    rw [exec_record, execRecord, hd_issues hissue (by simp [hd, hacc, halign, State.hdSettingsOf_eq, hread])]
    simp only [State.hdPassed_hub, State.hdPassed_recordField, State.setHacc_eq, State.setHreg_eq, hfold]

/-- Settles O13: the vector is the threshold of the accumulator, whose dimensions are known one by one. -/
theorem bundleThreshold : Obligations.BundleThreshold := by
  unfold Obligations.BundleThreshold
  intro s o w d acc h hd hacc
  refine ⟨(s.hacc acc).threshold (HdWidth.bits w) ((s.hdInForce o).tieVector (HdWidth.bits w)), ?_, ?_, fun i hi => ?_⟩
  · rw [exec_bthr, execBthr, hd_issues h (by simp [hd, hacc])]
    simp only [State.hdPassed_hacc, State.setHreg_eq]
  · exact s.hdPassed_hacc o acc
  · rw [HAcc.getLsbD_threshold _ _ _ hi]
    refine ⟨fun hpos => if_pos hpos, fun hneg => ?_, fun hzero => ?_⟩
    · rw [if_neg (by omega), if_pos hneg]
    · rw [if_neg (by omega), if_neg (by omega)]

/-- Settles O14: outputs, waits and triggers take the branch of their conditions; a list ends once nothing of it is left. -/
theorem hdTransfers : Obligations.HdTransfers := by
  unfold Obligations.HdTransfers
  intro s
  refine ⟨fun o w a tile row ts value t r h hroom ha hvalue hvalid htile hrow hr => ?outv, fun a r ha hr => ?outvWrite,
    fun o ts value h houtv hrecall hvalue => ?addg, fun o ts h => ?waitg,
    fun c n rest htrig hrun hqueue hwait => ?starts, fun c n m rest r htrig hrun hqueued hr => ?queued,
    fun c n rest htrig hrun hqueued => ?again, fun n hrun hwait hrecall hrest => ?ends, fun item hitem => ?rebuilt⟩
  case outv =>
    subst hr
    rw [exec_outv, execOutv, if_neg (by omega), hd_issues h (by simpa [ha, hvalid, htile, hrow] using hvalue)]
    simp only [htile, State.hdPassed_hreg, State.hdPassed_fabric]
    rfl
  case outvWrite =>
    subst hr
    rw [exec_outvWrite, execOutvWrite, State.writeOutv, ha]
  case addg =>
    rw [exec_addg, execAddg, houtv, hrecall, if_neg (by decide), hd_issues h (by simpa using hvalue)]
  case waitg =>
    obtain ⟨k, hk⟩ := s.hdPassed_frame o
    rw [exec_waitg, execWaitg, hd_issues h rfl, hk]
  case starts => simp [execListTrigger, htrig, hrun, hqueue, hwait, State.startList]
  case queued =>
    subst hr
    by_cases hm : m = n
    · simp [execListTrigger, htrig, hrun, hqueued, hm]
    · simp [execListTrigger, htrig, hrun, hqueued, hm]
  case again =>
    by_cases hagain : s.hd.again.contains n = true
    · simp only [exec_listTrigger, execListTrigger, htrig, hrun, hqueued, hagain, ne_eq, not_true_eq_false, if_false, if_true]
    · simp only [exec_listTrigger, execListTrigger, htrig, hrun, hqueued, hagain, ne_eq, not_true_eq_false, if_false, if_true]
      rfl
  case ends => simp [execListEnd, State.endList, hrun, hwait, hrecall, hrest]
  case rebuilt =>
    rw [exec_carouselRebuildComplete, execCarouselRebuildComplete, if_pos (List.contains_iff_mem.mpr hitem)]

end Sys2Proof
end

section
/-!
PROOF. O15, O16, O17, O18: the recall store. A command that the HD engine issues finds queues, cursors and memory as they were
(State.hdPassed_rcl, State.hdPassed_hub). O17 fails in its last clause: two writes of one bank leave another map than the one write
of the statement where the map is not in canonical form.
-/
namespace Sys2Proof.Machine

variable {s : State} {o : HdOrigin}

/-! ### Commands (R364 to R367) -/

theorem cursorReady_of_not_filling {c : Nat} (h : (s.cursor c).filling = false) : s.cursorReady c = true := by
  rw [State.cursorReady, h, Bool.not_false]

theorem updatesFull_of_room (h : s.rcl.updates.length < 64) : s.updatesFull = false := by
  rw [State.updatesFull, decide_eq_false_iff_not]
  omega

@[simp] theorem State.hdPassed_rbank (s : State) (o : HdOrigin) (b : Nat) : (s.hdPassed o).rbank b = s.rbank b := by
  rw [State.rbank, State.hdPassed_rcl, State.rbank]
@[simp] theorem State.hdPassed_cursor (s : State) (o : HdOrigin) (c : Nat) : (s.hdPassed o).cursor c = s.cursor c := by
  rw [State.cursor, State.hdPassed_rcl, State.cursor]
@[simp] theorem State.hdPassed_marked (s : State) (o : HdOrigin) (c : Cursor) (p : Nat) :
    (s.hdPassed o).marked c p = s.marked c p := by
  obtain ⟨k, hk⟩ := s.hdPassed_frame o; rw [hk]; rfl
@[simp] theorem State.hdPassed_stepRecord (s : State) (o : HdOrigin) (c : Cursor) (p : Nat) :
    (s.hdPassed o).stepRecord c p = s.stepRecord c p := by
  obtain ⟨k, hk⟩ := s.hdPassed_frame o; rw [hk]; rfl

section
variable {w : HdWidth} {a : Fin 32} {bank : Fin 16} {hbo : W32}

/-- INS with a place to read in a queue with room: refused for poison, then for a wrong width, else it joins the queue (R377). -/
theorem exec_ins_of_room (h : HdIssues s o (.ins o w a bank hbo)) (hroom : s.rcl.updates.length < 64)
    (ha : HdOrigin.regOk o a = true) (halign : hbo.toNat % 8 = 0) (hread : hdReadOk hbo.toNat 24 = true) :
    exec (.ins o w a bank hbo) s = .next
      (if (s.hreg a).poison || s.hub.anyPoison hbo.toNat 24 then (s.hdPassed o).refuseUpdate bank.val 3
      else if (s.rbank bank.val).width ≠ widthCode w then (s.hdPassed o).refuseUpdate bank.val 4
      else (s.hdPassed o).acceptUpdate (.ins bank { Entry.ofBytes (s.hub.read hbo.toNat 24) with
        key := lowDims (HdWidth.bits w) (s.hreg a).bits, state := 1 })) := by
  rw [exec_ins, execIns, updatesFull_of_room hroom, if_neg Bool.false_ne_true, hd_issues h (by simp [ha, halign, hread])]
  simp only [State.hdPassed_hreg, State.hdPassed_hub, State.hdPassed_rbank]

/-- UPD likewise, where its register counts only with a key (R364, R377). -/
theorem exec_upd_of_room {withKey : Bool} {pos : BitVec 14} (h : HdIssues s o (.upd o w a bank withKey pos hbo))
    (hroom : s.rcl.updates.length < 64) (ha : withKey = false ∨ HdOrigin.regOk o a = true) (halign : hbo.toNat % 8 = 0)
    (hread : hdReadOk hbo.toNat 24 = true) :
    exec (.upd o w a bank withKey pos hbo) s = .next
      (if (withKey && (s.hreg a).poison) || s.hub.anyPoison hbo.toNat 24 then (s.hdPassed o).refuseUpdate bank.val 3
      else if withKey && decide ((s.rbank bank.val).width ≠ widthCode w) then (s.hdPassed o).refuseUpdate bank.val 4
      else (s.hdPassed o).acceptUpdate (.upd bank pos.toNat
        (if withKey then some (lowDims (HdWidth.bits w) (s.hreg a).bits) else none)
        { Entry.ofBytes (s.hub.read hbo.toNat 24) with state := 1 })) := by
  have hreg : (!withKey || HdOrigin.regOk o a) = true := by
    rcases ha with ha | ha <;> simp [ha]
  rw [exec_upd, execUpd, updatesFull_of_room hroom, if_neg Bool.false_ne_true, hd_issues h (by simp [hreg, halign, hread])]
  simp only [State.hdPassed_hreg, State.hdPassed_hub, State.hdPassed_rbank]

end

theorem acceptUpdate_hdPassed (u : Update) :
    (s.hdPassed o).acceptUpdate u = { s.hdPassed o with rcl := { s.rcl with updates := s.rcl.updates ++ [u] } } := by
  rw [State.acceptUpdate, State.hdPassed_rcl]

/-! ### Searches (R358 to R363) -/

/-- The better of two hits: the lower distance, the earlier one where they are equal. -/
def betterHit (m : Option (Nat × Nat)) (x : Nat × Nat) : Option (Nat × Nat) :=
  match m with
  | none => some x
  | some y => if x.2 < y.2 then some x else some y

theorem bestOf_concat (xs : List (Nat × Nat)) (x : Nat × Nat) : bestOf (xs ++ [x]) = betterHit (bestOf xs) x :=
  List.foldl_concat ..

/-- What bestOf finds: nothing in an empty list, else the first of the elements with the lowest distance. -/
theorem bestOf_spec (xs : List (Nat × Nat)) :
    (bestOf xs = none ↔ xs = []) ∧
    ∀ p n, bestOf xs = some (p, n) → (∀ q ∈ xs, n ≤ q.2) ∧
      ∃ i, xs[i]? = some (p, n) ∧ ∀ (j : Nat) q, j < i → xs[j]? = some q → n < q.2 := by
  induction xs using List.reverseRecOn with
  | nil => exact ⟨⟨fun _ => rfl, fun _ => rfl⟩, fun p n h => nomatch h⟩
  | append_singleton xs x ih =>
    obtain ⟨hnone, hsome⟩ := ih
    rw [bestOf_concat]
    cases hbest : bestOf xs with
    | none =>
      have hnil : xs = [] := hnone.mp hbest
      subst hnil
      refine ⟨by simp [betterHit], fun p n h => ?_⟩
      simp only [betterHit, Option.some.injEq] at h
      subst h
      exact ⟨by simp, 0, rfl, fun j q hj => absurd hj (Nat.not_lt_zero j)⟩
    | some y =>
      obtain ⟨hle, i, hi, hfirst⟩ := hsome y.1 y.2 hbest
      have hlt : i < xs.length := (List.getElem?_eq_some_iff.mp hi).1
      refine ⟨⟨fun h => ?_, fun h => ?_⟩, fun p n h => ?_⟩
      · rw [betterHit] at h
        split at h <;> cases h
      · exact absurd h (by simp)
      · rw [betterHit] at h
        split at h
        next hx =>
          simp only [Option.some.injEq] at h
          subst h
          refine ⟨fun q hq => ?_, xs.length, by simp, fun j q hj hq => ?_⟩
          · rcases List.mem_append.mp hq with hq | hq
            · exact Nat.le_of_lt (Nat.lt_of_lt_of_le hx (hle q hq))
            · rw [List.mem_singleton.mp hq]
          · rw [List.getElem?_append_left hj] at hq
            exact Nat.lt_of_lt_of_le hx (hle q (List.mem_of_getElem? hq))
        next hx =>
          simp only [Option.some.injEq] at h
          subst h
          refine ⟨fun q hq => ?_, i, by rw [List.getElem?_append_left hlt]; exact hi, fun j q hj hq => ?_⟩
          · rcases List.mem_append.mp hq with hq | hq
            · exact hle q hq
            · rw [List.mem_singleton.mp hq]
              exact Nat.not_lt.mp hx
          · rw [List.getElem?_append_left (Nat.lt_trans hj hlt)] at hq
            exact hfirst j q hj hq

/-- The payload of the best match, 0 without one (R363). -/
def State.payOf (s : State) (best : Option (Nat × Nat)) : Nat :=
  match best.map fun p => (s.rbank (p.1 / 16384)).entry (p.1 % 16384) with
  | some e => e.pay
  | none => 0

/-- Hits computed with their distance, or filtered by it. -/
theorem filterMap_range_eq {α : Type} (xs : List α) (pos dist : α → Nat) (keep : α → Bool) (lo hi : Nat) :
    ((xs.filter keep).filterMap fun q => if lo ≤ dist q ∧ dist q ≤ hi then some (pos q, dist q) else none) =
      (xs.filter fun q => keep q && decide (lo ≤ dist q) && decide (dist q ≤ hi)).map fun q => (pos q, dist q) := by
  induction xs with
  | nil => rfl
  | cons x xs ih =>
    by_cases hk : keep x = true
    · by_cases hd : lo ≤ dist x ∧ dist x ≤ hi
      · simp [hk, hd, ih]
      · have hd' : (decide (lo ≤ dist x) && decide (dist x ≤ hi)) = false := by simpa using hd
        simp [hk, hd, hd', ih, Bool.and_assoc]
    · simp [hk, ih]

end Sys2Proof.Machine

namespace Sys2Proof
open Sys2Proof.Machine

/-- Settles O15: a command that finds room joins its queue, unless its source refuses it. -/
theorem recallCommands : Obligations.RecallCommands := by
  unfold Obligations.RecallCommands
  intro s
  refine ⟨fun o w a d mask cursor fill enables bestKey dmin dmax hbo r h hready hroom ha hd hc hmask hmin hmax halign hwrite hr => ?srch,
    fun o w bank pos hbo h hroom halign hwrite => ?rde,
    fun o w a bank hbo h hroom ha halign hread hclean hmem hwidth => ?ins,
    fun o w a bank hbo h hroom ha halign hread hbad => ?insPoison,
    fun o w a bank hbo h hroom ha halign hread hclean hmem hwidth => ?insWidth,
    fun o bank first countM1 h hroom => ?del,
    fun o w a bank withKey pos hbo h hroom ha halign hread hclean hmem hwidth => ?upd,
    fun o w a bank withKey pos hbo h hroom ha halign hread hbad => ?updPoison,
    fun o w a bank pos hbo h hroom ha halign hread hclean hmem hwidth => ?updWidth,
    fun o cursor h hready hc => ?cfree, fun o h => ?glist⟩
  case srch =>
    subst hr
    have hbest : (!bestKey || HdOrigin.regOk o d) = true := by rcases hd with hd | hd <;> simp [hd]
    have hwait : (!s.cursorReady cursor.val || decide (16 ≤ s.rcl.queries.length)) = false := by
      simp [cursorReady_of_not_filling hready, hroom]
    rw [exec_srch, execSrch, hwait, if_neg Bool.false_ne_true,
      hd_issues h (by simpa [ha, hbest, hc, hmin, hmax, halign, hwrite] using hmask)]
    simp only [State.hdPassed_hreg, State.hdPassed_rcl]
    rfl
  case rde =>
    rw [exec_rde, execRde, if_neg (by omega), hd_issues h (by simp [halign, hwrite])]
    simp only [State.hdPassed_rcl]
  case ins =>
    rw [exec_ins_of_room h hroom ha halign hread, hclean, hmem, if_neg (by decide), if_neg (not_not_intro hwidth),
      acceptUpdate_hdPassed]
  case insPoison =>
    have hpoison : ((s.hreg a).poison || s.hub.anyPoison hbo.toNat 24) = true := by rcases hbad with hb | hb <;> simp [hb]
    rw [exec_ins_of_room h hroom ha halign hread, if_pos hpoison, State.refuseUpdate]
  case insWidth =>
    rw [exec_ins_of_room h hroom ha halign hread, hclean, hmem, if_neg (by decide), if_pos hwidth, State.refuseUpdate]
  case del =>
    rw [exec_del, execDel, updatesFull_of_room hroom, if_neg Bool.false_ne_true, hd_issues h rfl, acceptUpdate_hdPassed]
  case upd =>
    have hfits : (withKey && decide ((s.rbank bank.val).width ≠ widthCode w)) = false := by
      rcases hwidth with hw | hw <;> simp [hw]
    rw [exec_upd_of_room h hroom ha halign hread, hclean, hmem, hfits, if_neg (by decide), if_neg Bool.false_ne_true,
      acceptUpdate_hdPassed]
  case updPoison =>
    have hpoison : ((withKey && (s.hreg a).poison) || s.hub.anyPoison hbo.toNat 24) = true := by
      rcases hbad with ⟨hk, hb⟩ | hb
      · simp [hk, hb]
      · simp [hb]
    rw [exec_upd_of_room h hroom ha halign hread, if_pos hpoison, State.refuseUpdate]
  case updWidth =>
    rw [exec_upd_of_room h hroom (.inr ha) halign hread, hclean, hmem, if_neg (by decide), if_pos (by simp [hwidth]),
      State.refuseUpdate]
  case cfree =>
    rw [exec_cfree, execCfree, cursorReady_of_not_filling hready, if_neg (by decide), hd_issues h hc, State.setCursor,
      State.hdPassed_rcl]
  case glist =>
    rw [exec_glist, execGlist, hd_issues h rfl]
    simp only [State.hdPassed_rcl, State.hdPassed_kv]

/-- Settles O16: steps and candidates are formed from the state that the command finds. -/
theorem cursorSteps : Obligations.CursorSteps := by
  unfold Obligations.CursorSteps
  intro s
  refine ⟨fun o cursor kM1 hbo c steps h hcursor hready hc halign hwrite hsteps => ?records,
    fun o cursor kM1 hbo c steps r dropped h hcursor hready hc halign hwrite hsteps hfold => ?gather,
    fun o cursor fill enables dmin dmax hbo numbers cands dirty s1 s2 h hready hc hmin hmax halign hwrite hnumbers hdirty hcands
      hs1 hs2 => ?deep⟩
  case records =>
    subst hcursor hsteps
    rw [exec_cstep, execCstep, cursorReady_of_not_filling hready, if_neg (by decide),
      hd_issues h (by simp [hc, halign, hwrite])]
    obtain ⟨k, hk⟩ := s.hdPassed_frame o
    rw [hk]
    rfl
  case gather =>
    subst hcursor hsteps
    rw [exec_cstep, execCstep, cursorReady_of_not_filling hready, if_neg (by decide),
      hd_issues h (by simp [hc, halign, hwrite])]
    simp only [State.hdPassed_marked, State.hdPassed_rcl, if_true, hfold, List.append_nil]
  case deep =>
    subst hs2 hs1 hcands hdirty hnumbers
    rw [exec_dcoll, execDcoll, cursorReady_of_not_filling hready, if_neg (by decide),
      hd_issues h (by simp [hc, hmin, hmax, halign, hwrite])]
    obtain ⟨k, hk⟩ := s.hdPassed_frame o
    rw [hk]
    rfl

/-- Banks 5 and 3 stand in falling order, so that the map is not in canonical form; the scan of bank 3 is at its last word. -/
def Tests.unsorted : State :=
  { State.reset with
    power := .run
    rcl := { State.reset.rcl with banks := [(5, RBank.init), (3, { RBank.init with scan := 573439 })] } }

/-- Entries of the map of banks that an outcome leaves. -/
def Tests.bankEntries : Host.Outcome State Fault Refusal → Nat
  | .next t => t.rcl.banks.length
  | _ => 0

/-- Refutes O17: its last clause, where the map of banks is not in canonical form. The step of the scan makes bank 3 of
Tests.unsorted equal to its default and so takes it from the map, and the count of the rewritten hole puts it back in front of bank 5;
the one write of the statement puts it there and leaves the old entry behind it. -/
theorem not_recallSlots : ¬ Obligations.RecallSlots := by
  unfold Obligations.RecallSlots
  intro h
  obtain ⟨-, -, -, -, -, -, -, -, -, hhole⟩ := h Tests.unsorted
  have hscan := hhole 3 { RBank.init with scan := 573439 } rfl rfl rfl
  have hentries : (2 : Nat) = 3 := congrArg Tests.bankEntries hscan
  exact absurd hentries (by decide)

/-- Settles O18: without poison, bad words and wrong banks the search is a filter of the banks, and the best of its hits is the first
of the nearest. -/
theorem searchHits : Obligations.SearchHits := by
  unfold Obligations.SearchHits
  intro s l o key w d mask cursor enables dmin dmax hbo banks hits hkey hranges hbanks hwidth hstate hhits
  refine ⟨?_, bestOf_spec hits⟩
  have hwrong : (((List.range 16).filter fun b => mask.getLsbD b).filter fun b => decide ((s.rbank b).width ≠ widthCode w)) = [] := by
    rw [List.filter_eq_nil_iff]
    intro b hb
    obtain ⟨hlt, hmask⟩ := List.mem_filter.mp hb
    simp [hwidth b (List.mem_range.mp hlt) hmask]
  have hused : (((List.range 16).filter fun b => mask.getLsbD b).filter
      fun b => decide ((s.rbank b).width = widthCode w) && (s.rbank b).enable) = banks := by
    rw [hbanks]
    refine List.filter_congr fun b hb => ?_
    obtain ⟨hlt, hmask⟩ := List.mem_filter.mp hb
    simp [hwidth b (List.mem_range.mp hlt) hmask]
  have hclean : ((s.searchSpace banks).any fun q => decide (q.2.state = 2#2)) = false := by
    rw [List.any_eq_false]
    exact fun q hq => by simpa using hstate q hq
  have hflags : bit (decide (2 ≤ hits.length)) 0 + bit false 1 + bit false 2 + bit false 3 = if 2 ≤ hits.length then 1 else 0 := by
    by_cases hmany : 2 ≤ hits.length <;> simp [bit, hmany]
  refine ⟨s.payOf (bestOf hits), ?_⟩
  simp only [State.serveQuery, hwrong, hused, hkey, hranges, filterMap_range_eq, ← hhits, List.contains_eq_mem, List.not_mem_nil,
    decide_false, Bool.not_false, Bool.and_true, Bool.false_eq_true, false_and, if_false, Bool.or_self, Bool.false_and,
    Bool.or_false, Bool.and_false, List.filter_false, List.map_nil, List.isEmpty_nil, Bool.not_true, List.foldl_nil,
    BitVec.ofNat_eq_ofNat, hclean, hflags]
  rfl

end Sys2Proof
end

section
/-!
PROOF. O25, O26, O52: power, current, heat, the limit of a phase, hold slots and droops (spec/14).
-/
namespace Sys2Proof.Machine

variable {s : State}

/-! ### Power and heat -/

theorem powered_iff : s.powered = true ↔ s.power ≠ .off := decide_eq_true_iff

theorem exec_estimatorTick_of_powered (h : s.powered = true) (acts : List Activity) {s1 : State}
    (hs1 : s1 = (allChannels.foldl (fun s ch => s.estimate acts ch) s).observeInterval.guardEstimate) :
    exec (.estimatorTick acts) s = .next
      (if s1.awake then forAll (s1.diesIn.filter fun d => (s1.die d).powered) State.moveFloor s1 else s1) := by
  subst hs1
  simp only [exec_estimatorTick, execEstimatorTick, h, Bool.not_true, Bool.false_eq_true, if_false]

/-- With a valid report the voltage of VIN is that of the first one, and the guard takes the measured current (R395, R405). -/
theorem exec_measurementSample_of_valid (h : s.powered = true) {reports : List RegReport} {r : RegReport} {rest : List RegReport}
    (hvalid : (reports.filter fun r => r.valid) = r :: rest) {s1 s2 : State}
    (hs1 : s1 = reports.foldl State.report { s with pwr := { s.pwr with vinMv := r.milliVolts } })
    (hs2 : s2 = s1.guardMeasured ((((r :: rest).map fun r => r.milliAmps).foldl (· + ·) 0 : Nat) / 1000)) :
    exec (.measurementSample reports) s = .next { s2 with pwr := { s2.pwr with target := s2.newTarget } } := by
  subst hs2 hs1
  simp only [exec_measurementSample, execMeasurementSample, h, hvalid, Bool.not_true, Bool.false_eq_true, if_false,
    List.head?_cons, List.isEmpty_cons]

theorem exec_measurementSample_of_invalid (h : s.powered = true) {reports : List RegReport}
    (hvalid : (reports.filter fun r => r.valid) = []) {s1 : State} (hs1 : s1 = reports.foldl State.report s) :
    exec (.measurementSample reports) s = .next { s1 with pwr := { s1.pwr with target := s1.newTarget } } := by
  subst hs1
  simp only [exec_measurementSample, execMeasurementSample, h, hvalid, Bool.not_true, Bool.false_eq_true, if_false,
    List.head?_nil, List.isEmpty_nil, if_true]

theorem exec_phaseLimitCompute_of_in (hawake : s.awake = true) {d : DieId} (hin : s.dieIn d = true) {phase : Byte} {n : Nat} {ok : Bool}
    (hlimit : s.phaseLimit d phase.toNat = (n, ok)) {s1 : State}
    (hs1 : s1 = (if ok then (s.modDie d fun x => { x with limits := mset 0 x.limits phase.toNat n })
      else (s.modDie d fun x => { x with limits := mset 0 x.limits phase.toNat n }).event 0x1010 (dieHandle d))) :
    exec (.phaseLimitCompute d phase) s =
      .next (if (s1.activePhases d).contains phase.toNat then s1.applyFt d else s1) := by
  subst hs1
  simp only [exec_phaseLimitCompute, execPhaseLimitCompute, hawake, hin, hlimit, Bool.not_true, Bool.or_self,
    Bool.false_eq_true, if_false]

/-- The number of a die from that of its regulator channel. -/
theorem dieOfChannel {ch : Nat} {d : DieId} (h : ch = d.val + 1) : (Fin.ofNat 16 (ch - 1) : DieId) = d := by
  subst h
  exact Fin.ext (Nat.mod_eq_of_lt d.isLt)

/-! ### The limit of a phase (R401) -/

/-- The first element of a falling list that passes a test is the largest one that does. -/
theorem find?_of_decreasing {xs : List Nat} (hxs : xs.Pairwise (· > ·)) {p : Nat → Bool} {n : Nat} (h : xs.find? p = some n) :
    n ∈ xs ∧ p n = true ∧ ∀ m ∈ xs, p m = true → m ≤ n := by
  refine ⟨List.mem_of_find?_eq_some h, List.find?_some h, fun m hm hpm => ?_⟩
  obtain ⟨-, as, bs, rfl, has⟩ := List.find?_eq_some_iff_append.mp h
  rcases List.mem_append.mp hm with hm | hm
  · exact absurd hpm (by simpa using has m hm)
  · rcases List.mem_cons.mp hm with rfl | hm
    · exact Nat.le_refl _
    · obtain ⟨-, htail, -⟩ := List.pairwise_append.mp hxs
      exact Nat.le_of_lt (List.rel_of_pairwise_cons htail hm)

/-- The limits from 16 down to the floor. -/
def limitsFrom (floor : Nat) : List Nat := (List.range 17).reverse.filter fun n => decide (floor ≤ n)

theorem mem_limitsFrom {floor n : Nat} : n ∈ limitsFrom floor ↔ floor ≤ n ∧ n ≤ 16 := by
  simp only [limitsFrom, List.mem_filter, List.mem_reverse, List.mem_range, decide_eq_true_eq]
  omega

theorem limitsFrom_decreasing (floor : Nat) : (limitsFrom floor).Pairwise (· > ·) :=
  List.Pairwise.filter _ (List.pairwise_reverse.mpr List.pairwise_lt_range)

/-! ### Hold slots and droops (R404, R406, R407) -/

/-- A change of one die alone. -/
theorem dieOnly_setDie (s : State) (d : DieId) (x : Die) : DieOnly s (s.setDie d x) d x := by
  refine ⟨mget_mset_same .., fun c hc => ?_, rfl⟩
  exact mget_mset_other _ _ _ _ _ (fun h => hc (Fin.ext h))

/-- The pattern of a limit repeats every 16 slots (R404). -/
theorem limitHolds_add (n base k : Nat) : limitHolds n (16 * base + k) = limitHolds n k := by
  rw [limitHolds, limitHolds, Nat.mul_add_mod]

theorem exec_droopSample_of_die (hawake : s.awake = true) {c : Fin 17} {d : DieId} (hc : c.val = d.val + 1)
    (hin : s.dieIn d = true) {mV : Nat} {x : Die} {low : Bool}
    (hdroop : (s.die d).droop (s.die d).clock mV (s.tableVoltage c.val) s.droopMargin = (x, low)) :
    exec (.droopSample c mV) s = .next (if low then (s.setDie d x).event 0x1020 (dieHandle d) else s.setDie d x) := by
  have hne : c.val ≠ 0 := by omega
  simp only [exec_droopSample, execDroopSample, hawake, hne, dieOfChannel hc, hin, hdroop, Bool.not_true, Bool.false_eq_true,
    if_false]

/-- A droop that starts: a hold slot follows, and more than 32 starts within 1 ms lower the limit (R406, R407). -/
theorem Die.droop_of_start {x : Die} {now v w margin : Nat} (hactive : x.droopActive = false) (hdead : x.droopDead = 0)
    (hlow : v + margin < w) {starts : List Nat}
    (hstarts : starts = (x.droopStarts.filter fun t => decide (now < t + 800000)) ++ [now]) :
    x.droop now v w margin =
      if 32 < starts.length then
        ({ x with droopActive := true, droopHold := 1, droopNext := true, droopStarts := []
                  nextDr := some (max 1 (x.limit - 2)) }, true)
      else ({ x with droopActive := true, droopHold := 1, droopNext := true, droopStarts := starts }, false) := by
  subst hstarts
  rw [Die.droop, hactive, if_neg Bool.false_ne_true, if_pos ⟨hdead, hlow⟩]

end Sys2Proof.Machine

namespace Sys2Proof
open Sys2Proof.Machine

/-- Settles O25: each command takes the branch of its conditions. -/
theorem powerAndHeat : Obligations.PowerAndHeat := by
  unfold Obligations.PowerAndHeat
  intro s
  refine ⟨fun acts s1 h hs1 => exec_estimatorTick_of_powered h acts hs1, fun hawake hlow hcur => ?rise,
    fun reports r rest s1 s2 h hvalid hs1 hs2 => exec_measurementSample_of_valid h hvalid hs1 hs2,
    fun reports s1 h hvalid hs1 => exec_measurementSample_of_invalid h hvalid hs1,
    fun s1 s2 s3 h hs1 hs2 hs3 => ?bin, fun ch h hfailed => ?fail, fun ch h hfailed => ?restore, fun h => ?save,
    fun d phase n ok s1 hawake hin hlimit hs1 => exec_phaseLimitCompute_of_in hawake hin hlimit hs1,
    fun readings s3 s4 s5 hawake hs3 hs4 hs5 => ?hub, fun d ch readings s3 s4 hawake hch hs3 hs4 => ?die,
    fun ch hpower hdoze => ?trip⟩
  case rise =>
    have hfull : decide (16 ≤ s.pwr.nCur) = false := decide_eq_false (by omega)
    have hnear : decide (s.currentLimit * 95 / 100 ≤ s.estimatedCurrent) = false := decide_eq_false (not_le.mpr hcur)
    rw [exec_currentLimitRise, execCurrentLimitRise, hawake, hfull, hnear, if_neg (by decide)]
  case bin =>
    simp only [exec_energyBin, execEnergyBin, h, hs3, hs2, hs1, Bool.not_true, Bool.false_eq_true, if_false]
  case fail =>
    rw [exec_measurementFail, execMeasurementFail, if_pos h, State.failChannel, hfailed, if_neg Bool.false_ne_true]
  case restore =>
    rw [exec_measurementRestore, execMeasurementRestore, h, hfailed, if_neg (by decide)]
  case save => rw [exec_coefficientSave, execCoefficientSave, if_pos h]
  case hub =>
    subst hs5 hs4 hs3
    have hzero : (0 : Fin 17).val = 0 := rfl
    simp only [exec_sensorSample, execSensorSample, State.heatFromHub, hawake, hzero, Bool.not_true, Bool.false_eq_true, if_false,
      if_true]
  case die =>
    subst hs4 hs3
    have hne : ch.val ≠ 0 := by omega
    simp only [exec_sensorSample, execSensorSample, hawake, hne, dieOfChannel hch, Bool.not_true, Bool.false_eq_true, if_false]
  case trip =>
    have hactive : ¬(s.power = .off ∨ s.power = .doze ∧ ch.val ≠ 0) := by
      rintro (hoff | ⟨hin, hne⟩)
      · exact hpower hoff
      · rcases hdoze with hd | hd
        · exact hd hin
        · exact hne (congrArg Fin.val hd)
    rw [exec_thermalTrip, execThermalTrip, if_neg hactive]

/-- Settles O26: the limits are tried from 16 down, so the first that fits is the largest. -/
theorem phaseLimit : Obligations.PhaseLimit := by
  unfold Obligations.PhaseLimit
  intro s d p share idle mean fits hmean hidle hshare hfits
  subst hshare hidle hmean
  have hsearch : s.phaseLimit d p =
      match (limitsFrom (s.setting 0x210004)).find? fun (n : Nat) => decide (s.idlePower (d.val + 1) +
          (s.phaseMean d p - s.idlePower (d.val + 1)) * (n : Rat) / 16 ≤
        (s.pwr.target - s.sharedPower 0 p - s.sharedPower 17 p) * s.phaseMean d p /
          sumRat (s.diesIn.map fun e => if e = d then s.phaseMean d p else s.dieMean e p)) with
      | some n => (n, true)
      | none => (s.setting 0x210004, false) := rfl
  rw [hsearch]
  refine ⟨fun n hn => ?_, fun n hn => ?_⟩
  · split at hn
    next k hfound =>
      cases hn
      obtain ⟨hmem, hfit, hmax⟩ := find?_of_decreasing (limitsFrom_decreasing _) hfound
      obtain ⟨hlow, hhigh⟩ := mem_limitsFrom.mp hmem
      refine ⟨(hfits n).mpr ⟨hlow, hhigh, of_decide_eq_true hfit⟩, fun m hm => ?_⟩
      obtain ⟨hmlow, hmhigh, hmfit⟩ := (hfits m).mp hm
      exact hmax m (mem_limitsFrom.mpr ⟨hmlow, hmhigh⟩) (decide_eq_true hmfit)
    next => cases hn
  · split at hn
    next => cases hn
    next hfound =>
      cases hn
      refine ⟨rfl, fun m hm => ?_⟩
      obtain ⟨hmlow, hmhigh, hmfit⟩ := (hfits m).mp hm
      have hnot := List.find?_eq_none.mp hfound m (mem_limitsFrom.mpr ⟨hmlow, hmhigh⟩)
      exact hnot (decide_eq_true hmfit)

/-- Settles O52: the pattern of a limit over one period of 16 slots, and the detector's first sample below the margin. -/
theorem holdSlots : Obligations.HoldSlots := by
  unfold Obligations.HoldSlots
  refine ⟨fun n base => ?pattern, fun s c mV hawake => ⟨fun hc hlow => ?hubDroop, fun hc hok => ?hubFine,
    fun d hc hin hactive hdead hlow starts hstarts => ?dieDroop, fun d hnext hdr => ?rise⟩⟩
  case pattern =>
    simp only [limitHolds_add]
    revert n
    decide
  case hubDroop =>
    rw [exec_droopSample, execDroopSample, hawake, if_neg (by decide), if_pos hc, if_pos hlow]
  case hubFine =>
    rw [exec_droopSample, execDroopSample, hawake, if_neg (by decide), if_pos hc, if_neg (Nat.not_lt.mpr hok)]
  case dieDroop =>
    have hstart := Die.droop_of_start hactive hdead hlow hstarts
    refine ⟨fun hfew => ?_, fun hmany => ?_⟩
    · rw [if_neg (Nat.not_lt.mpr hfew)] at hstart
      exact ⟨_, exec_droopSample_of_die hawake hc hin hstart, dieOnly_setDie ..⟩
    · rw [if_pos hmany] at hstart
      exact ⟨_, exec_droopSample_of_die hawake hc hin hstart, dieOnly_setDie ..⟩
  case rise =>
    have hrises : (s.die d).nextDr.isNone = true ∧ (s.die d).nDr < 16 := ⟨by rw [hnext]; rfl, hdr⟩
    exact ⟨_, congrArg Host.Outcome.next (if_pos hrises), dieOnly_setDie ..⟩

end Sys2Proof
end

section
/-!
PROOF. O23, O28, O36, O37: start-up and wakes (spec/20, spec/22), mark-outs, restarts and scrubs (spec/15), the loss of the P3 link
(R490), and the test access port (spec/21).
-/
namespace Sys2Proof.Machine

variable {s : State}

/-! ### Mark-outs and restarts (R421, R422, R432) -/

/-- While the ringmaster runs a die that is not out is marked out at once (R432). -/
theorem exec_dieMarkOut_of_in {d : DieId} {cause : Nat} (hpower : s.power ≠ .off) (hlow : 1 ≤ cause) (hhigh : cause ≤ 6)
    (hin : (s.die d).out = false) (hruns : s.svc.restarting = false) :
    exec (.dieMarkOut d cause) s = .next
      (let s0 := s.loseInFrame d
       let s1 := s0.modDie d fun x => { x with
         out := true, leaving := true, outMark := true, outCause := cause, outMinute := s0.svc.minutes, outAt := s0.now
         remapped := false, remapMinute := 0, remapMs := 0 }
       let s3 := ((s1.raise 0x8015 (dieHandle d) (eventParam cause 0) 0xFFFF).cancelTouching d).discardReaching d
       ({ s3 with prog := { s3.prog with contDue := s3.prog.contDue || decide (s3.power = PState.run) } } : State).selectAfterLoss d) := by
  have hcause : ¬(s.power = .off ∨ cause = 0 ∨ 6 < cause) := by
    rintro (hoff | hcause)
    · exact hpower hoff
    · omega
  rw [exec_dieMarkOut, execDieMarkOut, if_neg hcause]
  simp only [State.markOut, hin, hruns, Bool.false_eq_true, if_false]

/-- A restart of the ringmaster ends the authentications, and marks a firmware trial for reversion; the third within 10 minutes
fails the hub (R421, R422, R425). -/
theorem exec_ringmasterRestart_of_running (hpower : s.power ≠ .off) (hbooted : s.booted = true) (hruns : s.svc.restarting = false)
    {r u : State} (hr : r = s.endAuthentications)
    (hu : u = { r with svc := { r.svc with
      restarting := true, restarts := s.recentRestarts ++ [s.now],
      revertReq := if r.svc.trial then some 1 else r.svc.revertReq } }) :
    exec .ringmasterRestart s = .next (if 2 ≤ s.recentRestarts.length then u.failHub else u) := by
  have hgo : ¬(s.power = .off ∨ (!s.booted) = true ∨ s.svc.restarting = true) := by simp [hpower, hbooted, hruns]
  have hthird : 3 ≤ (s.recentRestarts ++ [s.now]).length ↔ 2 ≤ s.recentRestarts.length := by
    rw [List.length_append, List.length_singleton]
    omega
  subst hu hr
  rw [exec_ringmasterRestart, execRingmasterRestart, if_neg hgo]
  simp only [hthird]

/-! ### Cold starts -/

theorem exec_coldStart_of_reset (hpower : s.power = .off) (hvin : s.vin = true) (hporst : s.porst = true) (f : StartFindings) :
    exec (.coldStart f) s = .next (((s.releaseReset f).reportTrip.completeLevelThree).startIsland f) := by
  have hready : ¬(s.power ≠ .off ∨ (!s.vin) = true) := by simp [hpower, hvin]
  rw [exec_coldStart, execColdStart, if_neg hready, if_pos hporst]

/-! ### Process data of P3 -/

theorem exec_rxpdoReceive_of_op (hop : s.ecat.p3 = .op) (hloop : s.loopHolds 3 = false) (variant : Byte) (useVariant : Bool)
    (heartbeat : W16) :
    exec (.rxpdoReceive variant useVariant heartbeat) s = .next { s with
      ecat := { s.ecat with p3Link := true }
      prog := { s.prog with rxVariant := variant, useRx := useVariant, heartbeat := heartbeat } } := by
  have hready : ¬(s.ecat.p3 ≠ .op ∨ s.loopHolds 3 = true) := by simp [hop, hloop]
  rw [exec_rxpdoReceive, execRxpdoReceive, if_neg hready]

/-! ### The test access port (R576 to R579) -/

/-- An instruction of the port takes its effect where TEST_EN is sampled high and its own condition holds. -/
theorem tap_of_testable (hvin : s.vin = true) (htest : s.testable true = true) {allowed : Bool} (hallowed : allowed = true)
    (f : State → State) :
    s.tap true allowed f = { f s with
      porst := false, test := { (f s).test with testMode := true }, sec := { (f s).sec with safeN := true } } := by
  simp only [State.tap, State.tapAlive, hvin, htest, hallowed, Bool.not_true, Bool.false_eq_true, if_false, Bool.and_self, if_true]

/-- Elsewhere it acts as BYPASS. -/
theorem tap_of_not_testable (hvin : s.vin = true) {testEn : Bool} (htest : s.testable testEn = false) (allowed : Bool)
    (f : State → State) :
    s.tap testEn allowed f = { s with test := { s.test with ir := 0xFF, dataReg := 0 } } := by
  simp only [State.tap, State.tapAlive, hvin, htest, Bool.not_true, Bool.false_eq_true, if_false, Bool.false_and, Test.bypass]

end Sys2Proof.Machine

namespace Sys2Proof
open Sys2Proof.Machine

/-- Settles O23: the event touches the service records alone, so what the loss leaves is read off the state that raises it. -/
theorem servicePortLoss : Obligations.ServicePortLoss := by
  unfold Obligations.ServicePortLoss
  intro s
  refine ⟨_, rfl, ?segs, ?frame, ?prog, rfl, fun variant useVariant heartbeat hop hloop => ?rxpdo⟩
  case segs => rw [State.event, State.raise_ecat]
  case frame => rw [State.event, State.raise_frame]
  case prog => rw [State.event, State.raise_prog]
  case rxpdo => exact exec_rxpdoReceive_of_op hop hloop variant useVariant heartbeat

/-- Settles O28: each command takes the branch of its conditions. -/
theorem serviceActions : Obligations.ServiceActions := by
  unfold Obligations.ServiceActions
  intro s
  refine ⟨fun d cause hpower hlow hhigh hin hruns => exec_dieMarkOut_of_in hpower hlow hhigh hin hruns,
    fun r hpower hbooted hruns hfew hr => ?restart, fun r hpower hbooted hruns hmany hr => ?third, fun hrestarting => ?complete,
    fun cause r hpower hlow hhigh hr => ?hubFailure, fun htrial hreq => ?trial, fun hpower hruns hchanged => ?bootSet,
    fun word hawake hword => ?scrub⟩
  case restart => rw [exec_ringmasterRestart_of_running hpower hbooted hruns hr rfl, if_neg (by omega)]
  case third => rw [exec_ringmasterRestart_of_running hpower hbooted hruns hr rfl, if_pos hmany]
  case complete =>
    rw [exec_ringmasterRestartComplete, execRingmasterRestartComplete, hrestarting, if_neg (by decide)]
  case hubFailure =>
    have hcause : ¬(s.power = .off ∨ cause = 0 ∨ 3 < cause) := by
      rintro (hoff | hcause)
      · exact hpower hoff
      · omega
    subst hr
    rw [exec_hubFailure, execHubFailure, if_neg hcause, State.failHub]
  case trial =>
    rw [exec_firmwareTrialTimeout, execFirmwareTrialTimeout, htrial, hreq, if_neg (by decide)]
  case bootSet =>
    rw [exec_bootSetPeriodicWrite, execBootSetPeriodicWrite, if_neg]
    simp [hpower, hruns, hchanged]
  case scrub =>
    have hinside : decide (0x200000000 ≤ word) = false := decide_eq_false (by omega)
    constructor
    · rw [exec_scrub, execScrub, hawake, hinside, if_neg (by decide)]
    · rw [exec_scrub, execScrub, hawake, hinside, if_pos (by decide)]

/-- Settles O36: resets, starts and wakes take the branch of their conditions. -/
theorem startUp : Obligations.StartUp := by
  unfold Obligations.StartUp
  intro s
  refine ⟨fun r hr => ?porst, fun f hpower hvin hporst => exec_coldStart_of_reset hpower hvin hporst f,
    fun ok ms s1 hpower hdue hs1 => ?restore, fun hpower => ?undervoltage, fun hpower => ?undervoltageOff, fun hvin => ?vinApply,
    fun p hpower hstill hp => ?wakeEdge, fun p s2 s3 hpower htoward hs2 hs3 => ?wake⟩
  case porst => subst hr; rw [exec_porstNAssert, execPorstNAssert]
  case restore =>
    subst hs1
    rw [exec_bootSetRestore, execBootSetRestore, if_neg hpower, hdue]
  case undervoltage => rw [exec_vinUndervoltage, execVinUndervoltage, if_neg hpower]
  case undervoltageOff => rw [exec_vinUndervoltage, execVinUndervoltage, if_pos hpower]
  case vinApply => rw [exec_vinApply, execVinApply, hvin, if_neg Bool.false_ne_true]
  case wakeEdge =>
    subst hp
    rw [exec_wakeNEdge, execWakeNEdge, if_neg]
    simp [hpower, hstill]
  case wake =>
    subst hs3 hs2
    rw [exec_dozeWake, execDozeWake, hpower, htoward]

/-- Settles O37: the instructions of the port share their condition, and differ in what they do where it holds. -/
theorem testPort : Obligations.TestPort := by
  unfold Obligations.TestPort
  intro s
  refine ⟨fun hvin => ⟨?idcode, ?bypass⟩, fun hvin htest => ?extest, fun hvin htest => ?sample, fun hvin htest => ?clamp,
    fun hvin htest => ?highz, fun d answers hvin htest hkeys => ?wsel, fun mask hvin htest hkeys => ?mbist,
    fun testEn d answers mask hvin htest => ?elsewhere, fun failBits m hm => ?complete⟩
  case idcode => rw [exec_idcode, execIdcode, State.tapAlive, if_pos hvin]
  case bypass => rw [exec_bypass, execBypass, State.tapAlive, if_pos hvin, Test.bypass]
  case extest => rw [exec_extest, execExtest, tap_of_testable hvin htest rfl]; rfl
  case sample => rw [exec_samplePreload, execSamplePreload, tap_of_testable hvin htest rfl]; rfl
  case clamp => rw [exec_clamp, execClamp, tap_of_testable hvin htest rfl]
  case highz => rw [exec_highz, execHighz, tap_of_testable hvin htest rfl]
  case wsel => rw [exec_wsel, execWsel, tap_of_testable hvin htest hkeys]; rfl
  case mbist => rw [exec_mbist, execMbist, tap_of_testable hvin htest hkeys]
  case elsewhere =>
    simp only [exec_extest, execExtest, exec_samplePreload, execSamplePreload, exec_clamp, execClamp, exec_highz, execHighz,
      exec_wsel, execWsel, exec_mbist, execMbist, tap_of_not_testable hvin htest]
    rfl
  case complete => rw [exec_mbistComplete, execMbistComplete, hm]

end Sys2Proof
end

section
/-!
PROOF. O33, O34: authentication, sessions, image keys and attestation (R445 to R459), self-tests, alarms, zeroisation and enrolment
(R448, R460 to R466).
-/
namespace Sys2Proof.Machine

variable {s : State} {c : Channel}

/-! ### The checks of the roles -/

/-- A working module whose channel holds the role User passes the check of the sessions and the image keys. -/
theorem notUserRole_of_user (hworks : s.sec.working = true) (huser : (s.auth c).role = some .user) :
    s.notUserRole c = (false, 0x08000022) := by
  rw [State.notUserRole, hworks, huser]
  rfl

theorem notOfficer_of_isOfficer (hofficer : s.isOfficer c = true) : s.notOfficer c = (false, 0x08000022) := by
  rw [State.notOfficer, hofficer, Bool.not_true]

/-! ### Authentication (R445, R446) -/

/-- A channel that is not locked and holds a challenge takes an authentication. -/
theorem authenticates_of_challenge (hworks : s.sec.working = true) (hnonce : (s.auth c).nonce.isSome = true)
    (hunlocked : (s.auth c).locked = false) : (s.sec.working && (s.auth c).nonce.isSome && !(s.auth c).locked) = true := by
  rw [hworks, hnonce, hunlocked]
  rfl

/-- Good signatures for the anchor of the role give the channel the role. -/
theorem exec_authenticate_of_good (ht : Takes s c) (hworks : s.sec.working = true) (hnonce : (s.auth c).nonce.isSome = true)
    (hunlocked : (s.auth c).locked = false) {role : Role} (hanchor : (s.anchorOf role).isSome = true) :
    exec (.authenticate c role true) s =
      .next ((s.setAuth c { s.auth c with role := some role, nonce := none, failures := 0 }).answer c 0 []) := by
  simp only [exec_authenticate, execAuthenticate, authenticates_of_challenge hworks hnonce hunlocked, hanchor, Bool.and_true,
    Bool.not_true, Bool.and_false, Bool.false_eq_true, if_false]
  exact congrArg Host.Outcome.next (request_ok ht rfl)

/-- Bad ones are a failure of the channel. -/
theorem exec_authenticate_of_bad (ht : Takes s c) (hworks : s.sec.working = true) (hnonce : (s.auth c).nonce.isSome = true)
    (hunlocked : (s.auth c).locked = false) (role : Role) :
    exec (.authenticate c role false) s =
      .next (((s.setAuth c (s.auth c).fail).event 0x6014 deviceHandle).answer c 0x08000022 []) := by
  obtain ⟨⟨hserves, hruns⟩, hwhole⟩ := ht
  simp only [exec_authenticate, execAuthenticate, authenticates_of_challenge hworks hnonce hunlocked, hserves, hruns, hwhole,
    Bool.false_and, Bool.not_false, Bool.and_true, if_true]

/-! ### Locks and enrolment (R448, R463, R466) -/

/-- A locked module whose last excursion is 60 s old returns to operation: its state changes, which vector 3 signals. -/
theorem exec_clearLock_of_quiet (ht : Takes s c) (hofficer : s.isOfficer c = true) (hlocked : s.sec.state = .locked)
    (hquiet : s.sec.lastExcursion = none ∨ ∃ t, s.sec.lastExcursion = some t ∧ t + 48000000000 ≤ s.now) :
    exec (.clearLock c) s = .next (((({ s with sec := { s.sec with state := .operational, alarm := 0 } } : State).event
      0x6012 deviceHandle).vector 3).answer c 0 []) := by
  have htaken : exec (.clearLock c) s = .next (((({ s with sec := { s.sec with state := .operational, alarm := 0 } } : State).event
      0x6012 deviceHandle).moduleFrom s).answer c 0 []) := by
    refine congrArg Host.Outcome.next (request_ok ht ?_)
    obtain hnone | ⟨t, hsome, hlong⟩ := hquiet
    · simp [notOfficer_of_isOfficer hofficer, hlocked, hnone]
    · simp [notOfficer_of_isOfficer hofficer, hlocked, hsome, hlong]
  rw [htaken, State.moduleFrom, if_neg]
  rw [State.event, State.raise_sec, hlocked]
  exact MState.noConfusion

/-- The states and generations that an enrolment asks for. -/
theorem enrolment_offered (hstate : s.sec.state = .unprovisioned ∨ s.sec.state = .zeroised) (hgen : s.sec.nextGeneration ≤ 3)
    (hfree : s.sec.disabled.contains s.sec.nextGeneration = false) :
    ((decide (s.sec.state = .unprovisioned) || decide (s.sec.state = .zeroised)) && decide (s.sec.nextGeneration ≤ 3) &&
      !s.sec.disabled.contains s.sec.nextGeneration) = true := by
  rw [hfree, decide_eq_true hgen, ← Bool.decide_or, decide_eq_true hstate]
  rfl

end Sys2Proof.Machine

namespace Sys2Proof
open Sys2Proof.Machine

/-- Settles O33: every check of the access passes, so that it has its effect; only a failed authentication answers by itself. -/
theorem authentication : Obligations.Authentication := by
  unfold Obligations.Authentication
  intro s
  refine ⟨fun c hs hworks hunlocked => congrArg Host.Outcome.next (fetch_ok hs ?challenge),
    fun c role ht hworks hnonce hunlocked hanchor => exec_authenticate_of_good ht hworks hnonce hunlocked hanchor,
    fun c role a ht hworks hnonce hunlocked ha => ?bad,
    fun c ht hrole => congrArg Host.Outcome.next (request_ok ht ?logout),
    fun c => rfl,
    fun c hlocked => congrArg Host.Outcome.next (if_pos hlocked),
    fun c hs hworks huser => congrArg Host.Outcome.next (fetch_ok hs ?sessionOpen),
    fun c x ht hworks huser hlen hopen => congrArg Host.Outcome.next (request_ok ht ?ciphertext),
    fun c k ht hworks huser hunlocked hkey hfew hnew => ?keyImport,
    fun c k ht hworks huser => congrArg Host.Outcome.next (request_ok ht ?delete),
    fun c nonce hs => congrArg Host.Outcome.next (requestOpen_ok hs rfl)⟩
  case challenge => simp [State.notWorking, hworks, hunlocked]
  case bad =>
    rw [exec_authenticate_of_bad ht hworks hnonce hunlocked, Auth.fail, hunlocked, Bool.false_or, ha]
  case logout => simp [hrole]
  case sessionOpen => simp [notUserRole_of_user hworks huser]
  case ciphertext => simp [notUserRole_of_user hworks huser, hlen, hopen]
  case keyImport =>
    rw [exec_imageKeyImport, execImageKeyImport, request_ok ht]
    · simp only [hnew, Bool.false_eq_true, if_false]
    · simp [notUserRole_of_user hworks huser, hunlocked, hkey, Nat.not_le.mpr hfew]
  case delete => simp [notUserRole_of_user hworks huser]

/-- Settles O34: each command takes the branch of its state, and a taken one has its effect. -/
theorem island : Obligations.Island := by
  unfold Obligations.Island
  intro s
  refine ⟨fun c ok ht => congrArg Host.Outcome.next (request_ok ht rfl),
    fun ok hpower => congrArg Host.Outcome.next (if_neg hpower),
    fun ok hpower herror => congrArg Host.Outcome.next (if_neg ?retry),
    fun c r ht hofficer hlocked hquiet hr => hr ▸ exec_clearLock_of_quiet ht hofficer hlocked hquiet,
    fun c ht hofficer => congrArg Host.Outcome.next (request_ok ht ?zeroise),
    fun c ht hofficer hfloor => congrArg Host.Outcome.next (request_ok ht ?floor),
    fun c key ht hofficer => congrArg Host.Outcome.next (request_ok ht ?officerAnchor),
    fun c key ht hofficer => congrArg Host.Outcome.next (request_ok ht ?userAnchor),
    fun c k key ht hofficer => congrArg Host.Outcome.next (request_ok ht ?ownerAnchor),
    fun c token s1 hs hstate hgen hfree htoken hs1 => ?enrol,
    fun c token hs hstate hgen hfree htoken => ?refuse,
    fun sensor time cause hpower hcause => ?levelThree,
    fun sensor time hpower hcause => ?excursion,
    fun sensor time cause hpower hcause hlatched => ?latch,
    fun sensor hpower hexcursion => congrArg Host.Outcome.next (if_neg ?lasting)⟩
  case retry => simp [hpower, herror]
  case zeroise | officerAnchor | userAnchor | ownerAnchor => simp [notOfficer_of_isOfficer hofficer]
  case floor => simp [notOfficer_of_isOfficer hofficer, hfloor]
  case enrol =>
    simp only [exec_enrolment, execEnrolment, enrolment_offered hstate hgen hfree, htoken, Bool.not_true, Bool.and_false,
      Bool.false_eq_true, if_false, hs1]
    exact congrArg Host.Outcome.next (requestOpen_ok hs rfl)
  case refuse =>
    obtain ⟨hserves, hruns⟩ := hs
    simp only [exec_enrolment, execEnrolment, enrolment_offered hstate hgen hfree, htoken, hserves, hruns, Bool.not_false,
      Bool.and_true, if_true]
  case levelThree => simp only [exec_tamperExcursion, execTamperExcursion, hpower, if_false, hcause]
  case excursion => simp only [exec_tamperExcursion, execTamperExcursion, hpower, if_false, hcause]
  case latch => simp only [exec_tamperExcursion, execTamperExcursion, hpower, if_true, hcause, hlatched]
  case lasting => simp [hpower, hexcursion]

end Sys2Proof
end

section
/-!
PROOF. O35: the PCIe endpoint (spec/19, R519 to R535): its registers and windows, its queues, its resets and its link.
-/
namespace Sys2Proof.Machine

variable {s : State}

/-! ### The windows (R520, R521, R532) -/

/-- The range of the windows holds no place of the MSI-X table. -/
theorem msixWritable_of_window {o : Nat} (ho : 0x400000 ≤ o) (n : Nat) : msixWritable o n = false := by
  have hpast : decide (o + n ≤ 0x100080) = false := decide_eq_false (by omega)
  rw [msixWritable, hpast, Bool.and_false, Bool.false_and, Bool.false_and]

/-- The MSI-X table stands behind the registers. -/
theorem msixWritable_offset {o n : Nat} (h : msixWritable o n = true) : 0x100000 ≤ o := by
  simp only [msixWritable, Bool.and_eq_true, decide_eq_true_eq] at h
  obtain ⟨⟨⟨hlow, -⟩, -⟩, -⟩ := h
  exact hlow

theorem exec_bar0WindowWrite_register (hup : s.endpointUp = true) {offset : Nat} {data : List Byte} (hreg : offset < 0x100000)
    (haligned : offset % 4 = 0) (hlen : data.length = 4) :
    exec (.bar0WindowWrite offset data) s = .next (s.writeRegister offset (leNat data)) := by
  simp only [exec_bar0WindowWrite, execBar0WindowWrite, hup, Bool.not_true, Bool.false_eq_true, if_false, hreg, if_true, haligned,
    ne_eq, not_true_eq_false, hlen]

theorem exec_bar0WindowWrite_msix (hup : s.endpointUp = true) {offset : Nat} {data : List Byte}
    (hmsix : msixWritable offset data.length = true) :
    exec (.bar0WindowWrite offset data) s = .next { s with pcie := s.pcie.writeMsix (offset - 0x100000) data } := by
  have hpast : ¬offset < 0x100000 := Nat.not_lt.mpr (msixWritable_offset hmsix)
  simp only [exec_bar0WindowWrite, execBar0WindowWrite, hup, Bool.not_true, Bool.false_eq_true, if_false, hpast, hmsix, if_true]

theorem exec_bar0WindowWrite_window (hup : s.endpointUp = true) {offset : Nat} {data : List Byte} (hlow : 0x400000 ≤ offset)
    (hhigh : offset + data.length ≤ 0x800000) :
    exec (.bar0WindowWrite offset data) s =
      .next (if windowWritable offset data.length then { s with hub := s.hub.write offset data } else s.countDrop) := by
  have hpast : ¬offset < 0x100000 := by omega
  have hinside : ¬(offset < 0x400000 ∨ 0x800000 < offset + data.length) := by omega
  simp only [exec_bar0WindowWrite, execBar0WindowWrite, hup, Bool.not_true, Bool.false_eq_true, if_false, hpast,
    msixWritable_of_window hlow, hinside]

/-- A BAR2 access inside the window is not discarded. -/
theorem bar2_within (hup : s.endpointUp = true) {addr n : Nat} (hin : addr + n ≤ 0x1000000000) :
    (!s.endpointUp || decide (0x1000000000 < addr + n)) = false := by
  simp [hup, Nat.not_lt.mpr hin]

/-! ### The link (R533, R535) -/

/-- The conditions under which training ends with the link up. -/
theorem pcieLinkUp_trains (hpower : s.power ≠ .off) (hperst : s.pcie.perst = false) (hloop : s.loopHolds 8 = false) {rate width : Nat}
    (hlow : 1 ≤ rate) (hhigh : rate ≤ 5) (hwidth : [1, 2, 4, 8].contains width = true) :
    ¬(s.power = .off ∨ s.pcie.perst = true ∨ s.loopHolds 8 = true ∨ rate = 0 ∨ 5 < rate ∨
      (!([1, 2, 4, 8].contains width)) = true) := by
  rw [hperst, hloop, hwidth]
  rintro (hoff | hheld | hheld | hzero | hfast | hwide)
  · exact hpower hoff
  · exact Bool.false_ne_true hheld
  · exact Bool.false_ne_true hheld
  · omega
  · omega
  · exact Bool.false_ne_true hwide

end Sys2Proof.Machine

namespace Sys2Proof
open Sys2Proof.Machine

/-- Settles O35: each command takes the branch of its conditions. -/
theorem endpoint : Obligations.Endpoint := by
  unfold Obligations.Endpoint
  intro s
  refine ⟨fun offer m hup hm => ?enable, fun offer hup hm => ?refuse,
    fun hup => ⟨congrArg Host.Outcome.next (if_pos hup), congrArg Host.Outcome.next (if_pos hup)⟩,
    fun tail hq => congrArg Host.Outcome.next (if_pos hq),
    fun tail hq => congrArg Host.Outcome.next (if_pos hq),
    fun head hq => ⟨?hdCompletions, ?mailboxCompletions⟩,
    fun tail hq hver => congrArg Host.Outcome.next (if_pos ?hints),
    fun r hq hr => ?copy, fun head k q hq hslot => ?acknowledge,
    fun addr data hup hin hallowed => ⟨?bar2Write, ?bar2Read⟩,
    fun addr data hup hin hrefused => ?bar2Refuse,
    fun offset data hup hlow hhigh => exec_bar0WindowWrite_window hup hlow hhigh,
    fun offset data hup hreg haligned hlen => exec_bar0WindowWrite_register hup hreg haligned hlen,
    fun offset data hup hmsix => exec_bar0WindowWrite_msix hup hmsix,
    fun hperst hpower => ?perst, rfl,
    fun rate width hpower hawake hperst hloop hlow hhigh hwidth => ?linkUp,
    fun hup => ?linkLoss, fun hup hawake => ?downgrade⟩
  case enable => rw [exec_pcieEnable, execPcieEnable, if_pos hup, State.enableQueues, hm]
  case refuse => rw [exec_pcieEnable, execPcieEnable, if_pos hup, State.enableQueues, hm]
  case hdCompletions =>
    rw [exec_completionQueueDoorbell, execCompletionQueueDoorbell, hq]
    rfl
  case mailboxCompletions =>
    rw [exec_completionQueueDoorbell, execCompletionQueueDoorbell, hq]
    rfl
  case hints => simp [hq, hver]
  case copy =>
    subst hr
    rw [exec_eventQueueCopy, execEventQueueCopy, hq]
    rfl
  case acknowledge =>
    simp only [exec_eventDoorbell, execEventDoorbell, hq, Bool.not_true, Bool.false_eq_true, if_false, hslot, State.setHostIndex]
    rw [show queueLength 5 = 1024 from rfl, Nat.mod_mod]
  case bar2Write =>
    simp only [exec_bar2Access, execBar2Access, bar2_within hup hin, hallowed, Bool.false_eq_true, if_false, if_true]
  case bar2Read =>
    simp only [exec_bar2Access, execBar2Access, bar2_within hup hin, hallowed, Bool.false_eq_true, if_false]
  case bar2Refuse =>
    simp only [exec_bar2Access, execBar2Access, bar2_within hup hin, Bool.false_eq_true, if_false, hrefused, if_true, State.countDrop]
  case perst =>
    rw [exec_perstNAssert, execPerstNAssert, hperst]
    exact congrArg Host.Outcome.next (if_neg hpower)
  case linkUp =>
    rw [exec_pcieLinkUp, execPcieLinkUp, if_neg (pcieLinkUp_trains hpower hperst hloop hlow hhigh hwidth)]
    exact congrArg Host.Outcome.next (if_neg hawake)
  case linkLoss =>
    rw [exec_pcieLinkLoss, execPcieLinkLoss, hup]
    rfl
  case downgrade =>
    rw [exec_pcieLinkLoss, execPcieLinkLoss, hup]
    exact congrArg Host.Outcome.next (if_neg hawake)

end Sys2Proof
end

section
/-!
PROOF. O22: the service port and its dictionary (R437, R438, R452, R469, R487 to R496, R517): the reads and writes that the address
refuses, the setting 0x2E00:02 and plain settings, FoE, and the network configuration.
-/
namespace Sys2Proof.Machine

variable {s : State} {c : Channel}

/-! ### Accesses that the address refuses (R492, R494) -/

/-- What forbids a read ends it with its abort code. -/
theorem exec_sdoAccess_upload_abort (hs : Serves s c) {a : ObjAddr} (habort : s.uploadAbort c a.index.toNat a.sub.toNat ≠ 0) :
    exec (.sdoAccess c a .upload) s = .next (s.answer c (s.uploadAbort c a.index.toNat a.sub.toNat) []) := by
  rw [exec_sdoAccess, execSdoAccess, State.access, State.upload, if_pos habort, fetch_abort hs rfl]

/-- What forbids a write ends it with its abort code, for the objects that a level-3 alarm leaves open as for the others. -/
theorem exec_sdoAccess_download_abort (ht : Takes s c) {a : ObjAddr} {b : List Byte}
    (habort : s.downloadAbort c a.index.toNat a.sub.toNat b.length ≠ 0) :
    exec (.sdoAccess c a (.download b)) s = .next (s.answer c (s.downloadAbort c a.index.toNat a.sub.toNat b.length) []) := by
  obtain ⟨hs, -⟩ := id ht
  rw [exec_sdoAccess, execSdoAccess, State.access, State.download, if_pos habort, requestOpen_abort hs rfl, request_abort ht rfl,
    ite_self]

/-! ### Settings (R496) -/

/-- A setting takes a value that its range allows. -/
theorem writeSetting_ok (ht : Takes s c) {k v : Nat} (hvalue : s.settingAbort k v = 0) :
    s.writeSetting c k v = ((s.settingEffect k v).acceptSetting k v).answer c 0 [] := by
  rw [State.writeSetting]
  exact request_ok ht (by simp [hvalue])

/-- Another value ends the write with its abort code. -/
theorem writeSetting_abort (ht : Takes s c) {k v : Nat} (hvalue : s.settingAbort k v ≠ 0) :
    s.writeSetting c k v = s.answer c (s.settingAbort k v) [] := by
  rw [State.writeSetting]
  exact request_abort ht (List.find?_cons_of_pos (decide_eq_true hvalue))

/-- A write that reaches a plain setting outside the event group is a write of that setting. -/
theorem download_plain {ix sub : Nat} {b : List Byte} (hfree : s.downloadAbort c ix sub b.length = 0)
    (hwindow : windowIndex ix = false) (hgroup : ix / 256 ≠ 0x2E) (hplain : s.writeSpecial c (ix * 256 + sub) b = none)
    (hrange : (s.settingRange (ix * 256 + sub)).isSome = true) :
    s.download c ix sub b = s.writeSetting c (ix * 256 + sub) (leNat b) := by
  simp only [State.download, hfree, ne_eq, not_true_eq_false, if_false, hwindow, Bool.false_eq_true, hplain, hgroup,
    decide_false, hrange, if_true]

/-! ### The event mask 0x2E00:02 (R513) and the unlisted 0x2FFF -/

theorem addressAbort_eventMask (s : State) (c : Channel) : s.addressAbort c 0x2E00 2 = 0 := by
  have hwindow : windowIndex 0x2E00 = false := by decide
  have hrevision : revisionFive 0x2E00 = false := by decide
  have hlisted : indexListed 0x2E00 = true := by decide
  have hspec : objectSpec 0x2E00 2 = rwObj 2 := rfl
  simp [State.addressAbort, hwindow, hrevision, hlisted, hspec, rwObj]

theorem specAt_eventMask : specAt 0x2E00 2 = ⟨.rw, some 2⟩ := rfl

theorem uploadAbort_eventMask (s : State) (c : Channel) : s.uploadAbort c 0x2E00 2 = 0 := by
  rw [State.uploadAbort, addressAbort_eventMask, specAt_eventMask]
  rfl

theorem downloadAbort_eventMask (s : State) (c : Channel) : s.downloadAbort c 0x2E00 2 2 = 0 := by
  rw [State.downloadAbort, addressAbort_eventMask, specAt_eventMask]
  rfl

theorem readObject_eventMask (s : State) (c : Channel) : s.readObject c 0x2E00 2 = leBytes 2 (s.accepted 0x2E0002) := rfl

theorem packNat_lt (w : Nat) (xs : List Nat) : packNat w xs < 2 ^ (w * xs.length) := by
  induction xs with
  | nil => simp [packNat]
  | cons x xs ih =>
    have hx : x % 2 ^ w < 2 ^ w := Nat.mod_lt _ (Nat.two_pow_pos w)
    rw [packNat, List.length_cons, Nat.mul_succ, Nat.add_comm (w * xs.length), Nat.pow_add]
    calc x % 2 ^ w + 2 ^ w * packNat w xs
        < 2 ^ w * (packNat w xs + 1) := by rw [Nat.mul_succ]; omega
      _ ≤ 2 ^ w * 2 ^ (w * xs.length) := Nat.mul_le_mul_left _ ih

/-- n bytes hold a number below 256^n. -/
theorem leNat_lt (b : List Byte) : leNat b < 2 ^ (8 * b.length) := by
  simpa only [leNat, List.length_map] using packNat_lt 8 (b.map BitVec.toNat)

/-- Every value of 16 bits is one of the mask. -/
theorem settingAbort_eventMask (s : State) {v : Nat} (hv : v < 0x10000) : s.settingAbort 0x2E0002 v = 0 := by
  have hrange : s.settingRange 0x2E0002 = some (0, 0xFFFF, 1) := rfl
  have hvalue : settingValue 0x2E0002 v = (v : Int) := rfl
  have hclash : s.settingClash 0x2E0002 v = false := rfl
  have hhigh : ¬(0xFFFF : Int) < (v : Int) := by omega
  have hlow : ¬(v : Int) < 0 := by omega
  simp only [State.settingAbort, hrange, hvalue, hclash, hhigh, hlow, if_false, Nat.mod_one, ne_eq, not_true_eq_false,
    Bool.false_eq_true, or_self]

theorem download_eventMask (hs : Serves s c) {b : List Byte} (hb : b.length = 2) :
    s.download c 0x2E00 2 b = (s.acceptSetting 0x2E0002 (leNat b)).answer c 0 [] := by
  have hfree : s.downloadAbort c 0x2E00 2 b.length = 0 := by rw [hb, downloadAbort_eventMask]
  have hwindow : windowIndex 0x2E00 = false := by decide
  have hplain : s.writeSpecial c 0x2E0002 b = none := rfl
  have hvalue : s.settingAbort 0x2E0002 (leNat b) = 0 := settingAbort_eventMask s (by simpa [hb] using leNat_lt b)
  have hwrite : s.download c 0x2E00 2 b = s.requestOpen c [(decide (s.settingAbort 0x2E0002 (leNat b) ≠ 0), s.settingAbort 0x2E0002 (leNat b))]
      fun s => s.acceptSetting 0x2E0002 (leNat b) := by
    rw [State.download, hfree]
    rfl
  rw [hwrite, requestOpen_ok hs (by simp [hvalue])]

theorem exec_sdoAccess_upload_eventMask (hs : Serves s c) :
    exec (.sdoAccess c ⟨0x2E00, 2⟩ .upload) s = .next (s.answer c 0 (leBytes 2 (s.accepted 0x2E0002))) := by
  have hindex : (0x2E00 : BitVec 16).toNat = 0x2E00 := rfl
  have hsub : (2 : Byte).toNat = 2 := rfl
  rw [exec_sdoAccess_upload_of_readable hs]
  · rw [hindex, hsub, readObject_eventMask]
  · rw [hindex, hsub, uploadAbort_eventMask]
  · decide

theorem exec_sdoAccess_download_eventMask (hs : Serves s c) {b : List Byte} (hb : b.length = 2) :
    exec (.sdoAccess c ⟨0x2E00, 2⟩ (.download b)) s = .next ((s.acceptSetting 0x2E0002 (leNat b)).answer c 0 []) := by
  have hindex : (0x2E00 : BitVec 16).toNat = 0x2E00 := rfl
  have hsub : (2 : Byte).toNat = 2 := rfl
  rw [exec_sdoAccess, execSdoAccess, State.access, hindex, hsub, download_eventMask hs hb]

theorem objectSpec_unlisted (sub : Nat) : objectSpec 0x2FFF sub = none := rfl

theorem uploadAbort_unlisted (s : State) (c : Channel) : s.uploadAbort c 0x2FFF 1 = 0x06020000 := by
  have hwindow : windowIndex 0x2FFF = false := by decide
  have hrevision : revisionFive 0x2FFF = false := by decide
  have hlisted : indexListed 0x2FFF = false := by simp [indexListed, objectSpec_unlisted]
  simp [State.uploadAbort, State.addressAbort, hwindow, hrevision, hlisted]

/-! ### FoE on P3 (R452, R489) -/

/-- FOE_WRITE on P3 outside INIT. -/
theorem foeWrite_reached (hinit : s.ecat.p3 ≠ .init) (hloop : s.loopHolds 3 = false) :
    ¬(s.ecat.p3 = .init ∨ (Channel.p3 ≠ .p3 ∧ (!s.startHalted) = true) ∨ s.loopHolds 3 = true) := by
  simp [hinit, hloop]

theorem p3_boot_of_startHalted (hhalted : s.startHalted = true) : s.ecat.p3 = .boot := by
  simp only [State.startHalted, Bool.and_eq_true, decide_eq_true_eq] at hhalted
  exact hhalted.2

/-- While secure boot has stopped the image goes to slot A, which a good one makes active. -/
theorem exec_foeWrite_of_startHalted (hhalted : s.startHalted = true) (hloop : s.loopHolds 3 = false) (c : Channel)
    (image : Firmware) {s1 : State} (hs1 : s1 = s.writeFirmware false image) :
    exec (.foeWrite c true false image) s = .next
      ((if s.trailerOk 1 image.trailer then { s1 with svc := { s1.svc with activeB := false } } else s1).answer c
        (if s.trailerOk 1 image.trailer then 0 else 0x800B) []) := by
  have hboot : s.ecat.p3 = .boot := p3_boot_of_startHalted hhalted
  subst hs1
  simp only [exec_foeWrite, execFoeWrite, hhalted, hloop, hboot, reduceCtorEq, Bool.not_true, Bool.false_eq_true, and_false,
    or_self, if_false, Bool.false_and, ne_eq, not_true_eq_false, decide_false, Bool.true_and]

end Sys2Proof.Machine

namespace Sys2Proof
open Sys2Proof.Machine

/-- Settles O22: what forbids an access gives its answer, and each other access or command takes the branch of its conditions. -/
theorem servicePort : Obligations.ServicePort := by
  unfold Obligations.ServicePort
  intro s
  refine ⟨fun c hs => exec_sdoAccess_upload_eventMask hs, fun c b hs hb => exec_sdoAccess_download_eventMask hs hb,
    fun c hs => ?unlisted,
    fun c a hs habort => exec_sdoAccess_upload_abort hs habort,
    fun c a hs hfree hacts => exec_sdoAccess_upload_of_readable hs hfree hacts,
    fun c a b ht habort => exec_sdoAccess_download_abort ht habort,
    fun c a b k v ht hk hv hfree hwindow hgroup hplain hrange => ?setting,
    fun image hinit hloop hruns huser => ?foe,
    fun image nameOk hinit hloop => ?foeRead,
    fun image hinit hloop => ?foeName,
    fun image hinit hloop hruns huser => ?foeRole,
    fun variant useVariant heartbeat hop hloop => exec_rxpdoReceive_of_op hop hloop variant useVariant heartbeat,
    fun code q rest hqueue hserves => ?emergency,
    fun request hpower hlegal hloop => congrArg Host.Outcome.next (if_neg ?transition),
    fun rev ht hpre hrev => congrArg Host.Outcome.next (request_ok ht ?offer),
    fun c seg eni ht hgood hloop hidle => ?eniNow, fun c seg eni ht hgood hloop hidle => ?eniNext,
    fun c seg eni ht hbad => ?eniBad,
    fun c image s1 hhalted hloop hs1 => exec_foeWrite_of_startHalted hhalted hloop c image hs1⟩
  case unlisted =>
    have habort : s.uploadAbort c ((0x2FFF : BitVec 16).toNat) ((1 : Byte).toNat) = 0x06020000 := uploadAbort_unlisted s c
    rw [exec_sdoAccess_upload_abort hs (by rw [habort]; decide), habort]
  case setting =>
    subst hk hv
    rw [exec_sdoAccess, execSdoAccess, State.access, download_plain hfree hwindow hgroup hplain hrange]
    by_cases hvalue : s.settingAbort (a.index.toNat * 256 + a.sub.toNat) (leNat b) = 0
    · rw [writeSetting_ok ht hvalue, if_pos hvalue]
    · rw [writeSetting_abort ht hvalue, if_neg hvalue]
  case foe =>
    simp only [exec_foeWrite, execFoeWrite, foeWrite_reached hinit hloop, if_false]
    simp only [hruns, huser, Bool.not_true, Bool.false_eq_true, Bool.and_false, if_false, Bool.false_and]
  case foeRead => simp only [exec_foeWrite, execFoeWrite, foeWrite_reached hinit hloop, if_false, if_true]
  case foeName =>
    simp only [exec_foeWrite, execFoeWrite, foeWrite_reached hinit hloop, if_false, Bool.not_false, Bool.false_eq_true, if_true]
  case foeRole =>
    simp only [exec_foeWrite, execFoeWrite, foeWrite_reached hinit hloop, if_false]
    simp only [hruns, huser, Bool.not_true, Bool.not_false, Bool.false_eq_true, if_false, Bool.and_self, if_true]
  case emergency => simp only [exec_emergencySend, execEmergencySend, hqueue, hserves, Bool.not_true, Bool.false_eq_true, if_false]
  case transition => simp [hpower, hlegal, hloop]
  case offer => simp [hpre, Nat.not_lt.mpr hrev]
  case eniNow =>
    simp only [exec_loadEni, execLoadEni, request_ok ht List.find?_nil, hgood, hloop, hidle, ne_eq, not_true_eq_false, if_false, if_true]
  case eniNext =>
    simp only [exec_loadEni, execLoadEni, request_ok ht List.find?_nil, hgood, hloop, hidle, ne_eq, not_true_eq_false, if_false]
  case eniBad =>
    simp only [exec_loadEni, execLoadEni, request_ok ht List.find?_nil, hbad, ne_eq, not_false_eq_true, if_true]

end Sys2Proof
end
